-- ==== Sys2Proof/Word.lean ====
section
/-! DEFINITION. The plain word types of the FS640's outward grammar (chapter 11). -/

namespace Sys2Proof

/-- One byte on the control link, one character's 8 data bits on a field line, one byte of sample
memory (11.1, 11.5, 11.6). -/
abbrev Byte := BitVec 8

/-- One signed 16-bit audio sample (R135). -/
abbrev Sample := BitVec 16

end Sys2Proof
end

