-- ==== Sys2Proof/Config.lean ====
section
/-! DEFINITION. The capacities and limits the manual fixes (chapter 0, "Figures shared by all
chapters"), the silicon revision, and the FREE VALUES: constants without a body, of which nothing
can be proved, for the values the manual leaves open. -/

namespace Sys2Proof.Config

/-- Cue slots of the store (R5). -/
def cueSlots : Nat := 4096

/-- The greatest show time and show length, in milliseconds (R25). -/
def showTimeMax : Nat := 16777215

/-- The greatest ramp, in milliseconds (R1). -/
def rampMax : Nat := 60000

/-- Audio frames that make one show tick (R26). -/
def framesPerTick : Nat := 48

/-- Audio frames of sample memory (R135). -/
def memoryFrames : Nat := 33554432

/-- Bytes of sample memory: four a frame (R135, 11.6). -/
def memoryBytes : Nat := 134217728

/-- The largest request, in bytes after the prefix (R155). -/
def largestRequest : Nat := 1040

/-- Rounds between two join attempts of a LOST node (R88, R98). -/
def rejoinRounds : Nat := 16

/-- The part code answered by IDENTIFY (R161). -/
def partCode : Nat := 0x0640

/-- The silicon revision answered by IDENTIFY. DEDUCED (log 22): R161 gives 1 to 255 and says that the
manual describes revision 1, so the part modelled is revision 1. -/
def revision : Nat := 1

/-- FREE VALUE (log 8): the byte that sample memory came up with at its `epoch`-th power-on at byte
address `address`. R135: a frame not written since power-on "holds whatever value the memory came up
with". -/
opaque powerOnByte (epoch address : Nat) : Byte

/-- FREE VALUE (log 9): how many of the frames of a LOAD FRAMES under way had been written when the
`n`-th pin reset cut it short. R138 gives the order of the writes and says that the writing takes time;
no rule says how far it had come. -/
opaque framesWrittenAtCut (n : Nat) : Nat

/-- FREE VALUE (log 10): what READ LINE shows as the number of a line's ABSENT nodes, for line code
`line` and `absent` ABSENT records in all. R102 and 11.4 carry the count; R86 says that the line field
of an ABSENT record means nothing. -/
opaque absentNodesShown (line absent : Nat) : Byte

/-- FREE VALUE (log 30): whether the driver enable stays asserted over the idle character between a break and
its IDENTIFY order. R85 asserts it for the whole of an order or break and does not speak of the character between
them. -/
opaque driverEnabledAfterBreak : Bool

end Sys2Proof.Config
end

