-- ==== Sys2Proof/Syntax.lean ====
section
/-! DEFINITION. The commands: one constructor of `Instr` for each row of spec/opcode_table.json. A
request row carries the request's parameters as the control link carries them (11.2), before any range
check, so that an out-of-range value can be written down and is refused by the owning block. An event
row carries what the event itself brings. -/

namespace Sys2Proof

/-- The two field lines (R83). -/
inductive Line where
  | a
  | b
  deriving DecidableEq, Repr

/-- The two voices (R141). -/
inductive VoiceId where
  | v0
  | v1
  deriving DecidableEq, Repr

/-- The two debounced basin level inputs (R107). -/
inductive LevelInput where
  | low
  | lowLow
  deriving DecidableEq, Repr

/-- What caused a pin reset (R154). -/
inductive PinResetCause where
  | powerOn
  | resetLine
  deriving DecidableEq, Repr

/-- One audio frame: a left and a right sample (R135). -/
structure Frame where
  left : Sample
  right : Sample
  deriving DecidableEq, Repr

/-- One character received on a field line: its 8 data bits, its mark bit and whether its stop bit was
high (R85, R91). -/
structure RxChar where
  data : Byte
  mark : Bool
  stopHigh : Bool
  deriving DecidableEq, Repr

/-- Four values, one for each colour R, G, B and W. A jet height or a programme gain stands in `r` with
the other three 0, as READ CHANNEL lays an 8-byte value out (11.4). -/
structure Levels where
  r : Nat
  g : Nat
  b : Nat
  w : Nat
  deriving DecidableEq, Repr

/-- The eight payload bytes of a cue record as four 2-byte words (11.3): a jet's height is `w0`; a head's
R, G, B, W are `w0` to `w3`; a programme payload has its action in the high byte of `w0`, its segment
in the low byte of `w0` and its gain in `w1`. -/
structure RawPayload where
  w0 : Nat
  w1 : Nat
  w2 : Nat
  w3 : Nat
  deriving DecidableEq, Repr

/-- The parameters of PLACE CUE: the cue record as carried (11.3, R9). -/
structure CueArgs where
  number : Nat
  channel : Nat
  start : Nat
  ramp : Nat
  shape : Nat
  payload : RawPayload
  deriving DecidableEq, Repr

/-- The parameters of AMEND CUE (11.2, R13). Selection bits 0 to 3 name start, ramp, shape, payload. -/
structure AmendArgs where
  number : Nat
  selection : Nat
  start : Nat
  ramp : Nat
  shape : Nat
  payload : RawPayload
  deriving DecidableEq, Repr

/-- A valve node and one of its outputs, as carried (R80). -/
structure ValveArgs where
  node : Nat
  output : Nat
  deriving DecidableEq, Repr

/-- The parameters of SET GROUP (11.2, R80). -/
structure GroupArgs where
  group : Nat
  enabled : Bool
  critical : Bool
  pumpNode : Option Nat
  valve : Option ValveArgs
  heightLimit : Nat
  lead : Nat
  upStep : Nat
  downStep : Nat
  safeDownStep : Nat
  bypass : Nat
  windClass : Option Nat
  ratedPower : Nat
  deriving DecidableEq, Repr

/-- One point of a height curve (R63). -/
structure CurvePoint where
  height : Nat
  speed : Nat
  deriving DecidableEq, Repr

/-- The six settings of a field line (R83). -/
structure LineSettings where
  prescale : Nat
  divisor : Nat
  roundPeriod : Nat
  retryLimit : Nat
  lostLimit : Nat
  replyWait : Nat
  deriving DecidableEq, Repr

/-- The outputs a head's assignment names, as carried (R121). -/
structure HeadOutputArgs where
  r : Nat
  g : Nat
  b : Nat
  w : Option Nat
  deriving DecidableEq, Repr

/-- The parameters of SET HEAD (11.2, R122). -/
structure HeadArgs where
  head : Nat
  enabled : Bool
  outputs : Option HeadOutputArgs
  response : Nat
  deriving DecidableEq, Repr

/-- The seven supervision settings (R116). The debounce time is carried and kept as its count of 10 ms
steps. -/
structure SupSettings where
  silenceLimit : Nat
  debounceSteps : Nat
  levelCap : Nat
  windScale : Nat
  lightSafeFade : Nat
  lightReturnFade : Nat
  audioSafeFade : Nat
  deriving DecidableEq, Repr

/-- The answer statuses (R158). -/
inductive Status where
  | done
  | unknown
  | badLength
  | outOfRange
  | noSuch
  | duplicate
  | clash
  | storeFull
  | tooLate
  | inUse
  | wrongState
  | protected_
  | overlap
  | referenced
  | setOnce
  | unready
  deriving DecidableEq, Repr

/-- The 47 requests of the request table (11.2), each with its parameters. -/
inductive Request where
  | start
  | pause
  | resume
  | stop
  | seek (time : Nat)
  | setShowLength (length : Nat)
  | readClock
  | placeCue (cue : CueArgs)
  | amendCue (amendment : AmendArgs)
  | retireCue (number : Nat)
  | retirePassed (time : Nat) (channel : Option Nat)
  | readCue (number : Nat)
  | readChannel (channel : Nat)
  | readStore
  | setStoreThreshold (threshold : Nat)
  | setGroup (group : GroupArgs)
  | setCurve (group : Nat) (curve : Vector CurvePoint 8)
  | setWindClass (windClass lo hi floor : Nat)
  | setBudget (budget : Nat)
  | readGroup (group : Nat)
  | setLine (line : Nat) (settings : LineSettings)
  | setNode (node line address kind : Nat)
  | dropNode (node : Nat)
  | rejoinNode (node : Nat)
  | readNode (node : Nat)
  | readLine (line : Nat)
  | setOutputSense (output sense : Nat)
  | setHead (head : HeadArgs)
  | setSafeScene (scene : Levels)
  | setMaster (value : Nat)
  | readHead (head : Nat)
  | defineSegment (segment firstFrame length : Nat) (loopStart : Option Nat)
  | loadFrames (segment offset count : Nat) (frames : List Frame)
  | finishSegment (segment : Nat)
  | reopenSegment (segment : Nat)
  | dropSegment (segment : Nat)
  | setAudio (clockMode outputFormat : Nat)
  | readPlayback (segment : Nat)
  | setSupervision (settings : SupSettings)
  | forceSafe
  | clearSafe
  | readSupervision
  | readAttention
  | clearAttention (causes : Nat)
  | setAttentionMask (causes : Nat)
  | identify
  | restart
  deriving DecidableEq, Repr

/-- The commands, one constructor for each row of spec/opcode_table.json. -/
inductive Instr where
  | start
  | pause
  | resume
  | stop
  | seek (time : Nat)
  | setShowLength (length : Nat)
  | readClock
  | placeCue (cue : CueArgs)
  | amendCue (amendment : AmendArgs)
  | retireCue (number : Nat)
  | retirePassed (time : Nat) (channel : Option Nat)
  | readCue (number : Nat)
  | readChannel (channel : Nat)
  | readStore
  | setStoreThreshold (threshold : Nat)
  | setGroup (group : GroupArgs)
  | setCurve (group : Nat) (curve : Vector CurvePoint 8)
  | setWindClass (windClass lo hi floor : Nat)
  | setBudget (budget : Nat)
  | readGroup (group : Nat)
  | setLine (line : Nat) (settings : LineSettings)
  | setNode (node line address kind : Nat)
  | dropNode (node : Nat)
  | rejoinNode (node : Nat)
  | readNode (node : Nat)
  | readLine (line : Nat)
  | setOutputSense (output sense : Nat)
  | setHead (head : HeadArgs)
  | setSafeScene (scene : Levels)
  | setMaster (value : Nat)
  | readHead (head : Nat)
  | defineSegment (segment firstFrame length : Nat) (loopStart : Option Nat)
  | loadFrames (segment offset count : Nat) (frames : List Frame)
  /-- The last sample memory write of a LOAD FRAMES is made (R138). -/
  | loadFramesWritten
  | finishSegment (segment : Nat)
  | reopenSegment (segment : Nat)
  | dropSegment (segment : Nat)
  | setAudio (clockMode outputFormat : Nat)
  | readPlayback (segment : Nat)
  | setSupervision (settings : SupSettings)
  | forceSafe
  | clearSafe
  | readSupervision
  | readAttention
  | clearAttention (causes : Nat)
  | setAttentionMask (causes : Nat)
  | identify
  | restart
  /-- A SEND frame completes; `bytes` are the whole bytes after its prefix (R155, R156). -/
  | sendFrame (bytes : List Byte)
  /-- A FETCH frame in which `count` whole bytes are clocked after the prefix (R157). -/
  | fetchFrame (count : Nat)
  /-- A disregarded frame; `bytes` are its whole bytes, its prefix included if it was whole (R155). -/
  | disregardedFrame (bytes : List Byte)
  | pinReset (cause : PinResetCause)
  | audioFrame
  | showTick
  | segmentEnd (voice : VoiceId)
  | safeFadeEnd
  | wordClockLossExpiry
  | roundTimerExpiry (line : Line)
  | attemptStart (line : Line)
  | replyWaitExpiry (line : Line)
  /-- The answer under way on a line ends; `chars` are the characters collected (R90). -/
  | answerEnd (line : Line) (chars : List RxChar)
  | anemometerPulse
  | gateEnd
  /-- The level of a basin input becomes high or low (R107). -/
  | levelInputChange (input : LevelInput) (high : Bool)
  | debounceExpiry (input : LevelInput)
  /-- The level of the E-STOP input becomes high or low (R108). -/
  | estopInputChange (high : Bool)
  | estopFilterExpiry
  | silenceTimerExpiry
  | lightUpdate
  | pwmFrameBoundary
  | wordClockEdge
  | answerBegin (line : Line)
  | requestCompletion
  deriving DecidableEq, Repr

end Sys2Proof
end

