-- ==== Sys2Proof/WellFormed.lean ====
section
/-! DEFINITION. Which commands can stand on the part's pins at all: a request's parameters fit the bytes
that carry them (11.2), an absent code is no value, a SEND carries a byte, a disregarded frame is one
(R155), an answer has 1 to 259 characters (R90). Range checks are NOT made here: an out-of-range value
is well formed and is refused by the owning block. -/

namespace Sys2Proof

/-- A value fits a field of `n` bytes. -/
def fits (n value : Nat) : Bool := value < 256 ^ n

/-- A value fits a one-byte field and is not the absent code 0xFF (11.2). -/
def fitsPresent (value : Nat) : Bool := value < 255

/-- An optional one-byte value: absent, or present as `fitsPresent` says. -/
def fitsOption : Option Nat → Bool
  | none => true
  | some v => fitsPresent v

def RawPayload.wf (p : RawPayload) : Bool :=
  fits 2 p.w0 && fits 2 p.w1 && fits 2 p.w2 && fits 2 p.w3

def CueArgs.wf (c : CueArgs) : Bool :=
  fits 2 c.number && fits 1 c.channel && fits 4 c.start && fits 2 c.ramp && fits 1 c.shape && c.payload.wf

def AmendArgs.wf (a : AmendArgs) : Bool :=
  fits 2 a.number && fits 1 a.selection && fits 4 a.start && fits 2 a.ramp && fits 1 a.shape && a.payload.wf

def ValveArgs.wf (v : ValveArgs) : Bool := fitsPresent v.node && fits 1 v.output

def GroupArgs.wf (g : GroupArgs) : Bool :=
  fits 1 g.group && fitsOption g.pumpNode && (g.valve.all ValveArgs.wf) && fits 2 g.heightLimit && fits 2 g.lead &&
    fits 1 g.upStep && fits 1 g.downStep && fits 1 g.safeDownStep && fits 2 g.bypass && fitsOption g.windClass &&
    fits 2 g.ratedPower

def CurvePoint.wf (p : CurvePoint) : Bool := fits 2 p.height && fits 2 p.speed

def LineSettings.wf (l : LineSettings) : Bool :=
  fits 1 l.prescale && fits 2 l.divisor && fits 1 l.roundPeriod && fits 1 l.retryLimit && fits 1 l.lostLimit &&
    fits 1 l.replyWait

def HeadOutputArgs.wf (o : HeadOutputArgs) : Bool :=
  fits 1 o.r && fits 1 o.g && fits 1 o.b && fitsOption o.w

def HeadArgs.wf (h : HeadArgs) : Bool :=
  fits 1 h.head && h.outputs.all HeadOutputArgs.wf && fits 1 h.response

def Levels.wf (l : Levels) : Bool := fits 2 l.r && fits 2 l.g && fits 2 l.b && fits 2 l.w

def SupSettings.wf (c : SupSettings) : Bool :=
  fits 1 c.silenceLimit && fits 1 c.debounceSteps && fits 2 c.levelCap && fits 2 c.windScale &&
    fits 2 c.lightSafeFade && fits 2 c.lightReturnFade && fits 2 c.audioSafeFade

/-- The request's parameters fit the fields of 11.2. A LOAD FRAMES carries as many frames as its count
says, and no more than a request of 1,040 bytes can hold. -/
def Request.wf : Request → Bool
  | .start | .pause | .resume | .stop | .readClock | .readStore | .forceSafe | .clearSafe | .readSupervision
  | .readAttention | .identify | .restart => true
  | .seek t => fits 4 t
  | .setShowLength l => fits 4 l
  | .placeCue c => c.wf
  | .amendCue a => a.wf
  | .retireCue n => fits 2 n
  | .retirePassed t c => fits 4 t && fitsOption c
  | .readCue n => fits 2 n
  | .readChannel c => fits 1 c
  | .setStoreThreshold t => fits 2 t
  | .setGroup g => g.wf
  | .setCurve g c => fits 1 g && c.toList.all CurvePoint.wf
  | .setWindClass c lo hi f => fits 1 c && fits 2 lo && fits 2 hi && fits 2 f
  | .setBudget b => fits 2 b
  | .readGroup g => fits 1 g
  | .setLine l c => fits 1 l && c.wf
  | .setNode n l a k => fits 1 n && fits 1 l && fits 1 a && fits 1 k
  | .dropNode n => fits 1 n
  | .rejoinNode n => fits 1 n
  | .readNode n => fits 1 n
  | .readLine l => fits 1 l
  | .setOutputSense o s => fits 1 o && fits 1 s
  | .setHead h => h.wf
  | .setSafeScene l => l.wf
  | .setMaster v => fits 2 v
  | .readHead h => fits 1 h
  | .defineSegment s f l p => fits 1 s && fits 4 f && fits 4 l && p.all (fun v => v < 4294967295)
  | .loadFrames s o c fs => fits 1 s && fits 4 o && c ≤ 256 && fs.length = c
  | .finishSegment s => fits 1 s
  | .reopenSegment s => fits 1 s
  | .dropSegment s => fits 1 s
  | .setAudio m f => fits 1 m && fits 1 f
  | .readPlayback s => fits 1 s
  | .setSupervision c => c.wf
  | .clearAttention c => fits 2 c
  | .setAttentionMask c => fits 2 c

/-- The request a request row stands for; none for an event row. -/
def Instr.request? : Instr → Option Request
  | .start => some .start
  | .pause => some .pause
  | .resume => some .resume
  | .stop => some .stop
  | .seek t => some (.seek t)
  | .setShowLength l => some (.setShowLength l)
  | .readClock => some .readClock
  | .placeCue c => some (.placeCue c)
  | .amendCue a => some (.amendCue a)
  | .retireCue n => some (.retireCue n)
  | .retirePassed t c => some (.retirePassed t c)
  | .readCue n => some (.readCue n)
  | .readChannel c => some (.readChannel c)
  | .readStore => some .readStore
  | .setStoreThreshold t => some (.setStoreThreshold t)
  | .setGroup g => some (.setGroup g)
  | .setCurve g c => some (.setCurve g c)
  | .setWindClass c lo hi f => some (.setWindClass c lo hi f)
  | .setBudget b => some (.setBudget b)
  | .readGroup g => some (.readGroup g)
  | .setLine l c => some (.setLine l c)
  | .setNode n l a k => some (.setNode n l a k)
  | .dropNode n => some (.dropNode n)
  | .rejoinNode n => some (.rejoinNode n)
  | .readNode n => some (.readNode n)
  | .readLine l => some (.readLine l)
  | .setOutputSense o s => some (.setOutputSense o s)
  | .setHead h => some (.setHead h)
  | .setSafeScene l => some (.setSafeScene l)
  | .setMaster v => some (.setMaster v)
  | .readHead h => some (.readHead h)
  | .defineSegment s f l p => some (.defineSegment s f l p)
  | .loadFrames s o c fs => some (.loadFrames s o c fs)
  | .finishSegment s => some (.finishSegment s)
  | .reopenSegment s => some (.reopenSegment s)
  | .dropSegment s => some (.dropSegment s)
  | .setAudio m f => some (.setAudio m f)
  | .readPlayback s => some (.readPlayback s)
  | .setSupervision c => some (.setSupervision c)
  | .forceSafe => some .forceSafe
  | .clearSafe => some .clearSafe
  | .readSupervision => some .readSupervision
  | .readAttention => some .readAttention
  | .clearAttention c => some (.clearAttention c)
  | .setAttentionMask c => some (.setAttentionMask c)
  | .identify => some .identify
  | .restart => some .restart
  | .loadFramesWritten | .sendFrame _ | .fetchFrame _ | .disregardedFrame _ | .pinReset _ | .audioFrame | .showTick
  | .segmentEnd _ | .safeFadeEnd | .wordClockLossExpiry | .roundTimerExpiry _ | .attemptStart _ | .replyWaitExpiry _
  | .answerEnd _ _ | .anemometerPulse | .gateEnd | .levelInputChange _ _ | .debounceExpiry _ | .estopInputChange _
  | .estopFilterExpiry | .silenceTimerExpiry | .lightUpdate | .pwmFrameBoundary | .wordClockEdge | .answerBegin _
  | .requestCompletion => none

/-- A frame that R155 disregards: no whole prefix, a prefix that is neither SEND nor FETCH, or (R164) a
SEND with no byte after its prefix. -/
def disregarded : List Byte → Bool
  | [] => true
  | p :: rest => (p != 0xA5#8 && p != 0x5A#8) || (p == 0xA5#8 && rest.isEmpty)

/-- The event part of well-formedness. -/
def Instr.eventWf : Instr → Bool
  | .sendFrame bytes => !bytes.isEmpty
  | .disregardedFrame bytes => disregarded bytes
  | .answerEnd _ chars => decide (1 ≤ chars.length) && decide (chars.length ≤ 259)
  | _ => true

/-- A command that can stand on the part's pins. -/
def Instr.wf (i : Instr) : Bool := (i.request?.all Request.wf) && i.eventWf

end Sys2Proof
end

