-- ==== Sys2Proof/Decode.lean ====
section
/-! DEFINITION. The control link's grammar (R155, R164, R165, chapter 11): reading a request from the
bytes of a SEND frame, total on any bytes, with UNKNOWN and BAD LENGTH by name; and after it the encoder,
the bytes of a request. `decodeTableWord`, at the end, is what the host asks of the opcode table's own
bits: the table gives no row any. -/

namespace Sys2Proof

/-- The value of bytes sent most significant first (chapter 11). -/
def beValue (bytes : List Byte) : Nat := bytes.foldl (fun v b => v * 256 + b.toNat) 0

/-- `n` bytes of a value, most significant first (chapter 11). -/
def beBytes : Nat → Nat → List Byte
  | 0, _ => []
  | n + 1, v => BitVec.ofNat 8 (v / 256 ^ n) :: beBytes n v

/-- The value of the field of `len` bytes at offset `at_`. -/
def field (bytes : List Byte) (at_ len : Nat) : Nat := beValue ((bytes.drop at_).take len)

/-- A one-byte field that may be absent: 0xFF is the absent code (11.2). -/
def absentByte (v : Nat) : Option Nat := if v = 255 then none else some v

/-- The byte that shows an optional one-byte value: 0xFF where it is absent (R165). -/
def optByte : Option Nat → Nat
  | none => 255
  | some v => v

/-- One bit of a flags byte. -/
def flagBit (v bit : Nat) : Bool := v.testBit bit

/-- One bit as a number. -/
def bitNat (b : Bool) : Nat := if b then 1 else 0

/-! ### The request table (11.2) -/

/-- The request code of a request (11.2). -/
def Request.code : Request → Nat
  | .start => 0x01
  | .pause => 0x02
  | .resume => 0x03
  | .stop => 0x04
  | .seek _ => 0x05
  | .setShowLength _ => 0x06
  | .readClock => 0x07
  | .placeCue _ => 0x10
  | .amendCue _ => 0x11
  | .retireCue _ => 0x12
  | .retirePassed _ _ => 0x13
  | .readCue _ => 0x14
  | .readChannel _ => 0x15
  | .readStore => 0x16
  | .setStoreThreshold _ => 0x17
  | .setGroup _ => 0x20
  | .setCurve _ _ => 0x21
  | .setWindClass _ _ _ _ => 0x22
  | .setBudget _ => 0x23
  | .readGroup _ => 0x24
  | .setLine _ _ => 0x28
  | .setNode _ _ _ _ => 0x29
  | .dropNode _ => 0x2A
  | .rejoinNode _ => 0x2B
  | .readNode _ => 0x2C
  | .readLine _ => 0x2D
  | .setOutputSense _ _ => 0x30
  | .setHead _ => 0x31
  | .setSafeScene _ => 0x32
  | .setMaster _ => 0x33
  | .readHead _ => 0x34
  | .defineSegment _ _ _ _ => 0x38
  | .loadFrames _ _ _ _ => 0x39
  | .finishSegment _ => 0x3A
  | .reopenSegment _ => 0x3B
  | .dropSegment _ => 0x3C
  | .setAudio _ _ => 0x3D
  | .readPlayback _ => 0x3E
  | .setSupervision _ => 0x40
  | .forceSafe => 0x41
  | .clearSafe => 0x42
  | .readSupervision => 0x43
  | .readAttention => 0x48
  | .clearAttention _ => 0x49
  | .setAttentionMask _ => 0x4A
  | .identify => 0x4E
  | .restart => 0x4F

/-- The parameter length that the table gives a code (11.2), none for a code that is not in it. For LOAD
FRAMES it is 13 + 4 × count, with count read from the request's own count field (R164). -/
def requiredLength (code : Nat) (params : List Byte) : Option Nat :=
  match code with
  | 0x01 | 0x02 | 0x03 | 0x04 | 0x07 | 0x16 | 0x41 | 0x42 | 0x43 | 0x48 | 0x4E | 0x4F => some 0
  | 0x15 | 0x24 | 0x2A | 0x2B | 0x2C | 0x2D | 0x34 | 0x3A | 0x3B | 0x3C | 0x3E => some 1
  | 0x12 | 0x14 | 0x17 | 0x23 | 0x30 | 0x33 | 0x3D | 0x49 | 0x4A => some 2
  | 0x05 | 0x06 | 0x29 => some 4
  | 0x13 => some 5
  | 0x22 | 0x31 => some 7
  | 0x28 | 0x32 => some 8
  | 0x40 => some 12
  | 0x38 => some 13
  | 0x20 => some 17
  | 0x10 | 0x11 => some 18
  | 0x21 => some 33
  | 0x39 => some (13 + 4 * field params 5 2)
  | _ => none

/-! ### Reading the parameters -/

def readRawPayload (p : List Byte) (at_ : Nat) : RawPayload :=
  { w0 := field p at_ 2, w1 := field p (at_ + 2) 2, w2 := field p (at_ + 4) 2, w3 := field p (at_ + 6) 2 }

def readLevels (p : List Byte) (at_ : Nat) : Levels :=
  { r := field p at_ 2, g := field p (at_ + 2) 2, b := field p (at_ + 4) 2, w := field p (at_ + 6) 2 }

def readCueArgs (p : List Byte) : CueArgs :=
  { number := field p 0 2, channel := field p 2 1, start := field p 3 4, ramp := field p 7 2, shape := field p 9 1,
    payload := readRawPayload p 10 }

def readAmendArgs (p : List Byte) : AmendArgs :=
  { number := field p 0 2, selection := field p 2 1, start := field p 3 4, ramp := field p 7 2, shape := field p 9 1,
    payload := readRawPayload p 10 }

/-- The valve output is not read while the valve node is 0xFF, and flag bits above bit 1 are ignored
(R165). -/
def readGroupArgs (p : List Byte) : GroupArgs :=
  { group := field p 0 1, enabled := flagBit (field p 1 1) 0, critical := flagBit (field p 1 1) 1,
    pumpNode := absentByte (field p 2 1),
    valve := (absentByte (field p 3 1)).map (fun n => { node := n, output := field p 4 1 }),
    heightLimit := field p 5 2, lead := field p 7 2, upStep := field p 9 1, downStep := field p 10 1,
    safeDownStep := field p 11 1, bypass := field p 12 2, windClass := absentByte (field p 14 1),
    ratedPower := field p 15 2 }

def readCurvePoint (p : List Byte) (k : Nat) : CurvePoint :=
  { height := field p (1 + 4 * k) 2, speed := field p (3 + 4 * k) 2 }

def readCurve (p : List Byte) : Vector CurvePoint 8 :=
  #v[readCurvePoint p 0, readCurvePoint p 1, readCurvePoint p 2, readCurvePoint p 3,
     readCurvePoint p 4, readCurvePoint p 5, readCurvePoint p 6, readCurvePoint p 7]

def readLineSettings (p : List Byte) : LineSettings :=
  { prescale := field p 1 1, divisor := field p 2 2, roundPeriod := field p 4 1, retryLimit := field p 5 1,
    lostLimit := field p 6 1, replyWait := field p 7 1 }

/-- The four outputs are not read while the assigned bit is clear (R165). -/
def readHeadArgs (p : List Byte) : HeadArgs :=
  { head := field p 0 1, enabled := flagBit (field p 1 1) 0,
    outputs := if flagBit (field p 1 1) 1 then
        some { r := field p 2 1, g := field p 3 1, b := field p 4 1, w := absentByte (field p 5 1) }
      else none,
    response := field p 6 1 }

def readSupSettings (p : List Byte) : SupSettings :=
  { silenceLimit := field p 0 1, debounceSteps := field p 1 1, levelCap := field p 2 2, windScale := field p 4 2,
    lightSafeFade := field p 6 2, lightReturnFade := field p 8 2, audioSafeFade := field p 10 2 }

/-- The sample frames of a LOAD FRAMES, most significant byte first (11.6). -/
def readFrames : List Byte → List Frame
  | a :: b :: c :: d :: rest => { left := a ++ b, right := c ++ d } :: readFrames rest
  | _ => []

/-- The loop start of DEFINE SEGMENT: 0xFFFFFFFF is no loop (11.2). -/
def readLoopStart (v : Nat) : Option Nat := if v = 4294967295 then none else some v

/-- The request of a known code with parameters of the required length; none for an unknown code. -/
def readParams (code : Nat) (p : List Byte) : Option Request :=
  match code with
  | 0x01 => some .start
  | 0x02 => some .pause
  | 0x03 => some .resume
  | 0x04 => some .stop
  | 0x05 => some (.seek (field p 0 4))
  | 0x06 => some (.setShowLength (field p 0 4))
  | 0x07 => some .readClock
  | 0x10 => some (.placeCue (readCueArgs p))
  | 0x11 => some (.amendCue (readAmendArgs p))
  | 0x12 => some (.retireCue (field p 0 2))
  | 0x13 => some (.retirePassed (field p 0 4) (absentByte (field p 4 1)))
  | 0x14 => some (.readCue (field p 0 2))
  | 0x15 => some (.readChannel (field p 0 1))
  | 0x16 => some .readStore
  | 0x17 => some (.setStoreThreshold (field p 0 2))
  | 0x20 => some (.setGroup (readGroupArgs p))
  | 0x21 => some (.setCurve (field p 0 1) (readCurve p))
  | 0x22 => some (.setWindClass (field p 0 1) (field p 1 2) (field p 3 2) (field p 5 2))
  | 0x23 => some (.setBudget (field p 0 2))
  | 0x24 => some (.readGroup (field p 0 1))
  | 0x28 => some (.setLine (field p 0 1) (readLineSettings p))
  | 0x29 => some (.setNode (field p 0 1) (field p 1 1) (field p 2 1) (field p 3 1))
  | 0x2A => some (.dropNode (field p 0 1))
  | 0x2B => some (.rejoinNode (field p 0 1))
  | 0x2C => some (.readNode (field p 0 1))
  | 0x2D => some (.readLine (field p 0 1))
  | 0x30 => some (.setOutputSense (field p 0 1) (field p 1 1))
  | 0x31 => some (.setHead (readHeadArgs p))
  | 0x32 => some (.setSafeScene (readLevels p 0))
  | 0x33 => some (.setMaster (field p 0 2))
  | 0x34 => some (.readHead (field p 0 1))
  | 0x38 => some (.defineSegment (field p 0 1) (field p 1 4) (field p 5 4) (readLoopStart (field p 9 4)))
  | 0x39 => some (.loadFrames (field p 0 1) (field p 1 4) (field p 5 2) (readFrames (p.drop 13)))
  | 0x3A => some (.finishSegment (field p 0 1))
  | 0x3B => some (.reopenSegment (field p 0 1))
  | 0x3C => some (.dropSegment (field p 0 1))
  | 0x3D => some (.setAudio (field p 0 1) (field p 1 1))
  | 0x3E => some (.readPlayback (field p 0 1))
  | 0x40 => some (.setSupervision (readSupSettings p))
  | 0x41 => some .forceSafe
  | 0x42 => some .clearSafe
  | 0x43 => some .readSupervision
  | 0x48 => some .readAttention
  | 0x49 => some (.clearAttention (field p 0 2))
  | 0x4A => some (.setAttentionMask (field p 0 2))
  | 0x4E => some .identify
  | 0x4F => some .restart
  | _ => none

/-- The link's judgement of a taken request's bytes (R164, checks 1 and 2 of R158): the request, or
UNKNOWN for a code outside the table whatever follows, or BAD LENGTH for fewer than 3 bytes, for a
length field that differs from the bytes after it, and for one that differs from the table's. -/
def parseRequest (bytes : List Byte) : Except Status Request :=
  let code := field bytes 0 1
  let params := bytes.drop 3
  match requiredLength code params with
  | none => .error .unknown
  | some n =>
    if bytes.length < 3 ∨ params.length ≠ field bytes 1 2 ∨ field bytes 1 2 ≠ n then .error .badLength
    else match readParams code params with
      | some r => .ok r
      | none => .error .unknown

/-! ### The encoder -/

def RawPayload.bytes (p : RawPayload) : List Byte :=
  beBytes 2 p.w0 ++ beBytes 2 p.w1 ++ beBytes 2 p.w2 ++ beBytes 2 p.w3

def Levels.bytes (l : Levels) : List Byte :=
  beBytes 2 l.r ++ beBytes 2 l.g ++ beBytes 2 l.b ++ beBytes 2 l.w

def CueArgs.bytes (c : CueArgs) : List Byte :=
  beBytes 2 c.number ++ beBytes 1 c.channel ++ beBytes 4 c.start ++ beBytes 2 c.ramp ++ beBytes 1 c.shape ++
    c.payload.bytes

def AmendArgs.bytes (a : AmendArgs) : List Byte :=
  beBytes 2 a.number ++ beBytes 1 a.selection ++ beBytes 4 a.start ++ beBytes 2 a.ramp ++ beBytes 1 a.shape ++
    a.payload.bytes

def GroupArgs.bytes (g : GroupArgs) : List Byte :=
  beBytes 1 g.group ++ beBytes 1 (bitNat g.enabled + 2 * bitNat g.critical) ++ beBytes 1 (optByte g.pumpNode) ++
    beBytes 1 (optByte (g.valve.map (·.node))) ++ beBytes 1 (optByte (g.valve.map (·.output))) ++
    beBytes 2 g.heightLimit ++ beBytes 2 g.lead ++ beBytes 1 g.upStep ++ beBytes 1 g.downStep ++
    beBytes 1 g.safeDownStep ++ beBytes 2 g.bypass ++ beBytes 1 (optByte g.windClass) ++ beBytes 2 g.ratedPower

def CurvePoint.bytes (p : CurvePoint) : List Byte := beBytes 2 p.height ++ beBytes 2 p.speed

def curveBytes (c : Vector CurvePoint 8) : List Byte := c.toList.flatMap CurvePoint.bytes

/-- The six settings without the line byte, as READ LINE also shows them (11.4). -/
def LineSettings.bytes (l : LineSettings) : List Byte :=
  beBytes 1 l.prescale ++ beBytes 2 l.divisor ++ beBytes 1 l.roundPeriod ++ beBytes 1 l.retryLimit ++
    beBytes 1 l.lostLimit ++ beBytes 1 l.replyWait

/-- Flags, R, G, B, W and response: SET HEAD's parameters less the head index (11.4). -/
def headBytes (enabled : Bool) (outputs : Option HeadOutputArgs) (response : Nat) : List Byte :=
  beBytes 1 (bitNat enabled + 2 * bitNat outputs.isSome) ++ beBytes 1 (optByte (outputs.map (·.r))) ++
    beBytes 1 (optByte (outputs.map (·.g))) ++ beBytes 1 (optByte (outputs.map (·.b))) ++
    beBytes 1 (optByte (outputs.bind (·.w))) ++ beBytes 1 response

def HeadArgs.bytes (h : HeadArgs) : List Byte :=
  beBytes 1 h.head ++ headBytes h.enabled h.outputs h.response

def SupSettings.bytes (c : SupSettings) : List Byte :=
  beBytes 1 c.silenceLimit ++ beBytes 1 c.debounceSteps ++ beBytes 2 c.levelCap ++ beBytes 2 c.windScale ++
    beBytes 2 c.lightSafeFade ++ beBytes 2 c.lightReturnFade ++ beBytes 2 c.audioSafeFade

/-- A sample frame on the link: left then right, most significant byte first (11.6). -/
def Frame.bytes (f : Frame) : List Byte := beBytes 2 f.left.toNat ++ beBytes 2 f.right.toNat

def loopStartNat : Option Nat → Nat
  | none => 4294967295
  | some v => v

/-- The parameter bytes of a request, pad bytes 0 (11.2, R165). -/
def Request.params : Request → List Byte
  | .start | .pause | .resume | .stop | .readClock | .readStore | .forceSafe | .clearSafe | .readSupervision
  | .readAttention | .identify | .restart => []
  | .seek t => beBytes 4 t
  | .setShowLength l => beBytes 4 l
  | .placeCue c => c.bytes
  | .amendCue a => a.bytes
  | .retireCue n => beBytes 2 n
  | .retirePassed t c => beBytes 4 t ++ beBytes 1 (optByte c)
  | .readCue n => beBytes 2 n
  | .readChannel c => beBytes 1 c
  | .setStoreThreshold t => beBytes 2 t
  | .setGroup g => g.bytes
  | .setCurve g c => beBytes 1 g ++ curveBytes c
  | .setWindClass c lo hi f => beBytes 1 c ++ beBytes 2 lo ++ beBytes 2 hi ++ beBytes 2 f
  | .setBudget b => beBytes 2 b
  | .readGroup g => beBytes 1 g
  | .setLine l c => beBytes 1 l ++ c.bytes
  | .setNode n l a k => beBytes 1 n ++ beBytes 1 l ++ beBytes 1 a ++ beBytes 1 k
  | .dropNode n => beBytes 1 n
  | .rejoinNode n => beBytes 1 n
  | .readNode n => beBytes 1 n
  | .readLine l => beBytes 1 l
  | .setOutputSense o s => beBytes 1 o ++ beBytes 1 s
  | .setHead h => h.bytes
  | .setSafeScene l => l.bytes
  | .setMaster v => beBytes 2 v
  | .readHead h => beBytes 1 h
  | .defineSegment s f l p => beBytes 1 s ++ beBytes 4 f ++ beBytes 4 l ++ beBytes 4 (loopStartNat p)
  | .loadFrames s o c fs => beBytes 1 s ++ beBytes 4 o ++ beBytes 2 c ++ beBytes 6 0 ++ fs.flatMap Frame.bytes
  | .finishSegment s => beBytes 1 s
  | .reopenSegment s => beBytes 1 s
  | .dropSegment s => beBytes 1 s
  | .setAudio m f => beBytes 1 m ++ beBytes 1 f
  | .readPlayback s => beBytes 1 s
  | .setSupervision c => c.bytes
  | .clearAttention c => beBytes 2 c
  | .setAttentionMask c => beBytes 2 c

/-- The bytes of a request after the SEND prefix: code, parameter length, parameters (11.1). -/
def encodeRequest (r : Request) : List Byte :=
  beBytes 1 r.code ++ beBytes 2 r.params.length ++ r.params

/-! ### The opcode table's own bits -/

/-- No row of spec/opcode_table.json gives a command any bits (every row's `fields` is empty and none has
`fixed`), so no word spells a command. -/
def decodeTableWord (_nbits _w : Nat) : Option Instr := none

end Sys2Proof
end

