-- ==== Sys2Proof/Machine/State.lean ====
section
/-! DEFINITION. The state of the FS640 as plain data, block by block as chapter 0 lists the blocks, the
reasons a step can stop, and the state right after a power-on reset. -/

namespace Sys2Proof.Machine

/-! ### Cue store (chapter 1) -/

/-- The course of a transition (R1, R44). -/
inductive Shape where
  | linear
  | smooth
  deriving DecidableEq, Repr

/-- A cue's payload, by the kind of its channel (R2). -/
inductive Payload where
  | jet (height : Nat)
  | head (levels : Levels)
  | play (segment : Fin 64) (gain : Nat)
  | gain (gain : Nat)
  | quiet
  deriving DecidableEq, Repr

/-- The four states of a cue (R4). -/
inductive CueState where
  | waiting
  | live
  | standing
  | passed
  deriving DecidableEq, Repr

/-- One cue record (R1). Its channel is the timeline it stands in. -/
structure Cue where
  number : Nat
  start : Nat
  ramp : Nat
  shape : Shape
  payload : Payload
  state : CueState
  skipped : Bool
  dispatch : Nat
  deriving DecidableEq, Repr

/-- The cue store (R5, R6, R11): 49 timelines, each in start order, and the low-water threshold. The
number map and the store counts are worked out from the timelines. -/
structure Store where
  timelines : Vector (List Cue) 49
  threshold : Nat
  deriving DecidableEq, Repr

/-! ### Show clock (chapter 2) -/

/-- The clock states (R25). -/
inductive ClockState where
  | stopped
  | running
  | paused
  | safe
  deriving DecidableEq, Repr

/-- Who drives the audio clocks (R36). -/
inductive ClockMode where
  | master
  | follow
  deriving DecidableEq, Repr

/-- The clock record (R25), the word-clock loss timer (R37) and, the model's own, the show ticks that the
frame count has made and the clock has not yet handled (log 3). -/
structure Clock where
  state : ClockState
  showTime : Nat
  showLength : Nat
  framePhase : Nat
  mode : ClockMode
  safeOrigin : ClockState
  returnPending : Bool
  lossTimerRunning : Bool
  ticksDue : Nat
  deriving DecidableEq, Repr

/-! ### Timeline unit (chapter 3) -/

/-- A channel record (R41). -/
structure ChannelRec where
  taken : Option Nat
  fromVal : Levels
  toVal : Levels
  origin : Nat
  duration : Nat
  shape : Shape
  deriving DecidableEq, Repr

/-! ### Water unit (chapter 4) -/

/-- A group's shooter valve: a valve node and one of its outputs (R61). -/
structure ValveBinding where
  node : Fin 40
  output : Fin 8
  deriving DecidableEq, Repr

/-- The limit flags (R79). -/
structure LimitFlags where
  limit : Bool
  wind : Bool
  level : Bool
  safe : Bool
  valve : Bool
  slew : Bool
  budget : Bool
  declined : Bool
  lost : Bool
  deriving DecidableEq, Repr

/-- A jet group record (R61). The claimed speed is worked out (R65). -/
structure Group where
  enabled : Bool
  pumpNode : Option (Fin 40)
  valve : Option ValveBinding
  heightLimit : Nat
  lead : Nat
  upStep : Nat
  downStep : Nat
  safeDownStep : Nat
  bypass : Nat
  windClass : Option (Fin 4)
  ratedPower : Nat
  critical : Bool
  curve : Vector CurvePoint 8
  demanded : Nat
  capped : Nat
  target : Nat
  issued : Nat
  delivered : Nat
  valveOpen : Bool
  flags : LimitFlags
  deriving DecidableEq, Repr

/-- A wind class (R64). -/
structure WindClass where
  lo : Nat
  hi : Nat
  floor : Nat
  deriving DecidableEq, Repr

/-- The water unit: 32 groups, 4 wind classes, the supply budget (R61, R64, R74). -/
structure Water where
  groups : Vector Group 32
  windClasses : Vector WindClass 4
  budget : Nat
  deriving DecidableEq, Repr

/-! ### Field line controller (chapter 5) -/

inductive NodeState where
  | absent
  | joining
  | online
  | suspect
  | lost
  deriving DecidableEq, Repr

inductive JoinStage where
  | identify
  | configure
  | zero
  deriving DecidableEq, Repr

inductive NodeKind where
  | pump
  | valve
  deriving DecidableEq, Repr

/-- The judgement of an attempt (R86, R91). -/
inductive Condition where
  | none
  | silent
  | garbled
  | short
  | overlong
  | stale
  | mismatch
  | declined
  | clean
  deriving DecidableEq, Repr

/-- A node record (R86). -/
structure Node where
  state : NodeState
  stage : JoinStage
  line : Line
  address : Nat
  kind : NodeKind
  sequence : Bool
  failedRounds : Nat
  countdown : Nat
  rejoin : Bool
  condition : Condition
  reportedPower : Option Nat
  actualSpeed : Nat
  confirmedOpen : Byte
  faultCode : Byte
  deriving DecidableEq, Repr

/-- One character as sent: its mark bit and its 8 data bits (R85). -/
structure TxChar where
  mark : Bool
  data : Byte
  deriving DecidableEq, Repr

/-- What a turn sends (R88): a SET order, or the order of a join stage. -/
inductive Turn where
  | set
  | join (stage : JoinStage)
  deriving DecidableEq, Repr

/-- Where an attempt stands: `ready`, its order not yet begun; `listening`, its order sent and its reply
wait running; `collecting`, its answer begun (R89, R90). -/
inductive AttemptPhase where
  | ready
  | listening
  | collecting
  deriving DecidableEq, Repr

/-- The exchange of the turn under way (5.5): the node index, what the turn sends, the order once it is
built, the group the water unit computed it for, the further attempts made, and whether its node was
dropped meanwhile (R100). -/
structure Exchange where
  index : Fin 40
  turn : Turn
  order : List TxChar
  group : Option (Fin 32)
  further : Nat
  discard : Bool
  phase : AttemptPhase
  deriving DecidableEq, Repr

/-- The round state (R83). -/
inductive RoundState where
  | idle
  | underWay (index : Fin 40)
  deriving DecidableEq, Repr

/-- A line record (R83), its exchange under way, the period its round timer was last loaded with, and the
line's output: the characters of the latest order sent and whether a break preceded it (R85, R89). -/
structure LineRec where
  active : LineSettings
  pending : LineSettings
  round : RoundState
  pendingStart : Bool
  overrun : Bool
  roundCount : Nat
  timerPeriod : Nat
  exchange : Option Exchange
  sentOrder : List TxChar
  sentBreak : Bool
  deriving DecidableEq, Repr

/-- The field line controller: 2 lines and 40 nodes (R83, R86). -/
structure FieldLines where
  a : LineRec
  b : LineRec
  nodes : Vector Node 40
  deriving DecidableEq, Repr

/-! ### Supervision unit (chapter 6) -/

/-- A filtered input (R107, R108): the level at the pin, the accepted state, and when (in the model's
milliseconds) the level last changed. A level waits while it differs from the accepted state. -/
structure FilteredInput where
  high : Bool
  active : Bool
  since : Nat
  deriving DecidableEq, Repr

/-- The supervision record (R104). A set of safe causes is six bits, placed as 11.2 places them. -/
structure Supervision where
  pulseCount : Nat
  rawWind : Nat
  smoothedWind : Nat
  low : FilteredInput
  lowLow : FilteredInput
  estop : FilteredInput
  settings : SupSettings
  causes : BitVec 6
  seen : BitVec 6
  deriving DecidableEq, Repr

/-- The six safe causes (R111). -/
inductive SafeCause where
  | eStop
  | lowLow
  | clockLost
  | criticalLost
  | linkSilent
  | forced
  deriving DecidableEq, Repr

/-! ### Light unit (chapter 7) -/

/-- A light output's sense (R119). -/
inductive Sense where
  | unset
  | activeHigh
  | activeLow
  deriving DecidableEq, Repr

/-- An output record (R119); `driven` says whether the pin is driven in the PWM frame under way (R120). -/
structure Output where
  sense : Sense
  buffered : Nat
  committed : Nat
  driven : Bool
  deriving DecidableEq, Repr

/-- The outputs that carry a head's colours (R121). -/
structure HeadOutputs where
  r : Fin 64
  g : Fin 64
  b : Fin 64
  w : Option (Fin 64)
  deriving DecidableEq, Repr

/-- A head's response curve (R121). -/
inductive Response where
  | linear
  | square
  deriving DecidableEq, Repr

/-- A head record (R121). -/
structure Head where
  enabled : Bool
  outputs : Option HeadOutputs
  response : Response
  deriving DecidableEq, Repr

inductive BlendDirection where
  | rising
  | falling
  deriving DecidableEq, Repr

/-- The blend record (R125), with the blend `value` that the latest light update worked out. -/
structure Blend where
  direction : BlendDirection
  b0 : Nat
  fade : Nat
  elapsed : Nat
  value : Nat
  deriving DecidableEq, Repr

/-- The light unit (R119, R121, R123, R124, R125). -/
structure Lights where
  outputs : Vector Output 64
  heads : Vector Head 16
  master : Nat
  scene : Levels
  blend : Blend
  deriving DecidableEq, Repr

/-! ### Playback unit (chapter 8) -/

inductive SegmentState where
  | empty
  | filling
  | ready
  deriving DecidableEq, Repr

/-- A segment record (R136). -/
structure Segment where
  state : SegmentState
  first : Nat
  length : Nat
  loopStart : Option Nat
  deriving DecidableEq, Repr

inductive VoiceState where
  | idle
  | front
  | fading
  deriving DecidableEq, Repr

/-- A voice (R141); its gain transition is always LINEAR. -/
structure Voice where
  state : VoiceState
  segment : Option (Fin 64)
  position : Nat
  fromGain : Nat
  toGain : Nat
  origin : Nat
  duration : Nat
  releaseAtZero : Bool
  governing : Option Nat
  deriving DecidableEq, Repr

inductive OutputFormat where
  | stereo
  | mono
  deriving DecidableEq, Repr

/-- The bytes of sample memory that have been written since power-on, by byte address (R135, 11.6), in
strictly rising address order. -/
abbrev Memory := List Host.Cell

/-- The playback unit (R135, R136, R141, R149, R151), the power-ons the sample memory has gone through
(the model's own, log 8), and the audio frame last sent. -/
structure Playback where
  segments : Vector Segment 64
  memory : Memory
  memoryEpoch : Nat
  v0 : Voice
  v1 : Voice
  multiplier : Nat
  fadeCount : Nat
  fadeLength : Nat
  format : OutputFormat
  frameSent : Frame
  deriving DecidableEq, Repr

/-! ### Control link (chapter 9) -/

/-- An answer (R154, 11.1): the echo of the request code, a status and the data. -/
structure Answer where
  echo : Byte
  status : Status
  data : List Byte
  deriving DecidableEq, Repr

/-- How far the handling of a taken request has come: `taken`, its owner has not acted yet, which is so only inside
the step that takes the request (log 1); `finished`, its answer is worked out and not yet placed; `writing`, the frames of a LOAD FRAMES are being written
from a frame index on (R156, R138). -/
inductive Work where
  | taken
  | finished (answer : Answer)
  | writing (first : Nat) (frames : List Frame)
  deriving DecidableEq, Repr

/-- The link state (R154). -/
inductive LinkState where
  | idle
  | handling (work : Work)
  | answerReady
  deriving DecidableEq, Repr

inductive ResetCause where
  | powerOn
  | resetLine
  | restart
  deriving DecidableEq, Repr

/-- The ten attention causes, in their order of priority (R159). -/
inductive Attention where
  | safeEntered
  | clockLost
  | nodeLost
  | roundOverrun
  | budgetHeld
  | storeLow
  | showEnd
  | nodeJoined
  | cueSkipped
  | linkOverrun
  deriving DecidableEq, Repr

/-- The link record (R154). A set of attention causes is ten bits, placed as 11.2 places them.
`silenceSince` is when the silence timer was last restarted, none while it is stopped (R109). `miso` is
what the part drove on MISO in the latest frame, one byte for each whole byte clocked (R155, R157). `rowDue` is the
model's own: the request being handled came in a SEND_FRAME, and its own row of the opcode table may still follow
(log 1). -/
structure Link where
  state : LinkState
  request : List Byte
  answer : Option Answer
  pending : BitVec 10
  mask : BitVec 10
  lastReset : ResetCause
  silenceSince : Option Nat
  miso : List Byte
  rowDue : Bool
  deriving DecidableEq, Repr

/-! ### The machine -/

/-- The state of the part. `now` counts the milliseconds of the reference crystal, one a light update
(the model's own, log 5); `resets` counts the pin resets (the model's own, log 9); `pending` is the
queue of commands that wait, first in, first out. -/
structure State where
  store : Store
  clock : Clock
  channels : Vector ChannelRec 49
  water : Water
  fieldLines : FieldLines
  sup : Supervision
  lights : Lights
  play : Playback
  link : Link
  now : Nat
  resets : Nat
  pending : List Instr
  deriving DecidableEq, Repr

/-- The reasons a step can stop with a fault. -/
inductive Fault where
  /-- Raised by AUDIO_FRAME and LOAD_FRAMES_WRITTEN where a frame of sample memory outside its
  33,554,432 frames would be read or written (R135 gives no such frame). SAFE: the part keeps every
  segment inside its memory (R137), so no run from reset comes here. -/
  | noSuchFrame
  deriving DecidableEq, Repr

/-- The reasons a step can refuse a command. -/
inductive Refusal where
  /-- Raised by a dispatch arm of a command that has no meaning yet. SAFE: nothing is claimed of it. No arm
  answers it now. -/
  | notModelled (mnemonic : String)
  deriving DecidableEq, Repr

/-! ### Updates of one block -/

def State.setStore (s : State) (x : Store) : State := { s with store := x }
def State.setClock (s : State) (x : Clock) : State := { s with clock := x }
def State.setChannels (s : State) (x : Vector ChannelRec 49) : State := { s with channels := x }
def State.setWater (s : State) (x : Water) : State := { s with water := x }
def State.setFieldLines (s : State) (x : FieldLines) : State := { s with fieldLines := x }
def State.setSup (s : State) (x : Supervision) : State := { s with sup := x }
def State.setLights (s : State) (x : Lights) : State := { s with lights := x }
def State.setPlay (s : State) (x : Playback) : State := { s with play := x }
def State.setLink (s : State) (x : Link) : State := { s with link := x }
def State.setNow (s : State) (x : Nat) : State := { s with now := x }
def State.setResets (s : State) (x : Nat) : State := { s with resets := x }

/-! ### Reset values -/

def Levels.zero : Levels := { r := 0, g := 0, b := 0, w := 0 }

/-- The store after a pin reset (R7). -/
def Store.reset : Store := { timelines := Vector.replicate 49 [], threshold := 0 }

/-- The clock record after a pin reset (R40); the loss timer does not run in MASTER mode (R37). -/
def Clock.reset : Clock :=
  { state := .stopped, showTime := 0, showLength := 16777215, framePhase := 0, mode := .master, safeOrigin := .stopped,
    returnPending := false, lossTimerRunning := false, ticksDue := 0 }

/-- A channel record after a pin reset, a RESTART and a STOP (R42, R57). -/
def ChannelRec.reset : ChannelRec :=
  { taken := none, fromVal := Levels.zero, toVal := Levels.zero, origin := 0, duration := 0, shape := .linear }

def LimitFlags.clear : LimitFlags :=
  { limit := false, wind := false, level := false, safe := false, valve := false, slew := false, budget := false,
    declined := false, lost := false }

/-- A group record after a pin reset (R62). -/
def Group.reset : Group :=
  { enabled := false, pumpNode := none, valve := none, heightLimit := 6000, lead := 0, upStep := 10, downStep := 10,
    safeDownStep := 50, bypass := 0, windClass := none, ratedPower := 0, critical := false,
    curve := Vector.replicate 8 { height := 0, speed := 0 }, demanded := 0, capped := 0, target := 0, issued := 0,
    delivered := 0, valveOpen := false, flags := LimitFlags.clear }

/-- The water unit after a pin reset (R62, R64, R76). -/
def Water.reset : Water :=
  { groups := Vector.replicate 32 Group.reset,
    windClasses := Vector.replicate 4 { lo := 65534, hi := 65535, floor := 1000 }, budget := 0 }

/-- The default settings of a line (R83). -/
def LineSettings.default : LineSettings :=
  { prescale := 1, divisor := 5, roundPeriod := 40, retryLimit := 2, lostLimit := 3, replyWait := 2 }

/-- A line record after a pin reset (R83). -/
def LineRec.reset : LineRec :=
  { active := LineSettings.default, pending := LineSettings.default, round := .idle, pendingStart := false,
    overrun := false, roundCount := 0, timerPeriod := 40, exchange := none, sentOrder := [], sentBreak := false }

/-- An ABSENT node record (R86). -/
def Node.absentRecord : Node :=
  { state := .absent, stage := .identify, line := .a, address := 1, kind := .pump, sequence := false, failedRounds := 0,
    countdown := 0, rejoin := false, condition := .none, reportedPower := none, actualSpeed := 0, confirmedOpen := 0,
    faultCode := 0 }

/-- The field line controller after a pin reset (R83, R86). -/
def FieldLines.reset : FieldLines :=
  { a := LineRec.reset, b := LineRec.reset, nodes := Vector.replicate 40 Node.absentRecord }

/-- The supervision settings after a pin reset (R118); 50 debounce steps are 500 ms. -/
def SupSettings.reset : SupSettings :=
  { silenceLimit := 0, debounceSteps := 50, levelCap := 500, windScale := 1, lightSafeFade := 2000,
    lightReturnFade := 2000, audioSafeFade := 2000 }

/-- The supervision record after a pin reset with every input inactive (R118). The level inputs are
active at the high level (R107), E-STOP at the low level (R108). DESIGN CHOICE (log 7): the levels. -/
def Supervision.reset : Supervision :=
  { pulseCount := 0, rawWind := 0, smoothedWind := 0, low := { high := false, active := false, since := 0 },
    lowLow := { high := false, active := false, since := 0 }, estop := { high := true, active := false, since := 0 },
    settings := SupSettings.reset, causes := 0, seen := 0 }

/-- The blend record after a pin reset (R134). -/
def Blend.reset : Blend := { direction := .falling, b0 := 0, fade := 0, elapsed := 0, value := 0 }

/-- The light unit after a pin reset (R134). -/
def Lights.reset : Lights :=
  { outputs := Vector.replicate 64 { sense := .unset, buffered := 0, committed := 0, driven := false },
    heads := Vector.replicate 16 { enabled := false, outputs := none, response := .linear }, master := 1000,
    scene := Levels.zero, blend := Blend.reset }

/-- An EMPTY segment record (R136). -/
def Segment.emptyRecord : Segment := { state := .empty, first := 0, length := 1, loopStart := none }

/-- A released voice (R141). -/
def Voice.released : Voice :=
  { state := .idle, segment := none, position := 0, fromGain := 0, toGain := 0, origin := 0, duration := 0,
    releaseAtZero := false, governing := none }

def Frame.silence : Frame := { left := 0, right := 0 }

/-- The playback unit after power-on (R136, R141, 8.9 "Reset values", R151): no byte of sample memory has
been written (R135). -/
def Playback.reset : Playback :=
  { segments := Vector.replicate 64 Segment.emptyRecord, memory := [], memoryEpoch := 0, v0 := Voice.released,
    v1 := Voice.released, multiplier := 1000, fadeCount := 0, fadeLength := 0, format := .stereo,
    frameSent := Frame.silence }

/-- The link record after a pin reset that came from power being applied (R154). -/
def Link.reset : Link :=
  { state := .idle, request := [], answer := none, pending := 0, mask := 0, lastReset := .powerOn, silenceSince := none,
    miso := [], rowDue := false }

/-- The part right after a power-on reset with every supervision input inactive. -/
def State.reset : State :=
  { store := Store.reset, clock := Clock.reset, channels := Vector.replicate 49 ChannelRec.reset, water := Water.reset,
    fieldLines := FieldLines.reset, sup := Supervision.reset, lights := Lights.reset, play := Playback.reset,
    link := Link.reset, now := 0, resets := 0, pending := [] }

end Sys2Proof.Machine
end

