-- ==== Sys2Proof/Machine/Flags.lean ====
section
/-! DEFINITION. The sets and flags of the part and their places as bits (11.2): attention causes, safe
causes, limit flags; and the coded values used in answers. -/

namespace Sys2Proof.Machine

/-! ### Attention causes (R159) -/

/-- The bit of an attention cause (11.2). -/
def Attention.index : Attention → Nat
  | .safeEntered => 0
  | .clockLost => 1
  | .nodeLost => 2
  | .roundOverrun => 3
  | .budgetHeld => 4
  | .storeLow => 5
  | .showEnd => 6
  | .nodeJoined => 7
  | .cueSkipped => 8
  | .linkOverrun => 9

/-- The set that holds one attention cause. -/
def Attention.bit (c : Attention) : BitVec 10 := BitVec.twoPow 10 c.index

/-- A cause is a member of an attention set. -/
def Attention.memberOf (c : Attention) (set : BitVec 10) : Bool := set.getLsbD c.index

/-- The attention causes from the highest priority to the lowest (R159). -/
def Attention.byPriority : List Attention :=
  [.safeEntered, .clockLost, .nodeLost, .roundOverrun, .budgetHeld, .storeLow, .showEnd, .nodeJoined, .cueSkipped,
   .linkOverrun]

/-- The highest-priority pending cause as its priority 1 to 10, or 0 for none (R160, 11.4). -/
def highestPending (set : BitVec 10) : Nat :=
  match Attention.byPriority.find? (fun c => c.memberOf set) with
  | none => 0
  | some c => c.index + 1

/-- ATTN is high while a cause is both pending and enabled (R159). -/
def State.attn (s : State) : Bool := (s.link.pending &&& s.link.mask) != 0

/-- ARDY is high exactly while the link is ANSWER READY (R157). -/
def State.ardy (s : State) : Bool := s.link.state == .answerReady

/-! ### Safe causes (R111) -/

/-- The bit of a safe cause (11.2). -/
def SafeCause.index : SafeCause → Nat
  | .eStop => 0
  | .lowLow => 1
  | .clockLost => 2
  | .criticalLost => 3
  | .linkSilent => 4
  | .forced => 5

/-- The set that holds one safe cause. -/
def SafeCause.bit (c : SafeCause) : BitVec 6 := BitVec.twoPow 6 c.index

/-- A cause is a member of a safe cause set. -/
def SafeCause.memberOf (c : SafeCause) (set : BitVec 6) : Bool := set.getLsbD c.index

/-- The four condition causes, E_STOP, LOWLOW, CLOCK_LOST and CRITICAL_LOST (6.7). -/
def conditionCauses : BitVec 6 := 0b001111#6

/-- The two latched causes, LINK_SILENT and FORCED (6.7). -/
def latchedCauses : BitVec 6 := 0b110000#6

/-! ### Limit flags (R79) -/

/-- The limit flags as two bytes (11.2). -/
def LimitFlags.toNat (f : LimitFlags) : Nat :=
  bitNat f.limit + 2 * bitNat f.wind + 4 * bitNat f.level + 8 * bitNat f.safe + 16 * bitNat f.valve +
    32 * bitNat f.slew + 64 * bitNat f.budget + 128 * bitNat f.declined + 256 * bitNat f.lost

/-! ### Coded values in answers (11.2, "Coded values used in parameters and answers") -/

def Shape.code : Shape → Nat
  | .linear => 0
  | .smooth => 1

def CueState.code : CueState → Nat
  | .waiting => 0
  | .live => 1
  | .standing => 2
  | .passed => 3

def ClockState.code : ClockState → Nat
  | .stopped => 0
  | .running => 1
  | .paused => 2
  | .safe => 3

def ClockMode.code : ClockMode → Nat
  | .master => 0
  | .follow => 1

def OutputFormat.code : OutputFormat → Nat
  | .stereo => 0
  | .mono => 1

def lineCode : Line → Nat
  | .a => 0
  | .b => 1

def NodeKind.code : NodeKind → Nat
  | .pump => 1
  | .valve => 2

def NodeState.code : NodeState → Nat
  | .absent => 0
  | .joining => 1
  | .online => 2
  | .suspect => 3
  | .lost => 4

def JoinStage.code : JoinStage → Nat
  | .identify => 0
  | .configure => 1
  | .zero => 2

def Condition.code : Condition → Nat
  | .none => 0
  | .silent => 1
  | .garbled => 2
  | .short => 3
  | .overlong => 4
  | .stale => 5
  | .mismatch => 6
  | .declined => 7
  | .clean => 8

def Sense.code : Sense → Nat
  | .unset => 0
  | .activeHigh => 1
  | .activeLow => 2

def Response.code : Response → Nat
  | .linear => 0
  | .square => 1

def SegmentState.code : SegmentState → Nat
  | .empty => 0
  | .filling => 1
  | .ready => 2

def VoiceState.code : VoiceState → Nat
  | .idle => 0
  | .front => 1
  | .fading => 2

def BlendDirection.code : BlendDirection → Nat
  | .rising => 0
  | .falling => 1

def ResetCause.code : ResetCause → Nat
  | .powerOn => 1
  | .resetLine => 2
  | .restart => 3

/-- The numeric code of a status (11.1). -/
def statusCode : Status → Nat
  | .done => 0x00
  | .unknown => 0x01
  | .badLength => 0x02
  | .outOfRange => 0x03
  | .noSuch => 0x04
  | .duplicate => 0x05
  | .clash => 0x06
  | .storeFull => 0x07
  | .tooLate => 0x08
  | .inUse => 0x09
  | .wrongState => 0x0A
  | .protected_ => 0x0B
  | .overlap => 0x0C
  | .referenced => 0x0D
  | .setOnce => 0x0E
  | .unready => 0x0F

/-- An answer as it is clocked out (R157, 11.1): echo, status, data length, data. -/
def Answer.bytes (a : Answer) : List Byte :=
  [a.echo] ++ beBytes 1 (statusCode a.status) ++ beBytes 2 a.data.length ++ a.data

end Sys2Proof.Machine
end

