-- ==== Sys2Proof/Machine/Operands.lean ====
section
/-! DEFINITION. Reading a request's operands: an index within its range, a coded value of its table (R165:
a value that is not in the code table for its field is OUT OF RANGE), a payload read by the kind of its
channel. Each answers none where the operand is out of range. -/

namespace Sys2Proof.Machine

/-- An index below `n`. -/
def fin? (n k : Nat) : Option (Fin n) := if h : k < n then some ⟨k, h⟩ else none

/-- An index that may be absent: absent, or below `n`; none where it is out of range. -/
def optFin? (n : Nat) : Option Nat → Option (Option (Fin n))
  | none => some none
  | some k => (fin? n k).map some

/-- The programme channel P (R1). -/
def programme : Fin 49 := ⟨48, by decide⟩

/-- The jet channel Jn (R1). -/
def jetChannel (n : Fin 32) : Fin 49 := ⟨n.val, Nat.lt_of_lt_of_le n.isLt (by decide)⟩

/-- The head channel Hn (R1). -/
def headChannel (n : Fin 16) : Fin 49 := ⟨32 + n.val, by omega⟩

/-- The jet group of a jet channel (R61). -/
def jetOf (c : Fin 49) : Option (Fin 32) := fin? 32 c.val

def shape? : Nat → Option Shape
  | 0 => some .linear
  | 1 => some .smooth
  | _ => none

def response? : Nat → Option Response
  | 0 => some .linear
  | 1 => some .square
  | _ => none

def clockMode? : Nat → Option ClockMode
  | 0 => some .master
  | 1 => some .follow
  | _ => none

def outputFormat? : Nat → Option OutputFormat
  | 0 => some .stereo
  | 1 => some .mono
  | _ => none

def line? : Nat → Option Line
  | 0 => some .a
  | 1 => some .b
  | _ => none

def nodeKind? : Nat → Option NodeKind
  | 1 => some .pump
  | 2 => some .valve
  | _ => none

/-- A sense that SET OUTPUT SENSE can give; UNSET cannot be given (R120). -/
def sense? : Nat → Option Sense
  | 1 => some .activeHigh
  | 2 => some .activeLow
  | _ => none

def levelsWithin (max : Nat) (l : Levels) : Bool := l.r ≤ max && l.g ≤ max && l.b ≤ max && l.w ≤ max

/-- The programme payload of 11.3: action, segment, gain; operands absent from the action are not read
(R165). -/
def readProgramme (p : RawPayload) : Option Payload :=
  match p.w0 / 256 with
  | 0 => if p.w1 ≤ 1000 then (fin? 64 (p.w0 % 256)).map (fun s => .play s p.w1) else none
  | 1 => if p.w1 ≤ 1000 then some (.gain p.w1) else none
  | 2 => some .quiet
  | _ => none

/-- A payload read by the kind of its channel, within the ranges of R2. -/
def readPayload (c : Fin 49) (p : RawPayload) : Option Payload :=
  if c.val < 32 then (if p.w0 ≤ 6000 then some (.jet p.w0) else none)
  else if c.val < 48 then
    (if levelsWithin 4095 { r := p.w0, g := p.w1, b := p.w2, w := p.w3 } then
      some (.head { r := p.w0, g := p.w1, b := p.w2, w := p.w3 }) else none)
  else readProgramme p

/-- The payload bytes of a cue as READ CUE shows them: an absent segment as 0xFF, an absent gain as 0
(R2, R165, 11.3). -/
def Payload.bytes : Payload → List Byte
  | .jet h => beBytes 2 h ++ beBytes 6 0
  | .head l => l.bytes
  | .play s g => beBytes 1 0 ++ beBytes 1 s.val ++ beBytes 2 g ++ beBytes 4 0
  | .gain g => beBytes 1 1 ++ beBytes 1 255 ++ beBytes 2 g ++ beBytes 4 0
  | .quiet => beBytes 1 2 ++ beBytes 1 255 ++ beBytes 2 0 ++ beBytes 4 0

/-- One value in the first colour, as a jet height or a gain is held. -/
def scalar (v : Nat) : Levels := { r := v, g := 0, b := 0, w := 0 }

/-- The target value of the channel that a payload gives (R2): 0 for QUIET. -/
def Payload.target : Payload → Levels
  | .jet h => scalar h
  | .head l => l
  | .play _ g => scalar g
  | .gain g => scalar g
  | .quiet => scalar 0

/-- The segment that a PLAY payload names. -/
def Payload.segment? : Payload → Option (Fin 64)
  | .play s _ => some s
  | _ => none

def Payload.isPlay (p : Payload) : Bool := p.segment?.isSome

def Payload.isQuiet : Payload → Bool
  | .quiet => true
  | _ => false

/-- R16: a change of action, or of a PLAY's segment, which a taken programme cue refuses. -/
def Payload.actionOrSegmentChanges : Payload → Payload → Bool
  | .play s _, .play t _ => s != t
  | .gain _, .gain _ => false
  | .quiet, .quiet => false
  | .jet _, .jet _ => false
  | .head _, .head _ => false
  | _, _ => true

end Sys2Proof.Machine
end

