-- ==== Sys2Proof/Machine/Ops.lean ====
section
/-! DEFINITION. The operations several commands share: transition arithmetic (3.2), sample memory (R135),
raising an attention cause (R159), the voices' release and fades (8.3, 8.4), entering and leaving the
safe state (R111 to R114), and giving a request's answer. -/

namespace Sys2Proof.Machine

/-! ### Transition arithmetic (R43 to R46) -/

/-- The fraction s of the distance covered, from the fraction p of the duration, both in permille (R44). -/
def Shape.fraction : Shape → Nat → Nat
  | .linear, p => p
  | .smooth, p => p * p * (3000 - 2 * p) / 1000000

/-- The value at show time `t` of a transition from `a` to `b` (R43). -/
def ramp (shape : Shape) (origin duration t a b : Nat) : Nat :=
  if duration = 0 then b
  else if t ≤ origin then a
  else if duration ≤ t - origin then b
  else ((a : Int) + Int.tdiv (((b : Int) - (a : Int)) * (shape.fraction ((t - origin) * 1000 / duration) : Nat)) 1000).toNat

/-- A transition is complete at show time `t` (R46). -/
def transitionComplete (origin duration t : Nat) : Bool := duration = 0 || origin + duration ≤ t

/-- The present value of a channel at show time `t`, each colour with its own from and to (R43, R45). -/
def ChannelRec.valueAt (c : ChannelRec) (t : Nat) : Levels :=
  { r := ramp c.shape c.origin c.duration t c.fromVal.r c.toVal.r,
    g := ramp c.shape c.origin c.duration t c.fromVal.g c.toVal.g,
    b := ramp c.shape c.origin c.duration t c.fromVal.b c.toVal.b,
    w := ramp c.shape c.origin c.duration t c.fromVal.w c.toVal.w }

def ChannelRec.completeAt (c : ChannelRec) (t : Nat) : Bool := transitionComplete c.origin c.duration t

/-- LIVE or STANDING, as R46 records a taken cue whose transition is `c`. -/
def takenState (c : ChannelRec) (t : Nat) : CueState := if c.completeAt t then .standing else .live

/-- A cue is LIVE or STANDING. -/
def Cue.isTaken (c : Cue) : Bool := c.state == .live || c.state == .standing

/-! ### Sample memory (R135, 11.6) -/

/-- The byte written at an address since power-on, none where none was. -/
def memRead : Memory → Nat → Option Byte
  | [], _ => none
  | (k, v) :: rest, a => if a = k then some v else if a < k then none else memRead rest a

/-- Writes one byte, keeping the addresses strictly rising. -/
def memWrite : Memory → Nat → Byte → Memory
  | [], a, b => [(a, b)]
  | (k, v) :: rest, a, b =>
    if a = k then (a, b) :: rest else if a < k then (a, b) :: (k, v) :: rest else (k, v) :: memWrite rest a b

/-- The canonical form: addresses strictly rising. An unlisted address reads as no known byte, so no
entry equals what an unlisted address reads as (log 8). -/
abbrev memWf (m : Memory) : Prop := m.Pairwise (fun x y => x.1 < y.1)

/-- The byte a voice reads: the one written since power-on, or the one memory came up with (R135). -/
def Playback.byteAt (p : Playback) (a : Nat) : Byte :=
  match memRead p.memory a with
  | some b => b
  | none => Config.powerOnByte p.memoryEpoch a

/-- The frame at a frame index: left low, left high, right low, right high (11.6). -/
def Playback.frameAt (p : Playback) (k : Nat) : Frame :=
  { left := p.byteAt (4 * k + 1) ++ p.byteAt (4 * k), right := p.byteAt (4 * k + 3) ++ p.byteAt (4 * k + 2) }

/-- Writes one frame at a frame index, least significant byte first (11.6). -/
def memWriteFrame (m : Memory) (k : Nat) (f : Frame) : Memory :=
  let m := memWrite m (4 * k) (f.left.extractLsb' 0 8)
  let m := memWrite m (4 * k + 1) (f.left.extractLsb' 8 8)
  let m := memWrite m (4 * k + 2) (f.right.extractLsb' 0 8)
  memWrite m (4 * k + 3) (f.right.extractLsb' 8 8)

/-- Writes frames at rising frame indices from `k` on, in the order given (R138). -/
def memWriteFrames : Memory → Nat → List Frame → Memory
  | m, _, [] => m
  | m, k, f :: rest => memWriteFrames (memWriteFrame m k f) (k + 1) rest

/-! ### Attention (R159) -/

/-- A block raises an attention cause; one already pending stays pending. -/
def raise (c : Attention) (s : State) : State :=
  s.setLink { s.link with pending := s.link.pending ||| c.bit }

/-! ### Voices (8.3) -/

def Voice.sounding (v : Voice) : Bool := v.state != .idle

/-- The voice's gain at show time `t`, always LINEAR (R142). -/
def Voice.gainAt (v : Voice) (t : Nat) : Nat := ramp .linear v.origin v.duration t v.fromGain v.toGain

/-- R142: a voice with its release-at-zero mark set whose gain is 0 is released. -/
def Voice.releaseIfZero (v : Voice) (t : Nat) : Voice :=
  if v.sounding && v.releaseAtZero && v.gainAt t == 0 then Voice.released else v

/-- R141: the voices that name a segment and are not IDLE. -/
def Voice.plays (v : Voice) (seg : Fin 64) : Bool := v.sounding && v.segment == some seg

def Playback.releaseBoth (p : Playback) : Playback := { p with v0 := Voice.released, v1 := Voice.released }

def Playback.voice (p : Playback) : VoiceId → Voice
  | .v0 => p.v0
  | .v1 => p.v1

def Playback.setVoice (p : Playback) (i : VoiceId) (v : Voice) : Playback :=
  match i with
  | .v0 => { p with v0 := v }
  | .v1 => { p with v1 := v }

/-! ### The fades of the safe state -/

/-- A blend fade begins from the blend as it stands (R126, R127). -/
def Blend.begin (b : Blend) (d : BlendDirection) (fade : Nat) : Blend :=
  { direction := d, b0 := b.value, fade := fade, elapsed := 0, value := b.value }

/-- The audio safe fade begins: n becomes 0 and F the audio safe fade. A fade length of 0 gives m = 0 at
once and releases the voices at the entry itself (R149). -/
def Playback.beginSafeFade (p : Playback) (fade : Nat) : Playback :=
  if fade = 0 then { p.releaseBoth with multiplier := 0, fadeCount := 0, fadeLength := 0 }
  else { p with multiplier := 1000, fadeCount := 0, fadeLength := fade }

/-- The safe multiplier worked out from the frame count (R149): 1000 − 1000 × n / (48 × F), raised to 0 if
it would be negative. -/
def safeMultiplier (n fade : Nat) : Nat := 1000 - 1000 * n / (48 * fade)

/-! ### Entering and leaving the safe state -/

/-- The part enters SAFE (R112): the seen set is emptied and filled from the cause set; the clock records
its state as the safe origin and becomes SAFE (R38); the light unit begins a rising fade (R126); the
audio safe fade begins (R149); SAFE_ENTERED is raised. -/
def enterSafe (s : State) : State :=
  let s1 := s.setSup { s.sup with seen := s.sup.causes }
  let s2 := s1.setClock { s1.clock with safeOrigin := s1.clock.state, state := .safe }
  let s3 := s2.setLights { s2.lights with blend := s2.lights.blend.begin .rising s2.sup.settings.lightSafeFade }
  let s4 := s3.setPlay (s3.play.beginSafeFade s3.sup.settings.audioSafeFade)
  raise .safeEntered s4

/-- A cause enters the cause set (R111, R112): one already there changes nothing; outside SAFE it enters
SAFE; in SAFE it joins the seen set. -/
def addCause (c : SafeCause) (s : State) : State :=
  if c.memberOf s.sup.causes then s
  else
    let s1 := s.setSup { s.sup with causes := s.sup.causes ||| c.bit }
    if s1.clock.state = .safe then s1.setSup { s1.sup with seen := s1.sup.seen ||| c.bit } else enterSafe s1

/-- A condition cause leaves the cause set (R111); SAFE goes on. -/
def dropCause (c : SafeCause) (s : State) : State :=
  s.setSup { s.sup with causes := s.sup.causes &&& ~~~c.bit }

/-- A safe condition becomes true or false (R111). -/
def setCondition (c : SafeCause) (holds : Bool) (s : State) : State := if holds then addCause c s else dropCause c s

/-- SAFE ends and the clock takes a state (R39, R40): return pending is set, m becomes 1000 and n 0
(R149). -/
def leaveSafe (to_ : ClockState) (s : State) : State :=
  let s1 := s.setClock { s.clock with state := to_, returnPending := true }
  s1.setPlay { s1.play with multiplier := 1000, fadeCount := 0 }

/-! ### CRITICAL_LOST (R110) -/

/-- A group makes CRITICAL_LOST true: critical, with a pump node that is not ONLINE. -/
def groupCriticalLost (s : State) (g : Group) : Bool :=
  g.critical && match g.pumpNode with
    | none => false
    | some i => s.fieldLines.nodes[i].state != .online

/-- The lowest-numbered group that makes CRITICAL_LOST true (R117). -/
def criticalLostGroup (s : State) : Option (Fin 32) :=
  (List.finRange 32).find? (fun n => groupCriticalLost s s.water.groups[n])

/-- CRITICAL_LOST is worked out anew (R110). -/
def evalCritical (s : State) : State := setCondition .criticalLost (criticalLostGroup s).isSome s

/-! ### Giving an answer -/

/-- What a request's owner answers: a status and data (R158). -/
structure Reply where
  status : Status
  data : List Byte
  deriving DecidableEq, Repr

/-- The owner's handling of a request: the state after it and its answer, none while LOAD FRAMES is still
writing (R138). -/
abbrev Owned := State × Option Reply

/-- A refusal changes nothing in any block (R158). -/
def refuse (status : Status) (s : State) : Owned := (s, some { status := status, data := [] })

/-- An accepted request answers DONE with its data. -/
def done (data : List Byte) (s : State) : Owned := (s, some { status := .done, data := data })

end Sys2Proof.Machine
end

