-- ==== Sys2Proof/Machine/Requests.lean ====
section
/-! DEFINITION. How a request reaches its owner and its answer the link (R156, R158, R164). The owner acts in the
step that takes the request, so that what a rule ties to the taking holds from the next step on. A request row of the
opcode table is the request's own SEND completing on the port; where SEND_FRAME has brought that very request, its row
adds nothing (log 1). -/

namespace Sys2Proof.Machine

/-- MISO during the prefix and every byte of a SEND or disregarded frame: 0xFF (R155). -/
def driveIdle (count : Nat) (s : State) : State :=
  s.setLink { s.link with miso := List.replicate count 0xFF#8 }

/-- The silence timer restarts; it runs only while the silence limit is not 0 (R109). -/
def restartSilence (s : State) : State :=
  s.setLink { s.link with silenceSince := if s.sup.settings.silenceLimit = 0 then none else some s.now }

/-- The link record once a request with these bytes is taken: the answer that waited is gone, the bytes
are in the request buffer, up to 1,040 of them, and the link is HANDLING (R155, R156). -/
def takeLink (bytes : List Byte) (work : Work) (s : State) : State :=
  s.setLink { s.link with state := .handling work, request := bytes, answer := none, rowDue := false }

/-- The pending set is emptied when a RESTART is taken, so that a cause raised after that stays pending (R162). -/
def emptyAtRestart (r : Request) (s : State) : State :=
  s.setLink { s.link with pending := if r = .restart then 0 else s.link.pending }

/-- A request is taken (R156) and the link makes its two checks (R158, R164): UNKNOWN leaves the silence
timer alone; every known code restarts it; BAD LENGTH is the link's own answer. -/
def takeRequest (bytes : List Byte) (s : State) : State :=
  let kept := bytes.take Config.largestRequest
  let echo := kept.headD 0
  match parseRequest kept with
  | .ok r => restartSilence (emptyAtRestart r (takeLink kept .taken s))
  | .error .unknown => takeLink kept (.finished { echo := echo, status := .unknown, data := [] }) s
  | .error status => restartSilence (takeLink kept (.finished { echo := echo, status := status, data := [] }) s)

/-- A completed SEND: taken in IDLE and in ANSWER READY, where the waiting answer is discarded; ignored
with LINK_OVERRUN in HANDLING (R156). -/
def receive (bytes : List Byte) (s : State) : State :=
  match s.link.state with
  | .handling _ => raise .linkOverrun s
  | .idle => takeRequest bytes s
  | .answerReady => takeRequest bytes s

/-- A SEND frame on the port: MISO reads 0xFF, then the completed SEND is judged (R155, R156). -/
def sendOnPort (bytes : List Byte) (s : State) : State := receive bytes (driveIdle (bytes.length + 1) s)

/-- The owner of the taken request carries it out and gives its answer; a LOAD FRAMES that is writing has
none yet (R156, R138). -/
def settle (own : State → Owned) (s : State) : State :=
  match own s with
  | (s', some r) =>
    s'.setLink { s'.link with
      state := .handling (.finished { echo := s'.link.request.headD 0, status := r.status, data := r.data }) }
  | (s', none) => s'

/-- A SEND on the port and, where the link takes its request, the owner's action on it in the same step (R156,
log 1). -/
def carryOut (bytes : List Byte) (own : State → Owned) (s : State) : State :=
  match s.link.state with
  | .handling _ => sendOnPort bytes s
  | .idle | .answerReady =>
    let s1 := sendOnPort bytes s
    if s1.link.state = .handling .taken then settle own s1 else s1

/-- The request being handled is this one, SEND_FRAME brought it, and its row has not come. -/
def rowFollows (r : Request) (s : State) : Bool :=
  match s.link.rowDue, s.link.state, parseRequest s.link.request with
  | true, .handling _, .ok q => q == r
  | _, _, _ => false

/-- A row of the opcode table may follow the SEND_FRAME that brought its request, or not (log 1). -/
def setRowDue (due : Bool) (s : State) : State := s.setLink { s.link with rowDue := due }

/-- A request row of the opcode table (log 1). -/
def issue (r : Request) (own : State → Owned) (s : State) : State :=
  if rowFollows r s then setRowDue false s else carryOut (encodeRequest r) own s

/-- The answer goes into the answer buffer: the link becomes ANSWER READY and ARDY rises (R156). -/
def answerWith (a : Answer) (s : State) : State :=
  s.setLink { s.link with state := .answerReady, answer := some a, rowDue := false }

/-- The finished answer is placed (R156). -/
def placeAnswer (s : State) : State :=
  match s.link.state with
  | .handling (.finished a) => answerWith a s
  | _ => s

end Sys2Proof.Machine
end

