-- ==== Sys2Proof/Machine/Voices.lean ====
section
/-! DEFINITION. What the programme's cues do to the voices: the actions of a handed-over cue (R143, R144),
an amendment or a retire of the taken programme cue (R145), and the programme chase (R150). -/

namespace Sys2Proof.Machine

/-- A voice goes out (R143 step 2, R144 QUIET): FADING from its gain at the present show time to 0, with
its release-at-zero mark set; released where the ramp is 0 or the fade is already complete (R142). -/
def Voice.fadeOut (v : Voice) (t dispatch ramp cue : Nat) : Voice :=
  if ramp = 0 then Voice.released
  else Voice.releaseIfZero
    { v with state := .fading, fromGain := v.gainAt t, toGain := 0, origin := dispatch, duration := ramp,
             releaseAtZero := true, governing := some cue } t

/-- What a PLAY cue does to a voice that is sounding (R143 steps 1 and 2). -/
def Voice.makeWay (v : Voice) (t dispatch ramp cue : Nat) : Voice :=
  match v.state with
  | .idle => v
  | .fading => Voice.released
  | .front => v.fadeOut t dispatch ramp cue

/-- The new FRONT voice of a PLAY cue (R143 step 3). -/
def Voice.starting (segment : Fin 64) (gain dispatch ramp cue : Nat) : Voice :=
  { state := .front, segment := some segment, position := 0, fromGain := 0, toGain := gain, origin := dispatch,
    duration := ramp, releaseAtZero := false, governing := some cue }

/-- The action of a PLAY cue (R143); the new voice is the lower-numbered IDLE one. -/
def Playback.actPlay (p : Playback) (segment : Fin 64) (gain dispatch ramp cue t : Nat) : Playback :=
  let a := p.v0.makeWay t dispatch ramp cue
  let b := p.v1.makeWay t dispatch ramp cue
  if a.state = .idle then { p with v0 := Voice.starting segment gain dispatch ramp cue, v1 := b }
  else { p with v0 := a, v1 := Voice.starting segment gain dispatch ramp cue }

/-- The action of a GAIN cue on one voice (R144). -/
def Voice.actGain (v : Voice) (gain dispatch ramp cue t : Nat) : Voice :=
  if v.state = .front then
    { v with fromGain := v.gainAt t, toGain := gain, origin := dispatch, duration := ramp, releaseAtZero := false,
             governing := some cue }
  else v

/-- The action of a QUIET cue on one voice (R144). -/
def Voice.actQuiet (v : Voice) (dispatch ramp cue t : Nat) : Voice :=
  if v.state = .front then v.fadeOut t dispatch ramp cue else v

/-- The acting cue of the programme channel is carried out on the voices at once (R52, 8.4). -/
def Playback.handOver (p : Playback) (c : Cue) (t : Nat) : Playback :=
  match c.payload with
  | .play seg g => p.actPlay seg g c.dispatch c.ramp c.number t
  | .gain g =>
    { p with v0 := p.v0.actGain g c.dispatch c.ramp c.number t, v1 := p.v1.actGain g c.dispatch c.ramp c.number t }
  | .quiet => { p with v0 := p.v0.actQuiet c.dispatch c.ramp c.number t, v1 := p.v1.actQuiet c.dispatch c.ramp c.number t }
  | .jet _ => p
  | .head _ => p

/-! ### Amendment and retire of the taken programme cue (R145) -/

/-- Amendment of a taken PLAY or GAIN cue: the FRONT voice moves to the cue's gain from the present show
time (R145). -/
def Voice.amendGain (v : Voice) (gain ramp cue t : Nat) : Voice :=
  if v.state = .front then
    { v with fromGain := v.gainAt t, toGain := gain, origin := t, duration := ramp, governing := some cue }
  else v

/-- Amendment of a taken QUIET cue: a FADING voice that the cue governs fades over the new ramp; a new
ramp of 0 releases it (R145). -/
def Voice.amendQuiet (v : Voice) (ramp cue t : Nat) : Voice :=
  if v.state = .fading ∧ v.governing = some cue then
    if ramp = 0 then Voice.released
    else { v with fromGain := v.gainAt t, toGain := 0, origin := t, duration := ramp, releaseAtZero := true }
  else v

def Playback.amendTaken (p : Playback) (c : Cue) (t : Nat) : Playback :=
  match c.payload with
  | .play _ g => { p with v0 := p.v0.amendGain g c.ramp c.number t, v1 := p.v1.amendGain g c.ramp c.number t }
  | .gain g => { p with v0 := p.v0.amendGain g c.ramp c.number t, v1 := p.v1.amendGain g c.ramp c.number t }
  | .quiet => { p with v0 := p.v0.amendQuiet c.ramp c.number t, v1 := p.v1.amendQuiet c.ramp c.number t }
  | .jet _ => p
  | .head _ => p

/-- Retire of the taken programme cue: the FRONT voice's gain is frozen, and a voice that named the cue as
its governing cue names none (R145). -/
def Voice.retireTaken (v : Voice) (cue t : Nat) : Voice :=
  let frozen := if v.state = .front then
      { v with fromGain := v.gainAt t, toGain := v.gainAt t, origin := t, duration := 0 } else v
  if frozen.governing = some cue then { frozen with governing := none } else frozen

def Playback.retireTaken (p : Playback) (cue t : Nat) : Playback :=
  { p with v0 := p.v0.retireTaken cue t, v1 := p.v1.retireTaken cue t }

/-! ### Programme chase (R150) -/

/-- The last PLAY cue of a list in start order, with the cues after it. -/
def lastPlay : List Cue → Option (Cue × List Cue)
  | [] => none
  | c :: rest =>
    match lastPlay rest with
    | some r => some r
    | none => if c.payload.isPlay then some (c, rest) else none

/-- The position p of R150 step 3 within a segment, none past the end of one without a loop. -/
def chasePosition (seg : Segment) (start t : Nat) : Option Nat :=
  let p := (t - start) * 48
  if p < seg.length then some p
  else match seg.loopStart with
    | some l => some (l + (p - l) % (seg.length - l))
    | none => none

/-- R150 step 2: whether a voice is built, and as what, from the cues after the last PLAY among the taken
and PASSED cues. A QUIET among them that is not the taken cue, or whose transition is complete, has ended
the music. -/
def chaseVoiceState (after : List Cue) (rec : ChannelRec) (t : Nat) : Option VoiceState :=
  let quiets := after.filter (·.payload.isQuiet)
  if quiets.isEmpty then some .front
  else if quiets.all (fun c => some c.number == rec.taken) && !rec.completeAt t then some .fading
  else none

/-- R150: both voices are released, and at most one is rebuilt from the programme timeline `cues` and
channel record `rec` as the chase has left them. -/
def Playback.chase (p : Playback) (cues : List Cue) (rec : ChannelRec) (t : Nat) : Playback :=
  let q := p.releaseBoth
  match lastPlay (cues.filter (fun c => c.isTaken || c.state == .passed)) with
  | none => q
  | some (c, after) =>
    match c.payload.segment?, chaseVoiceState after rec t with
    | some seg, some vs =>
      match chasePosition q.segments[seg] c.start t with
      | none => q
      | some pos =>
        { q with v0 :=
          { state := vs, segment := some seg, position := pos, fromGain := (rec.valueAt t).r, toGain := rec.toVal.r,
            origin := t, duration := rec.origin + rec.duration - t, releaseAtZero := vs == .fading,
            governing := rec.taken } }
    | _, _ => q

end Sys2Proof.Machine
end

