-- ==== Sys2Proof/Machine/Timeline.lean ====
section
/-! DEFINITION. The timelines and the timeline unit: dispatch times (R3), finding and inserting cues (R6),
taking at a show tick (R48 to R52), completion (R46), chase (R53 to R56) and STOP (R57). -/

namespace Sys2Proof.Machine

/-! ### The store -/

/-- The lead that applies to a channel: its jet group's, and 0 off the jets (R3). -/
def leadOf (s : State) (c : Fin 49) : Nat :=
  match jetOf c with
  | some n => s.water.groups[n].lead
  | none => 0

/-- The dispatch time of a start on a channel with a lead (R3): held at 0 where the difference would be
negative. -/
def dispatchTime (lead start : Nat) : Nat := start - lead

/-- The occupied count (R5). -/
def Store.occupied (st : Store) : Nat := (st.timelines.toList.map List.length).sum

/-- The free count (R5). -/
def Store.free (st : Store) : Nat := Config.cueSlots - st.occupied

/-- The number map: the channel and the cue that a number names (R5). -/
def Store.find (st : Store) (number : Nat) : Option (Fin 49 × Cue) :=
  (List.finRange 49).findSome? (fun c => (st.timelines[c].find? (fun q => q.number == number)).map (fun q => (c, q)))

def Store.setTimeline (st : Store) (c : Fin 49) (tl : List Cue) : Store :=
  { st with timelines := st.timelines.set c tl }

/-- Inserts a cue between the last cue with an earlier start and the first with a later one (R6). -/
def insertCue (c : Cue) : List Cue → List Cue
  | [] => [c]
  | d :: rest => if c.start < d.start then c :: d :: rest else d :: insertCue c rest

/-- Removes the cue of a number from a timeline (R5). -/
def removeCue (number : Nat) (tl : List Cue) : List Cue := tl.filter (fun c => c.number != number)

/-- A start is present in a timeline, in whatever state (R9 check 2). -/
def startPresent (start : Nat) (tl : List Cue) : Bool := tl.any (fun c => c.start == start)

/-- TOO LATE: a start earlier than that of some cue that is not WAITING (R9 check 4). -/
def tooLate (start : Nat) (tl : List Cue) : Bool := tl.any (fun c => c.state != .waiting && start < c.start)

/-- Every cue of a timeline gets its dispatch time anew (R23). -/
def recomputeDispatch (lead : Nat) (tl : List Cue) : List Cue :=
  tl.map (fun c => { c with dispatch := dispatchTime lead c.start })

/-- How many cues of a timeline are PLAY cues naming a segment (R136). -/
def playCues (seg : Fin 64) (tl : List Cue) : Nat := tl.countP (fun c => c.payload.segment? == some seg)

/-- A cue's state as a request reports it (R20, R46): STANDING for a LIVE cue whose transition is complete
at the present show time. -/
def reportedState (c : Cue) (rec : ChannelRec) (t : Nat) : CueState :=
  if c.state = .live ∧ rec.completeAt t then .standing else c.state

/-! ### Taking at a show tick -/

/-- A WAITING cue whose dispatch time is at or before the new show time (R48). -/
def dueAt (t : Nat) (c : Cue) : Bool := c.state == .waiting && c.dispatch ≤ t

/-- The transition of a taken or chased cue from a value (R49, R54). -/
def takenRecord (c : Cue) (fromVal : Levels) : ChannelRec :=
  { taken := some c.number, fromVal := fromVal, toVal := c.payload.target, origin := c.dispatch, duration := c.ramp,
    shape := c.shape }

/-- What a take makes of each cue of a timeline (R49, R50): the acting cue becomes the taken cue, every
other due cue PASSED with skipped set, the previous taken cue PASSED with skipped clear. -/
def takeCue (t : Nat) (acting : Cue) (state : CueState) (c : Cue) : Cue :=
  if dueAt t c then
    if c.number = acting.number then { c with state := state, skipped := false }
    else { c with state := .passed, skipped := true }
  else if c.isTaken then { c with state := .passed, skipped := false }
  else c

/-- R46: a LIVE taken cue whose transition is complete is recorded STANDING. -/
def recordCompletion (rec : ChannelRec) (t : Nat) (tl : List Cue) : List Cue :=
  tl.map (fun c => if c.state = .live ∧ rec.taken = some c.number ∧ rec.completeAt t then { c with state := .standing }
    else c)

/-- The cue that acts on a channel at a tick: the last of the due cues in start order (R50). -/
def actingCue (t : Nat) (tl : List Cue) : Option Cue := (tl.filter (dueAt t)).getLast?

/-- The timeline of a channel after the tick's take and completions (R46, R48 to R50). -/
def tickTimeline (t : Nat) (tl : List Cue) (rec : ChannelRec) : List Cue :=
  match actingCue t tl with
  | none => recordCompletion rec t tl
  | some a => tl.map (takeCue t a (takenState (takenRecord a (rec.valueAt t)) t))

/-- The record of a channel after the tick's take (R49). -/
def tickRecord (t : Nat) (tl : List Cue) (rec : ChannelRec) : ChannelRec :=
  match actingCue t tl with
  | none => rec
  | some a => takenRecord a (rec.valueAt t)

/-- Some channel skips a cue at the tick: it has more than one due cue (R50). -/
def tickSkips (t : Nat) (st : Store) : Bool := st.timelines.toList.any (fun tl => 1 < (tl.filter (dueAt t)).length)

/-- The due cues of all 49 channels are taken at show time `t`, and the acting programme cue is handed to
the playback unit (R48 to R52). -/
def takeDue (t : Nat) (s : State) : State :=
  let skips := tickSkips t s.store
  let handed := actingCue t s.store.timelines[programme]
  let s1 := (s.setStore
      { s.store with timelines := Vector.ofFn fun c => tickTimeline t s.store.timelines[c] s.channels[c] }).setChannels
    (Vector.ofFn fun c => tickRecord t s.store.timelines[c] s.channels[c])
  let s2 := match handed with
    | none => s1
    | some a => s1.setPlay (s1.play.handOver a t)
  if skips then raise .cueSkipped s2 else s2

/-- The tick that reaches the show length takes no cue but still records completions (R27, R46). -/
def recordCompletions (t : Nat) (s : State) : State :=
  s.setStore { s.store with timelines := Vector.ofFn fun c => recordCompletion s.channels[c] t s.store.timelines[c] }

/-! ### Chase -/

/-- The last cue of a timeline, in start order, whose dispatch time is at or before `t`, with the cues
before it and after it (R53). -/
def chasedCue (t : Nat) : List Cue → Option (List Cue × Cue × List Cue)
  | [] => none
  | c :: rest =>
    match chasedCue t rest with
    | some (before, x, after) => some (c :: before, x, after)
    | none => if c.dispatch ≤ t then some ([], c, rest) else none

def Cue.toWaiting (c : Cue) : Cue := { c with state := .waiting, skipped := false }

def Cue.toPassed (c : Cue) : Cue := { c with state := .passed, skipped := false }

/-- The value a chase starts from: the target of the cue before the chased one, or the channel's present
value at the show time `t0` that the clock held before the request (R54). -/
def chaseFrom (before : List Cue) (rec : ChannelRec) (t0 : Nat) : Levels :=
  match before.getLast? with
  | some p => p.payload.target
  | none => rec.valueAt t0

/-- The record of a channel after a chase at show time `t` (R54). -/
def chaseRecord (t t0 : Nat) (tl : List Cue) (rec : ChannelRec) : ChannelRec :=
  match chasedCue t tl with
  | some (before, x, _) => takenRecord x (chaseFrom before rec t0)
  | none => { rec with taken := none, fromVal := rec.valueAt t0, toVal := rec.valueAt t0, origin := t, duration := 0 }

/-- The timeline of a channel after a chase at show time `t` (R53). -/
def chaseTimeline (t t0 : Nat) (tl : List Cue) (rec : ChannelRec) : List Cue :=
  match chasedCue t tl with
  | some (before, x, after) =>
    before.map Cue.toPassed ++
      { x with state := takenState (takenRecord x (chaseFrom before rec t0)) t, skipped := false } ::
      after.map Cue.toWaiting
  | none => tl.map Cue.toWaiting

/-- The programme chase is handed to the playback unit (R55, R56). -/
def handOverChase (t : Nat) (s : State) : State :=
  s.setPlay (s.play.chase s.store.timelines[programme] s.channels[programme] t)

/-- A chase of all 49 channels at show time `t` (R55). -/
def chaseAll (t t0 : Nat) (s : State) : State :=
  handOverChase t
    ((s.setStore
        { s.store with timelines := Vector.ofFn fun c => chaseTimeline t t0 s.store.timelines[c] s.channels[c] }).setChannels
      (Vector.ofFn fun c => chaseRecord t t0 s.store.timelines[c] s.channels[c]))

/-- A chase of the programme channel alone at the present show time (R56). -/
def chaseProgramme (t : Nat) (s : State) : State :=
  let tl := s.store.timelines[programme]
  let rec_ := s.channels[programme]
  handOverChase t
    ((s.setStore (s.store.setTimeline programme (chaseTimeline t t tl rec_))).setChannels
      (s.channels.set programme (chaseRecord t t tl rec_)))

/-! ### Stop -/

/-- STOP clears the show: every cue WAITING with skipped clear, every channel record as after a pin reset,
both voices released (R57). -/
def clearShow (s : State) : State :=
  let s1 := s.setStore { s.store with timelines := Vector.ofFn fun c => s.store.timelines[c].map Cue.toWaiting }
  let s2 := s1.setChannels (Vector.replicate 49 ChannelRec.reset)
  s2.setPlay s2.play.releaseBoth

end Sys2Proof.Machine
end

