-- ==== Sys2Proof/Machine/CueStore.lean ====
section
/-! DEFINITION. The eight requests on the cue store (1.5 to 1.9). -/

namespace Sys2Proof.Machine

/-- UNREADY: the action is PLAY and the named segment is not READY (R9 check 5, R13 check 6). -/
def unready (p : Payload) (s : State) : Bool :=
  match p.segment? with
  | some seg => s.play.segments[seg].state != .ready
  | none => false

/-- STORE_LOW is raised on the fall of the free count across the threshold (R11). -/
def noticeLow (before : Nat) (s : State) : State :=
  if s.store.threshold ≤ before ∧ s.store.free < s.store.threshold then raise .storeLow s else s

/-- The ranges of R8 that PLACE CUE is checked against, less the channel, shape and payload, which are read
first. -/
def cueFieldsInRange (number start ramp : Nat) : Bool :=
  1 ≤ number && number ≤ 65535 && start ≤ Config.showTimeMax && ramp ≤ Config.rampMax

/-- The cue that an accepted PLACE CUE writes (R10). -/
def newCue (s : State) (c : Fin 49) (a : CueArgs) (sh : Shape) (p : Payload) : Cue :=
  { number := a.number, start := a.start, ramp := a.ramp, shape := sh, payload := p, state := .waiting,
    skipped := false, dispatch := dispatchTime (leadOf s c) a.start }

/-- An accepted PLACE CUE inserts the cue in its timeline (R10) and tests the threshold (R11). -/
def placeOn (c : Fin 49) (q : Cue) (s : State) : State :=
  noticeLow s.store.free (s.setStore (s.store.setTimeline c (insertCue q s.store.timelines[c])))

/-- PLACE CUE by its owner, with the checks of R9 in their order. -/
def ownPlaceCue (a : CueArgs) (s : State) : Owned :=
  match fin? 49 a.channel, shape? a.shape with
  | some c, some sh =>
    match readPayload c a.payload with
    | none => refuse .outOfRange s
    | some p =>
      if !cueFieldsInRange a.number a.start a.ramp then refuse .outOfRange s
      else if (s.store.find a.number).isSome then refuse .duplicate s
      else if startPresent a.start s.store.timelines[c] then refuse .clash s
      else if Config.cueSlots ≤ s.store.occupied then refuse .storeFull s
      else if tooLate a.start s.store.timelines[c] then refuse .tooLate s
      else if unready p s then refuse .unready s
      else done (beBytes 4 (dispatchTime (leadOf s c) a.start)) (placeOn c (newCue s c a sh p) s)
  | _, _ => refuse .outOfRange s

/-! ### AMEND CUE (R13 to R16) -/

def AmendArgs.selects (a : AmendArgs) (bit : Nat) : Bool := flagBit a.selection bit

/-- The range checks of R8 on what AMEND CUE selects, less the payload's. A set selection bit among bits 4
to 7 is out of range (R8, R165). -/
def amendInRange (a : AmendArgs) : Bool :=
  1 ≤ a.number && a.number ≤ 65535 && a.selection < 16 && (!AmendArgs.selects a 0 || a.start ≤ Config.showTimeMax) &&
    (!AmendArgs.selects a 1 || a.ramp ≤ Config.rampMax) && (!AmendArgs.selects a 2 || (shape? a.shape).isSome)

/-- The payload an amendment gives a cue of channel `c`, read by the channel's kind (R13): the cue's own
where the payload is not selected, none where it is out of range. -/
def amendedPayload (a : AmendArgs) (c : Fin 49) (q : Cue) : Option Payload :=
  if AmendArgs.selects a 3 then readPayload c a.payload else some q.payload

/-- The cue with the selected ramp, shape and payload written. -/
def amendedCue (a : AmendArgs) (q : Cue) (p : Payload) : Cue :=
  { q with ramp := if AmendArgs.selects a 1 then a.ramp else q.ramp,
           shape := if AmendArgs.selects a 2 then (shape? a.shape).getD q.shape else q.shape, payload := p }

/-- The amendment changes ramp, shape or payload: a selected field counts only when its new value differs
(R13). -/
def amendChanges (q r : Cue) : Bool := q.ramp != r.ramp || q.shape != r.shape || q.payload != r.payload

/-- R13 check 3 for a taken cue: its start is changed, or R16 refuses the change of a taken programme
cue. -/
def amendInUse (a : AmendArgs) (q r : Cue) : Bool :=
  (AmendArgs.selects a 0 && a.start != q.start) || q.payload.actionOrSegmentChanges r.payload

/-- Another cue of the channel has the start (R13 check 4). -/
def otherHasStart (number start : Nat) (tl : List Cue) : Bool :=
  tl.any (fun c => c.number != number && c.start == start)

/-- An accepted amendment of a WAITING cue (R14): a changed start moves the cue and gives it a new dispatch
time. -/
def amendWaiting (a : AmendArgs) (c : Fin 49) (q r : Cue) (s : State) : State :=
  let tl := s.store.timelines[c]
  if AmendArgs.selects a 0 && a.start != q.start then
    let moved := { r with start := a.start, dispatch := dispatchTime (leadOf s c) a.start }
    s.setStore (s.store.setTimeline c (insertCue moved (removeCue q.number tl)))
  else s.setStore (s.store.setTimeline c (tl.map (fun d => if d.number = q.number then r else d)))

/-- The transition of an amended taken cue, from where the channel stands (R15). -/
def restartedRecord (r : Cue) (rec : ChannelRec) (t : Nat) : ChannelRec :=
  { taken := some r.number, fromVal := rec.valueAt t, toVal := r.payload.target, origin := t, duration := r.ramp,
    shape := r.shape }

/-- An accepted amendment of a LIVE or STANDING cue (R15, R16, R145): the transition restarts where ramp,
shape or payload changed; the voices follow on the programme channel. -/
def amendTaken (c : Fin 49) (q r : Cue) (s : State) : State :=
  if amendChanges q r then
    let t := s.clock.showTime
    let rec_ := restartedRecord r s.channels[c] t
    let cue := { r with state := takenState rec_ t }
    let s1 := (s.setStore (s.store.setTimeline c
      (s.store.timelines[c].map (fun d => if d.number = q.number then cue else d)))).setChannels (s.channels.set c rec_)
    if c = programme then s1.setPlay (s1.play.amendTaken cue t) else s1
  else s

/-- AMEND CUE by its owner, with the checks of R13 in their order. A payload is read by the kind of the
cue's channel, so its range check needs the cue (log 13). -/
def ownAmendCue (a : AmendArgs) (s : State) : Owned :=
  if !amendInRange a then refuse .outOfRange s
  else match s.store.find a.number with
    | none => refuse .noSuch s
    | some (c, q) =>
      match amendedPayload a c q with
      | none => refuse .outOfRange s
      | some p =>
        let r := amendedCue a q p
        let tl := s.store.timelines[c]
        match q.state with
        | .passed => refuse .wrongState s
        | .waiting =>
          if AmendArgs.selects a 0 && otherHasStart q.number a.start tl then refuse .clash s
          else if AmendArgs.selects a 0 && tooLate a.start tl then refuse .tooLate s
          else if AmendArgs.selects a 3 && unready p s then refuse .unready s
          else
            let d := if AmendArgs.selects a 0 && a.start != q.start then dispatchTime (leadOf s c) a.start else q.dispatch
            done (beBytes 4 d) (amendWaiting a c q r s)
        | .live | .standing =>
          if amendInUse a q r then refuse .inUse s
          else if AmendArgs.selects a 3 && unready p s then refuse .unready s
          else done (beBytes 4 q.dispatch) (amendTaken c q r s)

/-! ### RETIRE CUE, RETIRE PASSED (R17 to R19) -/

/-- The record of a channel whose taken cue is retired: frozen at its present value (R18). The shape is not
among what R18 writes and stays (log 12). -/
def frozenRecord (rec : ChannelRec) (t : Nat) : ChannelRec :=
  { rec with taken := none, fromVal := rec.valueAt t, toVal := rec.valueAt t, origin := t, duration := 0 }

/-- A cue leaves the store (R17); a taken one leaves its channel frozen (R18), and the voices follow on the
programme channel (R145). -/
def retireOn (c : Fin 49) (q : Cue) (s : State) : State :=
  let t := s.clock.showTime
  let s1 := s.setStore (s.store.setTimeline c (removeCue q.number s.store.timelines[c]))
  if q.isTaken then
    let s2 := s1.setChannels (s1.channels.set c (frozenRecord s1.channels[c] t))
    if c = programme then s2.setPlay (s2.play.retireTaken q.number t) else s2
  else s1

/-- RETIRE CUE by its owner (R17, R18). -/
def ownRetireCue (number : Nat) (s : State) : Owned :=
  if number = 0 then refuse .outOfRange s
  else match s.store.find number with
    | none => refuse .noSuch s
    | some (c, q) =>
      done (beBytes 1 (reportedState q s.channels[c] s.clock.showTime).code) (retireOn c q s)

/-- A PASSED cue whose start is earlier than T (R19). -/
def passedBefore (t : Nat) (c : Cue) : Bool := c.state == .passed && c.start < t

/-- RETIRE PASSED on the named channel, or on all 49 (R19). -/
def retirePassedOn (t : Nat) (channel : Option (Fin 49)) (s : State) : State :=
  s.setStore { s.store with timelines := Vector.ofFn fun c =>
    if channel = none ∨ channel = some c then s.store.timelines[c].filter (fun q => !passedBefore t q)
    else s.store.timelines[c] }

/-- RETIRE PASSED by its owner (R19). -/
def ownRetirePassed (t : Nat) (channel : Option Nat) (s : State) : Owned :=
  match optFin? 49 channel with
  | none => refuse .outOfRange s
  | some c =>
    if Config.showTimeMax < t then refuse .outOfRange s
    else
      let s1 := retirePassedOn t c s
      done (beBytes 2 (s.store.occupied - s1.store.occupied)) s1

/-! ### Reading (R20 to R22, R12) -/

/-- A cue record as carried (11.3). -/
def Cue.bytes (c : Cue) (channel : Fin 49) : List Byte :=
  beBytes 2 c.number ++ beBytes 1 channel.val ++ beBytes 4 c.start ++ beBytes 2 c.ramp ++ beBytes 1 c.shape.code ++
    c.payload.bytes

/-- READ CUE by its owner (R20, 11.4). -/
def ownReadCue (number : Nat) (s : State) : Owned :=
  if number = 0 then refuse .outOfRange s
  else match s.store.find number with
    | none => refuse .noSuch s
    | some (c, q) =>
      done (q.bytes c ++ beBytes 1 (reportedState q s.channels[c] s.clock.showTime).code ++
        beBytes 1 (bitNat q.skipped) ++ beBytes 4 q.dispatch) s

/-- The number of the earliest WAITING cue of a timeline, 0 for none (R21). -/
def earliestWaiting (tl : List Cue) : Nat :=
  match tl.find? (fun c => c.state == .waiting) with
  | some c => c.number
  | none => 0

/-- The limit flags of a jet channel's group, 0 off the jets (R21, 11.4). -/
def channelFlags (s : State) (c : Fin 49) : Nat :=
  match jetOf c with
  | some n => s.water.groups[n].flags.toNat
  | none => 0

/-- READ CHANNEL by its owner (R21, 11.4). -/
def ownReadChannel (channel : Nat) (s : State) : Owned :=
  match fin? 49 channel with
  | none => refuse .outOfRange s
  | some c =>
    let rec_ := s.channels[c]
    let tl := s.store.timelines[c]
    done (beBytes 2 (rec_.taken.getD 0) ++ rec_.fromVal.bytes ++ rec_.toVal.bytes ++ beBytes 4 rec_.origin ++
      beBytes 2 rec_.duration ++ beBytes 1 rec_.shape.code ++ (rec_.valueAt s.clock.showTime).bytes ++
      beBytes 2 tl.length ++ beBytes 2 (earliestWaiting tl) ++ beBytes 2 (channelFlags s c)) s

/-- READ STORE by its owner (R22, 11.4). -/
def ownReadStore (s : State) : Owned :=
  done (beBytes 2 s.store.occupied ++ beBytes 2 s.store.free ++ beBytes 2 s.store.threshold) s

/-- SET STORE THRESHOLD by its owner (R12). -/
def ownSetStoreThreshold (threshold : Nat) (s : State) : Owned :=
  if 4095 < threshold then refuse .outOfRange s
  else done [] (s.setStore { s.store with threshold := threshold })

/-! ### Meanings -/

def execPlaceCue (cue : CueArgs) (s : State) : Host.Outcome State Fault Refusal :=
  .next (issue (.placeCue cue) (ownPlaceCue cue) s)
def execAmendCue (amendment : AmendArgs) (s : State) : Host.Outcome State Fault Refusal :=
  .next (issue (.amendCue amendment) (ownAmendCue amendment) s)
def execRetireCue (number : Nat) (s : State) : Host.Outcome State Fault Refusal :=
  .next (issue (.retireCue number) (ownRetireCue number) s)
def execRetirePassed (time : Nat) (channel : Option Nat) (s : State) : Host.Outcome State Fault Refusal :=
  .next (issue (.retirePassed time channel) (ownRetirePassed time channel) s)
def execReadCue (number : Nat) (s : State) : Host.Outcome State Fault Refusal :=
  .next (issue (.readCue number) (ownReadCue number) s)
def execReadChannel (channel : Nat) (s : State) : Host.Outcome State Fault Refusal :=
  .next (issue (.readChannel channel) (ownReadChannel channel) s)
def execReadStore (s : State) : Host.Outcome State Fault Refusal := .next (issue .readStore ownReadStore s)
def execSetStoreThreshold (threshold : Nat) (s : State) : Host.Outcome State Fault Refusal :=
  .next (issue (.setStoreThreshold threshold) (ownSetStoreThreshold threshold) s)

end Sys2Proof.Machine
end

