-- ==== Sys2Proof/Machine/WaterUnit.lean ====
section
/-! DEFINITION. The water unit (chapter 4): the computation at a pump turn (R66 to R77), the valve mask
(R78), and the five requests on groups, curves, wind classes and the budget. -/

namespace Sys2Proof.Machine

/-! ### Bindings -/

/-- The group that a pump node is bound to (R66). -/
def pumpGroup (s : State) (i : Fin 40) : Option (Fin 32) :=
  (List.finRange 32).find? (fun n => s.water.groups[n].pumpNode == some i)

/-- The group that a valve output is bound to (R78). -/
def valveGroup (s : State) (i : Fin 40) (o : Fin 8) : Option (Fin 32) :=
  (List.finRange 32).find? (fun n => s.water.groups[n].valve == some { node := i, output := o })

/-- Some group binds the node, as pump or as valve (R81, R100). -/
def nodeBound (s : State) (i : Fin 40) : Bool :=
  (List.finRange 32).any (fun n =>
    s.water.groups[n].pumpNode == some i || (s.water.groups[n].valve.map (·.node)) == some i)

def setGroupRec (n : Fin 32) (g : Group) (s : State) : State :=
  s.setWater { s.water with groups := s.water.groups.set n g }

/-! ### Speeds and power -/

/-- The claimed speed (R65). -/
def Group.claimed (g : Group) : Nat := max g.issued g.delivered

/-- P_eff (R73). -/
def ratedPowerUsed (s : State) (g : Group) : Nat :=
  if 0 < g.ratedPower then g.ratedPower
  else match g.pumpNode with
    | none => 2000
    | some i =>
      match s.fieldLines.nodes[i].reportedPower with
      | some p => if 0 < p then min 2000 p else 2000
      | none => 2000

/-- The power estimate of a group at a speed (R73). -/
def powerEstimate (s : State) (g : Group) (v : Nat) : Nat := ratedPowerUsed s g * v * v * v / 1000000000

/-- The estimates of the enabled groups other than `n`, at their claimed speeds (R73). -/
def otherPower (s : State) (n : Fin 32) : Nat :=
  (((List.finRange 32).filter (fun k => k != n && s.water.groups[k].enabled)).map
    (fun k => powerEstimate s s.water.groups[k] s.water.groups[k].claimed)).sum

/-- The power sum for a rise of group `n` to speed `v` (R73). -/
def powerSumAt (s : State) (n : Fin 32) (v : Nat) : Nat := powerEstimate s s.water.groups[n] v + otherPower s n

/-- The present power sum (R82). -/
def presentPowerSum (s : State) : Nat :=
  (((List.finRange 32).filter (fun k => s.water.groups[k].enabled)).map
    (fun k => powerEstimate s s.water.groups[k] s.water.groups[k].claimed)).sum

/-! ### The computation at a pump turn -/

/-- The part is in SAFE (R104). -/
def State.inSafe (s : State) : Bool := s.clock.state == .safe

/-- Stage 1: the demanded height, the value of jet channel Jn at the present show time (R67). -/
def demandedHeight (s : State) (n : Fin 32) : Nat := (s.channels[jetChannel n].valueAt s.clock.showTime).r

/-- The wind factor of a class (R69). -/
def windFactor (c : WindClass) (w : Nat) : Nat :=
  if w ≤ c.lo then 1000
  else if c.hi ≤ w then c.floor
  else 1000 - (1000 - c.floor) * (w - c.lo) / (c.hi - c.lo)

/-- The wind term, for a group that names a wind class (R68). -/
def windTerm (s : State) (g : Group) : Option Nat :=
  g.windClass.map (fun c => g.heightLimit * windFactor s.water.windClasses[c] s.sup.smoothedWind / 1000)

/-- The level term, while the accepted LOW input is active (R68). -/
def levelTerm (s : State) (g : Group) : Option Nat :=
  if s.sup.low.active then some (g.heightLimit * s.sup.settings.levelCap / 1000) else none

def minOption (a : Nat) : Option Nat → Nat
  | none => a
  | some b => min a b

/-- Stage 2: the capped height (R68). -/
def cappedHeight (s : State) (g : Group) (demanded : Nat) : Nat :=
  if s.inSafe || !g.enabled then 0
  else minOption (minOption (min demanded g.heightLimit) (windTerm s g)) (levelTerm s g)

/-- A term decided: it is less than the height limit and the demanded height and equal to the capped height
(R68, WIND and LEVEL). -/
def termDecides (limit demanded capped : Nat) : Option Nat → Bool
  | none => false
  | some t => t < limit && t < demanded && t == capped

/-- Stage 3: the speed of a height between two points of the curve, in a straight line (R70). -/
def interpolate : List CurvePoint → Nat → Nat
  | p :: q :: rest, h =>
    if p.height ≤ h ∧ h < q.height then p.speed + (q.speed - p.speed) * (h - p.height) / (q.height - p.height)
    else interpolate (q :: rest) h
  | _, _ => 0

/-- Stage 3: the target speed through the curve (R70). -/
def curveSpeed (curve : Vector CurvePoint 8) (h : Nat) : Nat :=
  if h = 0 then 0
  else if curve[7].height ≤ h then curve[7].speed
  else interpolate curve.toList h

/-- Stage 4: the valve command (R71). -/
def valveCommand (g : Group) (capped : Nat) : Bool :=
  if g.valve.isNone then g.valveOpen
  else if 0 < capped then true
  else if g.delivered ≤ g.bypass then false
  else g.valveOpen

/-- The valve counts as confirmed open: its node is ONLINE and that node's latest CLEAN answer reports the
output open (R71). -/
def valveConfirmed (s : State) (v : ValveBinding) : Bool :=
  s.fieldLines.nodes[v.node].state == .online && s.fieldLines.nodes[v.node].confirmedOpen.getLsbD v.output.val

/-- Stage 4: the target speed after the valve limit (R71). -/
def valveLimited (s : State) (g : Group) (target : Nat) : Nat :=
  match g.valve with
  | none => target
  | some v => if valveConfirmed s v then target else min target g.bypass

/-- The down-step in force (R72). -/
def effectiveDownStep (s : State) (g : Group) : Nat := if s.inSafe then max g.downStep g.safeDownStep else g.downStep

/-- Stage 5: the slew from the delivered speed (R72). -/
def slewed (s : State) (g : Group) (target : Nat) : Nat :=
  let v := min (max target (g.delivered - effectiveDownStep s g)) (g.delivered + g.upStep)
  if s.inSafe then min v g.delivered else v

/-- Stage 6: a rise that the budget does not carry (R74). -/
def budgetHolds (s : State) (n : Fin 32) (v : Nat) : Bool :=
  s.water.budget != 0 && s.water.groups[n].claimed < v && s.water.budget < powerSumAt s n v

/-- The group's record after its computation (R66 to R74, R77). -/
def computedGroup (s : State) (n : Fin 32) : Group :=
  let g := s.water.groups[n]
  let demanded := demandedHeight s n
  let capped := cappedHeight s g demanded
  let raw := curveSpeed g.curve capped
  let target := valveLimited s g raw
  let v := slewed s g target
  let held := budgetHolds s n v
  let caps := !s.inSafe && g.enabled
  { g with
    demanded := demanded, capped := capped, target := target, issued := if held then g.claimed else v,
    valveOpen := valveCommand g capped,
    flags := { g.flags with
      safe := s.inSafe, limit := caps && g.heightLimit < demanded && g.heightLimit == capped,
      wind := caps && termDecides g.heightLimit demanded capped (windTerm s g),
      level := caps && termDecides g.heightLimit demanded capped (levelTerm s g),
      valve := target < raw, slew := v != target, budget := held } }

/-- The water computation of a group at its pump node's SET turn (R66): the group's record is written, and
BUDGET_HELD is raised on a hold that sets BUDGET while it was clear (R74). -/
def compute (n : Fin 32) (s : State) : State :=
  let g := computedGroup s n
  let s1 := setGroupRec n g s
  if g.flags.budget && !s.water.groups[n].flags.budget then raise .budgetHeld s1 else s1

/-! ### The valve node turn -/

/-- The bit of the mask for one output (R78). -/
def maskBit (s : State) (i : Fin 40) (o : Fin 8) : Bool :=
  (List.finRange 32).any (fun n => s.water.groups[n].valve == some { node := i, output := o } && s.water.groups[n].valveOpen)

/-- The mask sent to a valve node (R78). -/
def valveMask (s : State) (i : Fin 40) : Byte :=
  BitVec.ofNat 8 (((List.finRange 8).map (fun o => if maskBit s i o then 2 ^ o.val else 0)).sum)

/-! ### SET GROUP (R80, R81, R163) -/

/-- The ranges of R80, less the indices and absent codes, which are read first. -/
def groupInRange (a : GroupArgs) : Bool :=
  a.heightLimit ≤ 6000 && a.lead ≤ 5000 && 1 ≤ a.upStep && a.upStep ≤ 200 && 1 ≤ a.downStep && a.downStep ≤ 200 &&
    1 ≤ a.safeDownStep && a.safeDownStep ≤ 200 && a.bypass ≤ 1000 && a.ratedPower ≤ 2000 &&
    (!a.enabled || a.pumpNode.isSome)

/-- The valve binding of SET GROUP: absent, or a node and an output within range; none where it is out of
range. -/
def valveBinding? : Option ValveArgs → Option (Option ValveBinding)
  | none => some none
  | some v =>
    match fin? 40 v.node, fin? 8 v.output with
    | some i, some o => some (some { node := i, output := o })
    | _, _ => none

def nodeAbsent (s : State) (i : Fin 40) : Bool := s.fieldLines.nodes[i].state == .absent

/-- R80 check 1: a named node is ABSENT. -/
def namesAbsent (s : State) (pump : Option (Fin 40)) (valve : Option ValveBinding) : Bool :=
  pump.any (nodeAbsent s) || valve.any (fun v => nodeAbsent s v.node)

/-- R80 check 2: a named node is of the other kind. -/
def namesWrongKind (s : State) (pump : Option (Fin 40)) (valve : Option ValveBinding) : Bool :=
  pump.any (fun i => s.fieldLines.nodes[i].kind == .valve) || valve.any (fun v => s.fieldLines.nodes[v.node].kind == .pump)

/-- R80 check 3: the pump node or the valve output is bound to another group. -/
def boundElsewhere (s : State) (n : Fin 32) (pump : Option (Fin 40)) (valve : Option ValveBinding) : Bool :=
  (List.finRange 32).any (fun k => k != n &&
    ((pump.isSome && s.water.groups[k].pumpNode == pump) || (valve.isSome && s.water.groups[k].valve == valve)))

/-- R80 check 4: the present pump node is removed while it is JOINING, ONLINE or SUSPECT and the claimed
speed is above 0. -/
def removesRunningPump (s : State) (g : Group) (pump : Option (Fin 40)) : Bool :=
  match g.pumpNode with
  | none => false
  | some i =>
    pump != some i && 0 < g.claimed &&
      (s.fieldLines.nodes[i].state == .joining || s.fieldLines.nodes[i].state == .online ||
        s.fieldLines.nodes[i].state == .suspect)

/-- R80 check 5: the present valve binding is removed while the valve command is OPEN. -/
def removesOpenValve (g : Group) (valve : Option ValveBinding) : Bool :=
  g.valve.isSome && valve != g.valve && g.valveOpen

/-- The all-zero curve, which a pin reset leaves (R62). -/
def curveAllZero (c : Vector CurvePoint 8) : Bool := c.toList.all (fun p => p.height == 0 && p.speed == 0)

def pumpLost (s : State) : Option (Fin 40) → Bool
  | none => false
  | some i => s.fieldLines.nodes[i].state == .lost

/-- The group record that an accepted SET GROUP writes: the fields it carries, and the immediate effects of
a change of pump node or valve (R81, R163). -/
def configuredGroup (s : State) (g : Group) (a : GroupArgs) (pump : Option (Fin 40)) (valve : Option ValveBinding)
    (wind : Option (Fin 4)) : Group :=
  let pumpChanged := pump != g.pumpNode
  let unbound := g.pumpNode.isSome && pump.isNone
  let valveChanged := valve != g.valve
  { g with
    enabled := a.enabled, critical := a.critical, pumpNode := pump, valve := valve, heightLimit := a.heightLimit,
    lead := a.lead, upStep := a.upStep, downStep := a.downStep, safeDownStep := a.safeDownStep, bypass := a.bypass,
    windClass := wind, ratedPower := a.ratedPower,
    issued := if pumpChanged then 0 else g.issued, delivered := if pumpChanged then 0 else g.delivered,
    valveOpen := if valveChanged || unbound then false else g.valveOpen,
    flags := if pumpChanged then { g.flags with declined := false, lost := pumpLost s pump } else g.flags }

/-- An accepted SET GROUP (R81): the record, the dispatch times after a change of lead (R23), and
CRITICAL_LOST after a change of the critical flag or the pump node (R110). -/
def acceptGroup (n : Fin 32) (g' : Group) (s : State) : State :=
  let g := s.water.groups[n]
  let s1 := setGroupRec n g' s
  let c := jetChannel n
  let s2 := if g'.lead ≠ g.lead then
      s1.setStore (s1.store.setTimeline c (recomputeDispatch g'.lead s1.store.timelines[c])) else s1
  if g'.critical ≠ g.critical ∨ g'.pumpNode ≠ g.pumpNode then evalCritical s2 else s2

/-- SET GROUP by its owner, with the checks of R80 in their order. -/
def ownSetGroup (a : GroupArgs) (s : State) : Owned :=
  match fin? 32 a.group, optFin? 40 a.pumpNode, valveBinding? a.valve, optFin? 4 a.windClass with
  | some n, some pump, some valve, some wind =>
    let g := s.water.groups[n]
    if !groupInRange a then refuse .outOfRange s
    else if namesAbsent s pump valve then refuse .noSuch s
    else if namesWrongKind s pump valve then refuse .outOfRange s
    else if boundElsewhere s n pump valve then refuse .duplicate s
    else if removesRunningPump s g pump then refuse .inUse s
    else if removesOpenValve g valve then refuse .inUse s
    else if a.enabled && curveAllZero g.curve then refuse .wrongState s
    else done [] (acceptGroup n (configuredGroup s g a pump valve wind) s)
  | _, _, _, _ => refuse .outOfRange s

/-! ### SET CURVE, SET WIND CLASS, SET BUDGET, READ GROUP -/

/-- Heights strictly rising and speeds never falling along the points (R63). -/
def curveRises : List CurvePoint → Bool
  | p :: q :: rest => p.height < q.height && p.speed ≤ q.speed && curveRises (q :: rest)
  | _ => true

/-- The tests of R63 on a curve's points. -/
def curveValid (curve : Vector CurvePoint 8) : Bool :=
  curve.toList.all (fun p => p.height ≤ 6000 && p.speed ≤ 1000) && curve[0].height == 0 && 1 ≤ curve[0].speed &&
    curveRises curve.toList

/-- SET CURVE by its owner (R63). -/
def ownSetCurve (group : Nat) (curve : Vector CurvePoint 8) (s : State) : Owned :=
  match fin? 32 group with
  | none => refuse .outOfRange s
  | some n =>
    if curveValid curve then done [] (setGroupRec n { s.water.groups[n] with curve := curve } s)
    else refuse .outOfRange s

/-- SET WIND CLASS by its owner (R64). -/
def ownSetWindClass (windClass lo hi floor : Nat) (s : State) : Owned :=
  match fin? 4 windClass with
  | none => refuse .outOfRange s
  | some c =>
    if 65535 < lo ∨ 65535 < hi ∨ 1000 < floor ∨ hi ≤ lo then refuse .outOfRange s
    else done [] (s.setWater { s.water with windClasses := s.water.windClasses.set c { lo := lo, hi := hi, floor := floor } })

/-- SET BUDGET by its owner (R76). -/
def ownSetBudget (budget : Nat) (s : State) : Owned :=
  if 65535 < budget then refuse .outOfRange s
  else done [] (s.setWater { s.water with budget := budget })

def optFinByte {n : Nat} : Option (Fin n) → List Byte
  | none => beBytes 1 255
  | some k => beBytes 1 k.val

/-- A group's configuration as SET GROUP carries it (11.2). -/
def Group.configBytes (g : Group) (n : Fin 32) : List Byte :=
  beBytes 1 n.val ++ beBytes 1 (bitNat g.enabled + 2 * bitNat g.critical) ++ optFinByte g.pumpNode ++
    optFinByte (g.valve.map (·.node)) ++ optFinByte (g.valve.map (·.output)) ++ beBytes 2 g.heightLimit ++
    beBytes 2 g.lead ++ beBytes 1 g.upStep ++ beBytes 1 g.downStep ++ beBytes 1 g.safeDownStep ++ beBytes 2 g.bypass ++
    optFinByte g.windClass ++ beBytes 2 g.ratedPower

/-- The valve command as READ GROUP shows it: 0xFF without a valve (11.4). -/
def Group.valveByte (g : Group) : List Byte := if g.valve.isNone then beBytes 1 255 else beBytes 1 (bitNat g.valveOpen)

/-- READ GROUP by its owner (R82, 11.4). -/
def ownReadGroup (group : Nat) (s : State) : Owned :=
  match fin? 32 group with
  | none => refuse .outOfRange s
  | some n =>
    let g := s.water.groups[n]
    done (g.configBytes n ++ curveBytes g.curve ++ beBytes 2 g.demanded ++ beBytes 2 g.capped ++ beBytes 2 g.target ++
      beBytes 2 g.issued ++ beBytes 2 g.delivered ++ g.valveByte ++ beBytes 2 g.flags.toNat ++ beBytes 2 g.claimed ++
      beBytes 2 (ratedPowerUsed s g) ++ beBytes 2 (powerEstimate s g g.claimed) ++ beBytes 2 s.water.budget ++
      beBytes 2 (presentPowerSum s)) s

/-! ### Meanings -/

def execSetGroup (group : GroupArgs) (s : State) : Host.Outcome State Fault Refusal :=
  .next (issue (.setGroup group) (ownSetGroup group) s)
def execSetCurve (group : Nat) (curve : Vector CurvePoint 8) (s : State) : Host.Outcome State Fault Refusal :=
  .next (issue (.setCurve group curve) (ownSetCurve group curve) s)
def execSetWindClass (windClass lo hi floor : Nat) (s : State) : Host.Outcome State Fault Refusal :=
  .next (issue (.setWindClass windClass lo hi floor) (ownSetWindClass windClass lo hi floor) s)
def execSetBudget (budget : Nat) (s : State) : Host.Outcome State Fault Refusal :=
  .next (issue (.setBudget budget) (ownSetBudget budget) s)
def execReadGroup (group : Nat) (s : State) : Host.Outcome State Fault Refusal :=
  .next (issue (.readGroup group) (ownReadGroup group) s)

end Sys2Proof.Machine
end

