-- ==== Sys2Proof/Machine/FieldController.lean ====
section
/-! DEFINITION. The field line controller (chapter 5): check bytes and orders (R85, R89, R92), the
judgement of an answer (R91), rounds and turns (R87, R88), the outcome of a turn (R93 to R98), the six
requests on the field lines (R84, R99 to R102), and the line's own events. -/

namespace Sys2Proof.Machine

/-! ### Records -/

def FieldLines.line (f : FieldLines) : Line → LineRec
  | .a => f.a
  | .b => f.b

def FieldLines.setLine (f : FieldLines) (l : Line) (r : LineRec) : FieldLines :=
  match l with
  | .a => { f with a := r }
  | .b => { f with b := r }

def State.line (s : State) (l : Line) : LineRec := s.fieldLines.line l

def setLineRec (l : Line) (r : LineRec) (s : State) : State := s.setFieldLines (s.fieldLines.setLine l r)

def State.node (s : State) (i : Fin 40) : Node := s.fieldLines.nodes[i]

def setNodeRec (i : Fin 40) (n : Node) (s : State) : State :=
  s.setFieldLines { s.fieldLines with nodes := s.fieldLines.nodes.set i n }

def updateGroup (n : Fin 32) (f : Group → Group) (s : State) : State := setGroupRec n (f s.water.groups[n]) s

/-- Updates the group bound to a pump node, where there is one. -/
def updatePumpGroup (i : Fin 40) (f : Group → Group) (s : State) : State :=
  match pumpGroup s i with
  | none => s
  | some n => updateGroup n f s

def Group.setLost (lost : Bool) (g : Group) : Group := { g with flags := { g.flags with lost := lost } }

def Group.setDeclined (declined : Bool) (g : Group) : Group := { g with flags := { g.flags with declined := declined } }

/-- The LOST flag of the group bound to a pump node follows the node into LOST and ONLINE (R77, R79). -/
def followLost (i : Fin 40) (st : NodeState) (s : State) : State :=
  match st with
  | .lost => updatePumpGroup i (Group.setLost true) s
  | .online => updatePumpGroup i (Group.setLost false) s
  | _ => s

/-- A node's record is written; a change of its state reaches the bound group's LOST flag and the
supervision unit when it happens (R79, R94, R110). -/
def writeNode (i : Fin 40) (n : Node) (s : State) : State :=
  let before := s.node i
  let s1 := setNodeRec i n s
  if n.state = before.state then s1 else evalCritical (followLost i n.state s1)

/-! ### Check bytes and orders -/

/-- One shift of the running value (R92). -/
def crcShift (v : Byte) : Byte := if v.getLsbD 7 then (v <<< 1) ^^^ 0x07#8 else v <<< 1

/-- The running value after one more character (R92). -/
def crcStep (v c : Byte) : Byte := crcShift (crcShift (crcShift (crcShift (crcShift (crcShift (crcShift (crcShift (v ^^^ c))))))))

/-- The check byte: the CRC-8 of the characters before it (R92). -/
def crc8 (chars : List Byte) : Byte := chars.foldl crcStep 0

/-- The order kind code of a turn (11.5): a ZERO stage is a SET order. -/
def Turn.kindCode : Turn → Nat
  | .set => 0
  | .join .identify => 1
  | .join .configure => 2
  | .join .zero => 0

/-- Character 0 of an order (11.5): address, kind, sequence bit. -/
def orderHead (address kind : Nat) (sequence : Bool) : Byte := BitVec.ofNat 8 (address + 32 * kind + 128 * bitNat sequence)

/-- The characters of an order: the first with mark bit 1, every other with mark bit 0 (R85, R89, 11.5). -/
def orderChars (address kind : Nat) (sequence : Bool) (payload : List Byte) : List TxChar :=
  let head := orderHead address kind sequence
  let body := beBytes 1 payload.length ++ payload
  { mark := true, data := head } ::
    (body ++ [crc8 (head :: body)]).map (fun c => { mark := false, data := c })

/-- The 11 bits of a character: a start bit at the low level, the data least significant bit first, the mark bit, a
stop bit at the high level (R85). -/
def TxChar.bits (c : TxChar) : List Bool := false :: ((List.range 8).map (fun k => c.data.getLsbD k) ++ [c.mark, true])

/-- The character that 11 received bits carry (R85). -/
def RxChar.ofBits (bits : List Bool) : RxChar :=
  { data := BitVec.ofNat 8 (((List.range 8).map (fun k => bitNat (bits.getD (k + 1) false) * 2 ^ k)).sum),
    mark := bits.getD 9 false, stopHigh := bits.getD 10 false }

/-- The idle (marking) level of a line (R83, R85). DEDUCED: it is the high level, the stop bit's (log 33). -/
def idleLevel : Bool := true

/-- A break: 20 bit times at the low level; after it 1 character time at the idle level (R85). -/
def breakBits : List Bool := List.replicate 20 false
def idleCharacter : List Bool := List.replicate 11 idleLevel

/-- The levels of the line's output, bit by bit, over the latest order and its break (R85). -/
def LineRec.sentBits (r : LineRec) : List Bool :=
  (if r.sentBreak then breakBits ++ idleCharacter else []) ++ r.sentOrder.flatMap TxChar.bits

/-- The line's driver enable over the same bits: asserted for the whole of an order or break (R85), and a free value
over the idle character between them (log 30). It is released after the last of them. -/
def LineRec.driverEnable (r : LineRec) : List Bool :=
  (if r.sentBreak then List.replicate 20 true ++ List.replicate 11 Config.driverEnabledAfterBreak else []) ++
    List.replicate (11 * r.sentOrder.length) true

/-- The line's transmit output at a bit time from the start of its latest order or break: the bits of these, and the
idle level from the end of the last stop bit on. After a pin reset it is held at the idle level (R83, R85). -/
def LineRec.transmit (r : LineRec) (bit : Nat) : Bool := r.sentBits.getD bit idleLevel

/-- The line's driver enable at the same bit time: inactive from the end of the last stop bit on, and after a pin reset
(R83, R85). -/
def LineRec.driverActive (r : LineRec) (bit : Nat) : Bool := r.driverEnable.getD bit false

/-- The hold time of a CONFIGURE order, in milliseconds (R97). -/
def holdTime (c : LineSettings) : Nat := min 65535 (c.roundPeriod * (c.lostLimit + 1))

/-- The exchange with its order built from a payload. -/
def Exchange.withOrder (x : Exchange) (n : Node) (group : Option (Fin 32)) (payload : List Byte) : Exchange :=
  { x with order := orderChars n.address x.turn.kindCode n.sequence payload, group := group }

/-- A SET order is built before the first attempt (R89): the speed from the water unit for a pump node, 0
with no group bound (R66), the mask for a valve node (R78). -/
def buildSet (i : Fin 40) (x : Exchange) (s : State) : State × Exchange :=
  match (s.node i).kind with
  | .valve => (s, x.withOrder (s.node i) none (beBytes 1 (valveMask s i).toNat))
  | .pump =>
    match pumpGroup s i with
    | none => (s, x.withOrder (s.node i) none (beBytes 2 0))
    | some n =>
      let s1 := compute n s
      (s1, x.withOrder (s1.node i) (some n) (beBytes 2 s1.water.groups[n].issued))

/-- The order of a join stage is built (R96 to R98): IDENTIFY starts with sequence bit 0; CONFIGURE carries
the hold time; ZERO carries 0 and the bound pump group's issued speed becomes 0. -/
def buildJoin (l : Line) (i : Fin 40) (stage : JoinStage) (x : Exchange) (s : State) : State × Exchange :=
  match stage with
  | .identify =>
    let n := { s.node i with sequence := false }
    (setNodeRec i n s, x.withOrder n none [])
  | .configure => (s, x.withOrder (s.node i) none (beBytes 2 (holdTime (s.line l).active)))
  | .zero =>
    match (s.node i).kind with
    | .valve => (s, x.withOrder (s.node i) none (beBytes 1 0))
    | .pump => (updatePumpGroup i (fun g => { g with issued := 0 }) s, x.withOrder (s.node i) none (beBytes 2 0))

/-- The order of a turn is built before its first attempt and resent as it is at every other (R89). -/
def buildOrder (l : Line) (x : Exchange) (s : State) : State × Exchange :=
  if x.order = [] then
    match x.turn with
    | .set => buildSet x.index x s
    | .join stage => buildJoin l x.index stage x s
  else (s, x)

/-- ATTEMPT_START: the order begins on the line, after a break for IDENTIFY, and the part listens after it
(R85, R89, R90). -/
def attemptStart (l : Line) (s : State) : State :=
  match (s.line l).exchange with
  | some x =>
    if x.phase = .ready then
      let (s1, x1) := buildOrder l x s
      setLineRec l { s1.line l with exchange := some { x1 with phase := .listening }, sentOrder := x1.order,
                                    sentBreak := x1.turn == .join .identify } s1
    else s
  | none => s

/-! ### The judgement of an answer -/

/-- The data of a received character, 0 where there is none. -/
def rxData (chars : List RxChar) (k : Nat) : Nat :=
  match chars[k]? with
  | some c => c.data.toNat
  | none => 0

def rxBytes (chars : List RxChar) : List Byte := chars.map (·.data)

/-- The declared length, carried in the answer's second character (R91). -/
def declaredLength (chars : List RxChar) : Nat := rxData chars 1

/-- The check byte of an answer is the CRC-8 of the characters before it (R91 test 5, R92). -/
def checkByteGood (chars : List RxChar) : Bool := (rxBytes chars).getLast? == some (crc8 (rxBytes chars).dropLast)

/-- The payload length expected of an answer (R91). -/
def expectedLength (turn : Turn) (kind : NodeKind) : Nat :=
  match turn with
  | .join .identify => 3
  | .join .configure => 0
  | .set | .join .zero =>
    match kind with
    | .pump => 3
    | .valve => 2

/-- The sequence bit the order carried. -/
def orderSequence (order : List TxChar) : Bool :=
  match order with
  | c :: _ => c.data.getLsbD 7
  | [] => false

/-- Tests 6 to 10 of R91, on an answer whose characters and check byte are good. -/
def judgeContent (x : Exchange) (n : Node) (chars : List RxChar) : Condition :=
  let head := rxData chars 0
  if flagBit head 7 != orderSequence x.order then .stale
  else if declaredLength chars < expectedLength x.turn n.kind then .short
  else if expectedLength x.turn n.kind < declaredLength chars then .overlong
  else if x.turn == .join .identify && rxData chars 2 != n.kind.code then .mismatch
  else if flagBit head 5 then .declined
  else .clean

/-- The judgement of an answer that began (R91), tests 2 to 10 in order. -/
def judge (x : Exchange) (n : Node) (chars : List RxChar) : Condition :=
  if chars.any (fun c => !c.stopHigh) then .garbled
  else if chars.length < 3 ∨ chars.length < declaredLength chars + 3 then .short
  else if declaredLength chars + 3 < chars.length then .overlong
  else if !checkByteGood chars || rxData chars 0 % 32 != n.address then .garbled
  else judgeContent x n chars

/-- An attempt judged so has failed and may be made again (R93). -/
def Condition.failed : Condition → Bool
  | .silent | .garbled | .short | .overlong | .stale => true
  | .none | .mismatch | .declined | .clean => false

/-! ### Rounds -/

/-- The turn of a node begins: the exchange waits for its first attempt (R88, R89). -/
def beginTurn (l : Line) (i : Fin 40) (turn : Turn) (s : State) : State :=
  setLineRec l { s.line l with
    round := .underWay i,
    exchange := some { index := i, turn := turn, order := [], group := none, further := 0, discard := false, phase := .ready } } s

/-- The node's turn finds rejoin requested: its join starts from IDENTIFY in this turn (R101). -/
def rejoinedNode (n : Node) : Node :=
  { n with rejoin := false, countdown := Config.rejoinRounds, failedRounds := 0, state := .joining, stage := .identify }

/-- A LOST node's countdown reached 0 (R88). -/
def retriedNode (n : Node) : Node :=
  { n with countdown := Config.rejoinRounds, state := .joining, stage := .identify }

/-- The round reaches an index (R88): the state after it, and whether a turn begins there. -/
def visit (l : Line) (i : Fin 40) (s : State) : State × Bool :=
  let n := s.node i
  if n.state = .absent ∨ n.line ≠ l then (s, false)
  else if n.rejoin then (beginTurn l i (.join .identify) (writeNode i (rejoinedNode n) s), true)
  else match n.state with
    | .online | .suspect => (beginTurn l i .set s, true)
    | .joining => (beginTurn l i (.join n.stage) s, true)
    | .lost =>
      if n.countdown ≤ 1 then (beginTurn l i (.join .identify) (writeNode i (retriedNode n) s), true)
      else (setNodeRec i { n with countdown := n.countdown - 1 } s, false)
    | .absent => (s, false)

/-- The round visits indices in increasing order until a turn begins (R88). -/
def visitAll (l : Line) : List (Fin 40) → State → State × Bool
  | [], s => (s, false)
  | i :: rest, s =>
    match visit l i s with
    | (s1, true) => (s1, true)
    | (s1, false) => visitAll l rest s1

/-- The start of a round: the pending settings are committed, the round is counted and under way (R84,
R88). -/
def beginRound (l : Line) (s : State) : State :=
  let r := s.line l
  setLineRec l { r with active := r.pending, roundCount := (r.roundCount + 1) % 65536, round := .underWay 0 } s

def setRoundIdle (l : Line) (s : State) : State := setLineRec l { s.line l with round := .idle, exchange := none } s

/-- A round starts, runs on to its first turn, and becomes IDLE where it has none (R88). -/
def startRound (l : Line) (s : State) : State :=
  match visitAll l (List.finRange 40) (beginRound l s) with
  | (s1, true) => s1
  | (s1, false) => setRoundIdle l s1

/-- The round has passed index 39: a pending start starts the next round at once, otherwise the line is
IDLE (R87, R88). -/
def endRound (l : Line) (s : State) : State :=
  if (s.line l).pendingStart then startRound l (setLineRec l { s.line l with pendingStart := false, exchange := none } s)
  else setRoundIdle l s

/-- A turn has ended and the round goes on after its index (R88). -/
def continueRound (l : Line) (i : Fin 40) (s : State) : State :=
  let s0 := setLineRec l { s.line l with exchange := none } s
  match visitAll l ((List.finRange 40).drop (i.val + 1)) s0 with
  | (s1, true) => s1
  | (s1, false) => endRound l s1

/-- ROUND_TIMER_EXPIRY (R87): the timer is reloaded with the active period; a round starts, or pending
start and overrun are set and ROUND_OVERRUN raised. -/
def roundTimerExpiry (l : Line) (s : State) : State :=
  let r := { s.line l with timerPeriod := (s.line l).active.roundPeriod }
  match r.round with
  | .idle => startRound l (setLineRec l { r with overrun := false } s)
  | .underWay _ => raise .roundOverrun (setLineRec l { r with pendingStart := true, overrun := true } s)

/-! ### The outcome of a turn -/

/-- What a SET answer judged CLEAN or DECLINED records in the node (R95, R166). -/
def recordAnswer (n : Node) (clean : Bool) (chars : List RxChar) : Node :=
  let fault : Byte := if flagBit (rxData chars 0) 6 then
      BitVec.ofNat 8 (rxData chars (match n.kind with | .pump => 4 | .valve => 3)) else 0
  match n.kind with
  | .pump => { n with actualSpeed := rxData chars 2 * 256 + rxData chars 3, faultCode := fault }
  | .valve =>
    { n with confirmedOpen := if clean then BitVec.ofNat 8 (rxData chars 2) else n.confirmedOpen, faultCode := fault }

/-- The result reaches the group that the order was computed for, provided it is still bound to the node
(R77, R94). -/
def handResult (x : Exchange) (f : Group → Group) (s : State) : State :=
  match x.group with
  | none => s
  | some n => if s.water.groups[n].pumpNode = some x.index then updateGroup n f s else s

def Group.deliver (g : Group) : Group := { g with delivered := g.issued, flags := { g.flags with declined := false } }

/-- A CLEAN answer to the ZERO stage's SET order: the delivered speed is 0 and DECLINED is cleared (R65, R79). -/
def Group.comeToRest (g : Group) : Group := { g with delivered := 0, flags := { g.flags with declined := false } }

/-- A node becomes LOST with its countdown loaded, and NODE_LOST is raised (R94, R98). -/
def loseNode (i : Fin 40) (n : Node) (s : State) : State :=
  raise .nodeLost (writeNode i { n with state := .lost, countdown := Config.rejoinRounds } s)

/-- The outcome of a SET turn (R94, R95, R93). -/
def setOutcome (l : Line) (x : Exchange) (c : Condition) (chars : List RxChar) (s : State) : State :=
  let n := s.node x.index
  match c with
  | .clean =>
    let n1 := { recordAnswer n true chars with failedRounds := 0, state := .online, sequence := !n.sequence }
    handResult x Group.deliver (writeNode x.index n1 s)
  | .declined =>
    let n1 := { recordAnswer n false chars with failedRounds := 0, state := .online }
    handResult x (Group.setDeclined true) (writeNode x.index n1 s)
  | _ =>
    let n1 := { n with failedRounds := n.failedRounds + 1 }
    if (s.line l).active.lostLimit ≤ n1.failedRounds then loseNode x.index n1 s
    else writeNode x.index { n1 with state := .suspect } s

/-- A join stage has failed (R98). -/
def joinFailed (i : Fin 40) (n : Node) (s : State) : State := loseNode i { n with stage := .identify } s

/-- A join stage has succeeded (R96 to R98). -/
def joinCleaned (i : Fin 40) (stage : JoinStage) (n : Node) (chars : List RxChar) (s : State) : State :=
  let flipped := { n with sequence := !n.sequence }
  match stage with
  | .identify =>
    writeNode i { flipped with reportedPower := some (rxData chars 3 * 256 + rxData chars 4), stage := .configure } s
  | .configure => writeNode i { flipped with stage := .zero } s
  | .zero =>
    let n1 := { recordAnswer flipped true chars with failedRounds := 0, state := .online, stage := .identify }
    match n.kind with
    | .pump => raise .nodeJoined (writeNode i n1 (updatePumpGroup i Group.comeToRest s))
    | .valve => raise .nodeJoined (writeNode i { n1 with confirmedOpen := 0 } s)

/-- A join stage answered DECLINED has failed (R98). A ZERO order is a SET order: its answer is recorded in the node
(R95) and sets DECLINED in the group bound to a pump node (R79, log 16). -/
def joinDeclined (i : Fin 40) (stage : JoinStage) (n : Node) (chars : List RxChar) (s : State) : State :=
  match stage with
  | .identify => joinFailed i n s
  | .configure => joinFailed i n s
  | .zero => joinFailed i (recordAnswer n false chars) (updatePumpGroup i (Group.setDeclined true) s)

/-- The outcome of a join turn (R96 to R98). -/
def joinOutcome (x : Exchange) (stage : JoinStage) (c : Condition) (chars : List RxChar) (s : State) : State :=
  let n := s.node x.index
  match c with
  | .clean => joinCleaned x.index stage n chars s
  | .declined => joinDeclined x.index stage n chars s
  | _ => joinFailed x.index n s

/-- The outcome of a turn, applied when the turn ends. -/
def turnOutcome (l : Line) (x : Exchange) (c : Condition) (chars : List RxChar) (s : State) : State :=
  match x.turn with
  | .set => setOutcome l x c chars s
  | .join stage => joinOutcome x stage c chars s

/-- The end of an attempt with its judgement (R91, R93): the judgement is the node's last condition; a
failed attempt within the retry limit is made again; otherwise the turn ends and the round goes on. An
attempt whose node was dropped is discarded unjudged (R100). -/
def attemptEnd (l : Line) (x : Exchange) (judged : Node → Condition) (chars : List RxChar) (s : State) : State :=
  if x.discard then continueRound l x.index s
  else
    let c := judged (s.node x.index)
    let s1 := setNodeRec x.index { s.node x.index with condition := c } s
    if c.failed && x.further < (s1.line l).active.retryLimit then
      setLineRec l { s1.line l with exchange := some { x with further := x.further + 1, phase := .ready } } s1
    else continueRound l x.index (turnOutcome l x c chars s1)

/-- REPLY_WAIT_EXPIRY (R90): no answer began, and the attempt is SILENT. -/
def replyWaitExpiry (l : Line) (s : State) : State :=
  match (s.line l).exchange with
  | some x => if x.phase = .listening then attemptEnd l x (fun _ => .silent) [] s else s
  | none => s

/-- ANSWER_BEGIN (R90): the first start bit within the reply wait begins the answer. -/
def answerBegin (l : Line) (s : State) : State :=
  match (s.line l).exchange with
  | some x =>
    if x.phase = .listening then setLineRec l { s.line l with exchange := some { x with phase := .collecting } } s else s
  | none => s

/-- ANSWER_END (R90): the answer, of at most 259 characters, is judged and applied. -/
def answerEnd (l : Line) (chars : List RxChar) (s : State) : State :=
  match (s.line l).exchange with
  | some x =>
    if x.phase = .collecting then attemptEnd l x (fun n => judge x n (chars.take 259)) (chars.take 259) s else s
  | none => s

/-! ### Requests on the field lines -/

/-- The ranges of R84. -/
def lineSettingsInRange (c : LineSettings) : Bool :=
  (c.prescale == 1 || c.prescale == 8) && c.divisor ≤ 4095 && 10 ≤ c.roundPeriod && c.roundPeriod ≤ 250 &&
    c.retryLimit ≤ 7 && 1 ≤ c.lostLimit && c.lostLimit ≤ 15 && 1 ≤ c.replyWait && c.replyWait ≤ 50

/-- Every node whose line is this line is ABSENT (R84). -/
def lineEmpty (s : State) (l : Line) : Bool :=
  s.fieldLines.nodes.toList.all (fun n => n.line != l || n.state == .absent)

/-- The exchange stands between two attempts of its turn: one has ended and the next has not begun. -/
def Exchange.betweenAttempts (x : Exchange) : Bool := x.phase == .ready && x.further != 0

/-- An exchange is on the wire on the line (R84, R100): its turn has begun (R103) and it does not stand between two
attempts. -/
def onWire (r : LineRec) : Bool :=
  match r.exchange with
  | none => false
  | some x => !x.betweenAttempts

/-- SET LINE by its owner (R84). -/
def ownSetLine (line : Nat) (c : LineSettings) (s : State) : Owned :=
  match line? line with
  | none => refuse .outOfRange s
  | some l =>
    if !lineSettingsInRange c then refuse .outOfRange s
    else
      let r := { s.line l with pending := c }
      done [] (setLineRec l (if lineEmpty s l && !onWire r then { r with active := c } else r) s)

/-- A non-ABSENT node already has the line and address (R99 check 2). -/
def addressTaken (s : State) (l : Line) (address : Nat) : Bool :=
  s.fieldLines.nodes.toList.any (fun n => n.state != .absent && n.line == l && n.address == address)

/-- How many non-ABSENT nodes of a kind exist (R99 check 3). -/
def kindCount (s : State) (k : NodeKind) : Nat :=
  s.fieldLines.nodes.toList.countP (fun n => n.state != .absent && n.kind == k)

/-- The most nodes of a kind (R99 check 3). -/
def kindLimit : NodeKind → Nat
  | .pump => 32
  | .valve => 8

/-- SET NODE by its owner, with the checks of R99 in their order. -/
def ownSetNode (node line address kind : Nat) (s : State) : Owned :=
  match fin? 40 node, line? line, nodeKind? kind with
  | some i, some l, some k =>
    if address < 1 ∨ 20 < address then refuse .outOfRange s
    else if (s.node i).state ≠ .absent then refuse .inUse s
    else if addressTaken s l address then refuse .duplicate s
    else if kindLimit k ≤ kindCount s k then refuse .outOfRange s
    else
      done [] (writeNode i { Node.absentRecord with state := .joining, stage := .identify, line := l, address := address, kind := k } s)
  | _, _, _ => refuse .outOfRange s

/-- The order of a turn whose first attempt has not begun is built before its node is dropped, so that the exchange
that R103 finds on the wire can run out; an order already built stays. -/
def builtExchange (l : Line) (x : Exchange) (s : State) : Exchange :=
  if x.phase = .ready then (buildOrder l x s).2 else x

/-- An accepted DROP NODE (R100): an attempt of a turn that has begun runs on, to be discarded (R103); a turn between
attempts is over and the round goes on (log 15). -/
def dropNode (i : Fin 40) (s : State) : State :=
  let l := (s.node i).line
  let s1 := writeNode i Node.absentRecord s
  match (s.line l).exchange with
  | none => s1
  | some x =>
    if x.index ≠ i then s1
    else if x.betweenAttempts then continueRound l i s1
    else setLineRec l { s1.line l with exchange := some { builtExchange l x s with discard := true } } s1

/-- DROP NODE by its owner (R100). -/
def ownDropNode (node : Nat) (s : State) : Owned :=
  match fin? 40 node with
  | none => refuse .outOfRange s
  | some i =>
    if (s.node i).state = .absent then refuse .noSuch s
    else if nodeBound s i then refuse .inUse s
    else done [] (dropNode i s)

/-- REJOIN NODE by its owner (R101). -/
def ownRejoinNode (node : Nat) (s : State) : Owned :=
  match fin? 40 node with
  | none => refuse .outOfRange s
  | some i =>
    if (s.node i).state = .absent then refuse .noSuch s
    else done [] (setNodeRec i { s.node i with rejoin := true } s)

/-- READ NODE by its owner (R102, 11.4). -/
def ownReadNode (node : Nat) (s : State) : Owned :=
  match fin? 40 node with
  | none => refuse .outOfRange s
  | some i =>
    let n := s.node i
    done (beBytes 1 n.state.code ++ beBytes 1 n.stage.code ++ beBytes 1 (lineCode n.line) ++ beBytes 1 n.address ++
      beBytes 1 n.kind.code ++ beBytes 1 (bitNat n.sequence + 2 * bitNat n.rejoin + 4 * bitNat n.reportedPower.isSome) ++
      beBytes 1 n.failedRounds ++ beBytes 1 n.countdown ++ beBytes 1 n.condition.code ++
      beBytes 2 (n.reportedPower.getD 0) ++ beBytes 2 n.actualSpeed ++ [n.confirmedOpen] ++ [n.faultCode] ++
      optFinByte (pumpGroup s i) ++ (List.finRange 8).flatMap (fun o => optFinByte (valveGroup s i o))) s

/-- The bit rate in thousandths of a bit per second (R85, 11.4). -/
def bitRate (c : LineSettings) : Nat := 1536000000 / (c.prescale * (c.divisor + 1))

def RoundState.bytes : RoundState → List Byte
  | .idle => beBytes 1 0 ++ beBytes 1 255
  | .underWay i => beBytes 1 1 ++ beBytes 1 i.val

/-- The number of the line's nodes in a state, for the states in which a record is on a line (R102). -/
def lineCount (s : State) (l : Line) (st : NodeState) : Nat :=
  s.fieldLines.nodes.toList.countP (fun n => n.state == st && n.line == l)

/-- The byte READ LINE shows for the line's ABSENT nodes: a free value, since an ABSENT record's line means
nothing (R86, log 10). -/
def absentShown (s : State) (l : Line) : Byte :=
  Config.absentNodesShown (lineCode l) (s.fieldLines.nodes.toList.countP (fun n => n.state == .absent))

/-- READ LINE by its owner (R102, 11.4). -/
def ownReadLine (line : Nat) (s : State) : Owned :=
  match line? line with
  | none => refuse .outOfRange s
  | some l =>
    let r := s.line l
    done (r.active.bytes ++ r.pending.bytes ++ r.round.bytes ++ beBytes 1 (bitNat r.pendingStart + 2 * bitNat r.overrun) ++
      beBytes 2 r.roundCount ++ [absentShown s l] ++ beBytes 1 (lineCount s l .joining) ++
      beBytes 1 (lineCount s l .online) ++ beBytes 1 (lineCount s l .suspect) ++ beBytes 1 (lineCount s l .lost) ++
      beBytes 4 (bitRate r.active)) s

/-! ### Meanings -/

def execSetLine (line : Nat) (settings : LineSettings) (s : State) : Host.Outcome State Fault Refusal :=
  .next (issue (.setLine line settings) (ownSetLine line settings) s)
def execSetNode (node line address kind : Nat) (s : State) : Host.Outcome State Fault Refusal :=
  .next (issue (.setNode node line address kind) (ownSetNode node line address kind) s)
def execDropNode (node : Nat) (s : State) : Host.Outcome State Fault Refusal :=
  .next (issue (.dropNode node) (ownDropNode node) s)
def execRejoinNode (node : Nat) (s : State) : Host.Outcome State Fault Refusal :=
  .next (issue (.rejoinNode node) (ownRejoinNode node) s)
def execReadNode (node : Nat) (s : State) : Host.Outcome State Fault Refusal :=
  .next (issue (.readNode node) (ownReadNode node) s)
def execReadLine (line : Nat) (s : State) : Host.Outcome State Fault Refusal :=
  .next (issue (.readLine line) (ownReadLine line) s)
def execRoundTimerExpiry (line : Line) (s : State) : Host.Outcome State Fault Refusal := .next (roundTimerExpiry line s)
def execAttemptStart (line : Line) (s : State) : Host.Outcome State Fault Refusal := .next (attemptStart line s)
def execReplyWaitExpiry (line : Line) (s : State) : Host.Outcome State Fault Refusal := .next (replyWaitExpiry line s)
def execAnswerBegin (line : Line) (s : State) : Host.Outcome State Fault Refusal := .next (answerBegin line s)
def execAnswerEnd (line : Line) (chars : List RxChar) (s : State) : Host.Outcome State Fault Refusal :=
  .next (answerEnd line chars s)

end Sys2Proof.Machine
end

