-- ==== Sys2Proof/Machine/LightUnit.lean ====
section
/-! DEFINITION. The light unit (chapter 7): the light update, the commit at a PWM frame boundary, PWM
generation, and the five requests on outputs, heads, the safe scene and the master. -/

namespace Sys2Proof.Machine

/-! ### The blend (R125) -/

/-- The blend worked out from its record at an elapsed time (R125). -/
def blendValue (d : BlendDirection) (b0 fade e : Nat) : Nat :=
  match d with
  | .rising => if fade ≤ e then 1000 else b0 + (1000 - b0) * e / fade
  | .falling => if fade ≤ e then 0 else b0 - b0 * e / fade

/-- One light update of the blend (R125). -/
def Blend.advance (b : Blend) : Blend :=
  let e := if b.elapsed = 10000 then b.elapsed else b.elapsed + 1
  { b with elapsed := e, value := blendValue b.direction b.b0 b.fade e }

/-! ### The light update (R128, R129) -/

/-- One colour's level from its cue level, the master, the safe scene's level and the blend (R128). -/
def blendedLevel (master blend cue scene : Nat) : Nat :=
  (cue * master / 1000 * (1000 - blend) + scene * blend) / 1000

/-- The code of a level (R129). -/
def Response.codeOf : Response → Nat → Nat
  | .linear, l => l
  | .square, l => l * l / 4095

/-- The code a head gives an output, where the output carries one of its colours (R129). -/
def headCode (h : Head) (lights : Lights) (cue : Levels) (o : Fin 64) : Option Nat :=
  let code (scene l : Nat) := h.response.codeOf (blendedLevel lights.master lights.blend.value l scene)
  if !h.enabled then none
  else match h.outputs with
    | none => none
    | some a =>
      if a.r = o then some (code lights.scene.r cue.r)
      else if a.g = o then some (code lights.scene.g cue.g)
      else if a.b = o then some (code lights.scene.b cue.b)
      else if a.w = some o then some (code lights.scene.w cue.w)
      else none

/-- The code that a light update writes for an output: 0 for an UNSET output and for one that carries no
colour of an enabled head (R129). -/
def outputCode (s : State) (o : Fin 64) : Nat :=
  if s.lights.outputs[o].sense = .unset then 0
  else ((List.finRange 16).findSome? (fun h =>
    headCode s.lights.heads[h] s.lights (s.channels[headChannel h].valueAt s.clock.showTime) o)).getD 0

/-- LIGHT_UPDATE (R125, R128, R129): the blend advances, and every buffered code is written. A millisecond
of the reference crystal has passed (log 5). -/
def lightUpdate (s : State) : State :=
  let s1 := s.setLights { s.lights with blend := s.lights.blend.advance }
  let s2 := s1.setLights { s1.lights with outputs := Vector.ofFn fun o =>
    { s1.lights.outputs[o] with buffered := outputCode s1 o } }
  s2.setNow (s2.now + 1)

/-- PWM_FRAME_BOUNDARY (R120, R130): all 64 buffered codes are committed together, and an output whose
sense is set is driven from here on. -/
def pwmFrameBoundary (s : State) : State :=
  s.setLights { s.lights with outputs := Vector.ofFn fun o =>
    { s.lights.outputs[o] with committed := s.lights.outputs[o].buffered, driven := s.lights.outputs[o].sense != .unset } }

/-! ### PWM generation (R119, R132) -/

/-- Period `p` belongs to the extra pattern of a code's remainder (R132). -/
def inExtraPattern (extra p : Nat) : Bool :=
  (extra.testBit 0 && p == 7) || (extra.testBit 1 && p % 8 == 3) || (extra.testBit 2 && p % 4 == 1) ||
    (extra.testBit 3 && p % 2 == 0)

/-- The active counts of period `p` of the PWM frame for a code (R132). -/
def activeCounts (code p : Nat) : Nat := code / 16 + bitNat (inExtraPattern (code % 16) p)

/-- The level at an output's pin at a count of a period of the PWM frame under way, none while the pin is
undriven: active counts come first in each period (R119, R132). -/
def pinLevel (o : Output) (p count : Nat) : Option Bool :=
  if !o.driven then none
  else match o.sense with
    | .unset => none
    | .activeHigh => some (count < activeCounts o.committed p)
    | .activeLow => some (!(count < activeCounts o.committed p))

/-! ### Requests on the lights -/

/-- SET OUTPUT SENSE by its owner (R120): SET ONCE carries the sense in force. -/
def ownSetOutputSense (output sense : Nat) (s : State) : Owned :=
  match fin? 64 output, sense? sense with
  | some o, some x =>
    if s.lights.outputs[o].sense ≠ .unset then
      (s, some { status := .setOnce, data := beBytes 1 s.lights.outputs[o].sense.code })
    else
      done [] (s.setLights { s.lights with outputs := s.lights.outputs.set o { s.lights.outputs[o] with sense := x } })
  | _, _ => refuse .outOfRange s

/-- The outputs of an assignment, in the order R, G, B, W. -/
def HeadOutputs.list (a : HeadOutputs) : List (Fin 64) := [a.r, a.g, a.b] ++ a.w.toList

/-- The assignment of SET HEAD within range: absent, or each output below 64; none out of range. -/
def headOutputs? : Option HeadOutputArgs → Option (Option HeadOutputs)
  | none => some none
  | some a =>
    match fin? 64 a.r, fin? 64 a.g, fin? 64 a.b, optFin? 64 a.w with
    | some r, some g, some b, some w => some (some { r := r, g := g, b := b, w := w })
    | _, _, _, _ => none

/-- R122 check 1: two of the request's outputs are the same. -/
def repeatsOutput (a : HeadOutputs) : Bool := !decide a.list.Nodup

/-- A head's assignment names an output. -/
def headNames (h : Head) (o : Fin 64) : Bool := h.outputs.any (fun a => a.list.contains o)

/-- R122 check 2: one of the outputs is named in the assignment of another head. -/
def namedElsewhere (s : State) (n : Fin 16) (a : HeadOutputs) : Bool :=
  (List.finRange 16).any (fun k => k != n && a.list.any (headNames s.lights.heads[k]))

/-- SET HEAD by its owner (R122). -/
def ownSetHead (a : HeadArgs) (s : State) : Owned :=
  match fin? 16 a.head, headOutputs? a.outputs, response? a.response with
  | some n, some outs, some resp =>
    if a.enabled && outs.isNone then refuse .outOfRange s
    else if outs.any repeatsOutput then refuse .duplicate s
    else if outs.any (namedElsewhere s n) then refuse .duplicate s
    else done [] (s.setLights { s.lights with
      heads := s.lights.heads.set n { enabled := a.enabled, outputs := outs, response := resp } })
  | _, _, _ => refuse .outOfRange s

/-- SET SAFE SCENE by its owner (R124). -/
def ownSetSafeScene (scene : Levels) (s : State) : Owned :=
  if levelsWithin 4095 scene then done [] (s.setLights { s.lights with scene := scene }) else refuse .outOfRange s

/-- SET MASTER by its owner (R123): a value above 1000 is not refused but clamped. -/
def ownSetMaster (value : Nat) (s : State) : Owned :=
  done (beBytes 2 (min value 1000)) (s.setLights { s.lights with master := min value 1000 })

/-- An output as READ HEAD shows it: its sense and committed code (R133, 11.4). 11.4 shows the sense of an absent
output as 0xFF. DESIGN CHOICE (log 29): the two bytes of its code are 0. -/
def outputBytes (s : State) : Option (Fin 64) → List Byte
  | none => beBytes 1 255 ++ beBytes 2 0
  | some o => beBytes 1 s.lights.outputs[o].sense.code ++ beBytes 2 s.lights.outputs[o].committed

/-- A head's assignment as carried. -/
def HeadOutputs.toArgs (a : HeadOutputs) : HeadOutputArgs :=
  { r := a.r.val, g := a.g.val, b := a.b.val, w := a.w.map (·.val) }

/-- READ HEAD by its owner (R133, 11.4). -/
def ownReadHead (head : Nat) (s : State) : Owned :=
  match fin? 16 head with
  | none => refuse .outOfRange s
  | some n =>
    let h := s.lights.heads[n]
    let b := s.lights.blend
    done (headBytes h.enabled (h.outputs.map HeadOutputs.toArgs) h.response.code ++
      outputBytes s (h.outputs.map (·.r)) ++ outputBytes s (h.outputs.map (·.g)) ++ outputBytes s (h.outputs.map (·.b)) ++
      outputBytes s (h.outputs.bind (·.w)) ++ (s.channels[headChannel n].valueAt s.clock.showTime).bytes ++
      beBytes 2 s.lights.master ++ s.lights.scene.bytes ++ beBytes 1 b.direction.code ++ beBytes 2 b.b0 ++
      beBytes 2 b.fade ++ beBytes 2 b.elapsed ++ beBytes 2 b.value) s

/-! ### Meanings -/

def execSetOutputSense (output sense : Nat) (s : State) : Host.Outcome State Fault Refusal :=
  .next (issue (.setOutputSense output sense) (ownSetOutputSense output sense) s)
def execSetHead (head : HeadArgs) (s : State) : Host.Outcome State Fault Refusal :=
  .next (issue (.setHead head) (ownSetHead head) s)
def execSetSafeScene (scene : Levels) (s : State) : Host.Outcome State Fault Refusal :=
  .next (issue (.setSafeScene scene) (ownSetSafeScene scene) s)
def execSetMaster (value : Nat) (s : State) : Host.Outcome State Fault Refusal :=
  .next (issue (.setMaster value) (ownSetMaster value) s)
def execReadHead (head : Nat) (s : State) : Host.Outcome State Fault Refusal :=
  .next (issue (.readHead head) (ownReadHead head) s)
def execLightUpdate (s : State) : Host.Outcome State Fault Refusal := .next (lightUpdate s)
def execPwmFrameBoundary (s : State) : Host.Outcome State Fault Refusal := .next (pwmFrameBoundary s)

end Sys2Proof.Machine
end

