-- ==== Sys2Proof/Machine/ShowClock.lean ====
section
/-! DEFINITION. The show clock (chapter 2): its seven requests, the show tick, and the word-clock loss
timer. -/

namespace Sys2Proof.Machine

/-- The light return fade begins where return pending is set, and return pending is cleared (R28, R30,
R127). -/
def doReturnWork (s : State) : State :=
  if s.clock.returnPending then
    let s1 := s.setLights { s.lights with blend := s.lights.blend.begin .falling s.sup.settings.lightReturnFade }
    s1.setClock { s1.clock with returnPending := false }
  else s

/-- The clock becomes RUNNING with frame phase 0; a frame sent before counts toward no tick after (R26). The owner acts
where the request is taken, so that a frame sent after the taking counts (log 1). -/
def setRunning (s : State) : State :=
  s.setClock { s.clock with state := .running, framePhase := 0, ticksDue := 0 }

/-- START by its owner (R28). -/
def ownStart (s : State) : Owned :=
  if s.clock.state = .stopped ∧ s.clock.showTime < s.clock.showLength then
    done [] (doReturnWork (setRunning (chaseAll s.clock.showTime s.clock.showTime s)))
  else refuse .wrongState s

/-- PAUSE by its owner (R29). -/
def ownPause (s : State) : Owned :=
  if s.clock.state = .running then done [] (s.setClock { s.clock with state := .paused })
  else refuse .wrongState s

/-- RESUME by its owner (R30, R56): the programme channel alone is chased, where return pending is set. -/
def ownResume (s : State) : Owned :=
  if s.clock.state = .paused ∧ s.clock.showTime < s.clock.showLength then
    let s1 := if s.clock.returnPending then chaseProgramme s.clock.showTime s else s
    done [] (doReturnWork (setRunning s1))
  else refuse .wrongState s

/-- STOP by its owner (R31, R57). -/
def ownStop (s : State) : Owned :=
  if s.clock.state = .running ∨ s.clock.state = .paused then
    done [] (clearShow (s.setClock { s.clock with state := .stopped, showTime := 0 }))
  else refuse .wrongState s

/-- SEEK by its owner (R32): show time is clamped to the show length; in PAUSED all 49 channels are
chased. -/
def ownSeek (time : Nat) (s : State) : Owned :=
  if Config.showTimeMax < time then refuse .outOfRange s
  else
    let t := min time s.clock.showLength
    let moved := s.setClock { s.clock with showTime := t }
    match s.clock.state with
    | .stopped => done (beBytes 4 t) moved
    | .paused => done (beBytes 4 t) (chaseAll t s.clock.showTime moved)
    | .running => refuse .wrongState s
    | .safe => refuse .wrongState s

/-- SET SHOW LENGTH by its owner (R33). -/
def ownSetShowLength (length : Nat) (s : State) : Owned :=
  if Config.showTimeMax < length then refuse .outOfRange s
  else match s.clock.state with
    | .stopped => done [] (s.setClock { s.clock with showLength := length, showTime := min s.clock.showTime length })
    | .paused =>
      if length < s.clock.showTime then refuse .outOfRange s
      else done [] (s.setClock { s.clock with showLength := length })
    | .running => refuse .wrongState s
    | .safe => refuse .wrongState s

/-- READ CLOCK by its owner (R34, 11.4). -/
def ownReadClock (s : State) : Owned :=
  done (beBytes 1 s.clock.state.code ++ beBytes 4 s.clock.showTime ++ beBytes 4 s.clock.showLength ++
    beBytes 1 s.clock.mode.code ++ beBytes 1 s.clock.safeOrigin.code ++ beBytes 1 (bitNat s.clock.returnPending)) s

/-- A show tick in RUNNING (R27). -/
def advanceShow (s : State) : State :=
  let t := s.clock.showTime + 1
  let s1 := s.setClock { s.clock with showTime := t }
  if t = s.clock.showLength then
    raise .showEnd (recordCompletions t (s1.setClock { s1.clock with state := .paused }))
  else takeDue t s1

/-- SHOW_TICK: the clock handles a tick that the frame count has made (R26, R27). With none due nothing
happens (log 3). -/
def showTick (s : State) : State :=
  if s.clock.ticksDue = 0 then s
  else
    let s1 := s.setClock { s.clock with ticksDue := s.clock.ticksDue - 1 }
    if s.clock.state = .running then advanceShow s1 else s1

/-- An edge of the incoming word clock: the loss timer runs again from it and CLOCK_LOST becomes false
(R37). -/
def wordClockEdge (s : State) : State :=
  dropCause .clockLost (s.setClock { s.clock with lossTimerRunning := true })

/-- 20 ms without an edge: CLOCK_LOST becomes true and the attention cause is raised (R37). Nothing happens
where the timer does not run. -/
def wordClockLoss (s : State) : State :=
  if s.clock.mode = .follow ∧ s.clock.lossTimerRunning then
    addCause .clockLost (raise .clockLost (s.setClock { s.clock with lossTimerRunning := false }))
  else s

/-! ### Meanings -/

def execStart (s : State) : Host.Outcome State Fault Refusal := .next (issue .start ownStart s)
def execPause (s : State) : Host.Outcome State Fault Refusal := .next (issue .pause ownPause s)
def execResume (s : State) : Host.Outcome State Fault Refusal := .next (issue .resume ownResume s)
def execStop (s : State) : Host.Outcome State Fault Refusal := .next (issue .stop ownStop s)
def execSeek (time : Nat) (s : State) : Host.Outcome State Fault Refusal := .next (issue (.seek time) (ownSeek time) s)
def execSetShowLength (length : Nat) (s : State) : Host.Outcome State Fault Refusal :=
  .next (issue (.setShowLength length) (ownSetShowLength length) s)
def execReadClock (s : State) : Host.Outcome State Fault Refusal := .next (issue .readClock ownReadClock s)

/-- SHOW_TICK (R27). -/
def execShowTick (s : State) : Host.Outcome State Fault Refusal := .next (showTick s)

/-- WORD_CLOCK_LOSS_EXPIRY (R37). -/
def execWordClockLossExpiry (s : State) : Host.Outcome State Fault Refusal := .next (wordClockLoss s)

/-- WORD_CLOCK_EDGE (R37): an edge that begins no frame. In MASTER mode the word clock is the part's own
output and there is no incoming edge. -/
def execWordClockEdge (s : State) : Host.Outcome State Fault Refusal :=
  .next (if s.clock.mode = .follow then wordClockEdge s else s)

end Sys2Proof.Machine
end

