-- ==== Sys2Proof/Machine/PlaybackUnit.lean ====
section
/-! DEFINITION. The playback unit (chapter 8): segments and loading (8.2), audio frames (8.5), the serial
audio output (8.6), the safe fade (8.7) and the seven requests. -/

namespace Sys2Proof.Machine

/-! ### Segments -/

/-- How many cues of the store name a segment: its PLAY cues, in any state (R136). -/
def cueReferences (s : State) (seg : Fin 64) : Nat := playCues seg s.store.timelines[programme]

/-- How many voices that are not IDLE play a segment (R136). -/
def voiceReferences (s : State) (seg : Fin 64) : Nat := bitNat (s.play.v0.plays seg) + bitNat (s.play.v1.plays seg)

/-- A segment is referenced (R136). -/
def isReferenced (s : State) (seg : Fin 64) : Bool := cueReferences s seg + voiceReferences s seg != 0

def setSegment (seg : Fin 64) (x : Segment) (s : State) : State :=
  s.setPlay { s.play with segments := s.play.segments.set seg x }

/-- R137 check 3: the extent shares a frame index with the extent of another segment that is not EMPTY. -/
def overlapsAnother (s : State) (seg : Fin 64) (first length : Nat) : Bool :=
  (List.finRange 64).any (fun k => k != seg && s.play.segments[k].state != .empty &&
    first < s.play.segments[k].first + s.play.segments[k].length && s.play.segments[k].first < first + length)

/-- The ranges of R137, less the index. -/
def extentInRange (first length : Nat) (loopStart : Option Nat) : Bool :=
  first < Config.memoryFrames && 1 ≤ length && length ≤ Config.memoryFrames && loopStart.all (fun l => l < length)

/-- DEFINE SEGMENT by its owner (R137). -/
def ownDefineSegment (segment first length : Nat) (loopStart : Option Nat) (s : State) : Owned :=
  match fin? 64 segment with
  | none => refuse .outOfRange s
  | some k =>
    if !extentInRange first length loopStart then refuse .outOfRange s
    else if s.play.segments[k].state ≠ .empty then refuse .wrongState s
    else if Config.memoryFrames < first + length then refuse .outOfRange s
    else if overlapsAnother s k first length then refuse .overlap s
    else done [] (setSegment k { state := .filling, first := first, length := length, loopStart := loopStart } s)

/-- LOAD FRAMES by its owner (R138): an accepted one begins writing and gives no answer yet. -/
def ownLoadFrames (segment offset count : Nat) (frames : List Frame) (s : State) : Owned :=
  match fin? 64 segment with
  | none => refuse .outOfRange s
  | some k =>
    let g := s.play.segments[k]
    if count = 0 ∨ 256 < count ∨ Config.memoryFrames ≤ offset then refuse .outOfRange s
    else match g.state with
      | .empty => refuse .noSuch s
      | .ready => refuse .protected_ s
      | .filling =>
        if g.length < offset + count then refuse .outOfRange s
        else (s.setLink { s.link with state := .handling (.writing (g.first + offset) frames) }, none)

/-- The last frame of a LOAD FRAMES is written and its DONE answer placed (R138, R156). -/
def finishLoad (first : Nat) (frames : List Frame) (s : State) : State :=
  let s1 := s.setPlay { s.play with memory := memWriteFrames s.play.memory first frames }
  answerWith { echo := s1.link.request.headD 0, status := .done, data := [] } s1

/-- The writes of a LOAD FRAMES stay inside sample memory (R135). -/
def writesExist (first : Nat) (frames : List Frame) : Bool := first + frames.length ≤ Config.memoryFrames

/-- FINISH SEGMENT by its owner (R139). -/
def ownFinishSegment (segment : Nat) (s : State) : Owned :=
  match fin? 64 segment with
  | none => refuse .outOfRange s
  | some k =>
    match s.play.segments[k].state with
    | .empty => refuse .noSuch s
    | .ready => refuse .wrongState s
    | .filling => done [] (setSegment k { s.play.segments[k] with state := .ready } s)

/-- REOPEN SEGMENT by its owner (R140). -/
def ownReopenSegment (segment : Nat) (s : State) : Owned :=
  match fin? 64 segment with
  | none => refuse .outOfRange s
  | some k =>
    if s.play.segments[k].state = .empty then refuse .noSuch s
    else if isReferenced s k then refuse .referenced s
    else if s.play.segments[k].state = .filling then refuse .wrongState s
    else done [] (setSegment k { s.play.segments[k] with state := .filling } s)

/-- DROP SEGMENT by its owner (R140). -/
def ownDropSegment (segment : Nat) (s : State) : Owned :=
  match fin? 64 segment with
  | none => refuse .outOfRange s
  | some k =>
    if s.play.segments[k].state = .empty then refuse .noSuch s
    else if isReferenced s k then refuse .referenced s
    else done [] (setSegment k Segment.emptyRecord s)

/-! ### Audio frames (R146, R147, R149) -/

/-- The frame index that a voice reads next. -/
def Playback.voiceIndex (p : Playback) (v : Voice) : Nat :=
  match v.segment with
  | none => 0
  | some seg => p.segments[seg].first + v.position

/-- The frame that a sounding voice reads; an IDLE voice reads none. -/
def Playback.voiceFrame (p : Playback) (v : Voice) : Frame :=
  if v.sounding then p.frameAt (p.voiceIndex v) else Frame.silence

/-- One side of one voice: x × g / 1000, then × m / 1000, each truncated toward zero (R146 step 2). -/
def scaled (x : Sample) (gain multiplier : Nat) : Int :=
  Int.tdiv (Int.tdiv (x.toInt * gain) 1000 * multiplier) 1000

/-- A sum saturated to 16 bits (R146 step 3). -/
def saturate (v : Int) : Int := if 32767 < v then 32767 else if v < -32768 then -32768 else v

/-- One side of the mix (R146 steps 2 and 3). -/
def mixSide (x0 x1 : Sample) (g0 g1 multiplier : Nat) : Int :=
  saturate (scaled x0 g0 multiplier + scaled x1 g1 multiplier)

/-- The frame sent for the two saturated sums, in the output format (R151). -/
def formatFrame (f : OutputFormat) (left right : Int) : Frame :=
  match f with
  | .stereo => { left := BitVec.ofInt 16 left, right := BitVec.ofInt 16 right }
  | .mono =>
    { left := BitVec.ofInt 16 (Int.tdiv (left + right) 2), right := BitVec.ofInt 16 (Int.tdiv (left + right) 2) }

/-- A voice that has reached the end of its segment loops, or is released (R147). -/
def Voice.atSegmentEnd (v : Voice) (seg : Segment) : Voice :=
  match seg.loopStart with
  | some l => { v with position := l }
  | none => Voice.released

/-- A voice that has read a frame stands before the next; past the last frame it has reached the end (R147). -/
def Playback.advanceVoice (p : Playback) (v : Voice) : Voice :=
  match v.state, v.segment with
  | .idle, _ => v
  | _, none => v
  | _, some seg =>
    if p.segments[seg].length ≤ v.position + 1 then v.atSegmentEnd p.segments[seg]
    else { v with position := v.position + 1 }

/-- The frame of the two voices as they stand at show time `t` with safe multiplier `m` (R146 steps 1 to
4). -/
def Playback.mixedFrame (p : Playback) (t m : Nat) : Frame :=
  let a := p.voiceFrame p.v0
  let b := p.voiceFrame p.v1
  formatFrame p.format (mixSide a.left b.left (p.v0.gainAt t) (p.v1.gainAt t) m)
    (mixSide a.right b.right (p.v0.gainAt t) (p.v1.gainAt t) m)

/-- R146 step 1: the voices that R142 requires to be released at this frame. -/
def Playback.releaseZero (p : Playback) (t : Nat) : Playback :=
  { p with v0 := p.v0.releaseIfZero t, v1 := p.v1.releaseIfZero t }

/-- A frame in which the voices sound (R146 steps 1 to 5). -/
def Playback.playFrame (p : Playback) (t m : Nat) : Playback :=
  let q := p.releaseZero t
  { q with frameSent := q.mixedFrame t m, v0 := q.advanceVoice q.v0, v1 := q.advanceVoice q.v1 }

/-- A frame that is 0 on both sides, the voices held (R147). -/
def Playback.silentFrame (p : Playback) : Playback := { p with frameSent := Frame.silence }

/-- The end of the safe fade: both voices are released, m is 0 and n stops counting (R149). -/
def Playback.endSafeFade (p : Playback) : Playback := { p.releaseBoth with multiplier := 0 }

/-- The multiplier worked out for the next frame in SAFE: it stays 0 once it is 0 (R149). -/
def Playback.nextMultiplier (p : Playback) : Nat :=
  if p.multiplier = 0 then 0 else safeMultiplier p.fadeCount p.fadeLength

/-- A frame in SAFE (R146, R149): with safe origin PAUSED the frame is 0 and the voices hold. -/
def Playback.safeFrame (p : Playback) (t : Nat) (origin : ClockState) : Playback :=
  if p.nextMultiplier = 0 then p.endSafeFade.silentFrame
  else
    let q := { p with multiplier := p.nextMultiplier, fadeCount := p.fadeCount + 1 }
    if origin = .paused then q.silentFrame else q.playFrame t q.multiplier

/-- The frame the playback unit builds and sends, by the clock state (R146, R147, R149). -/
def buildFrame (s : State) : State :=
  match s.clock.state with
  | .running => s.setPlay (s.play.playFrame s.clock.showTime 1000)
  | .safe => s.setPlay (s.play.safeFrame s.clock.showTime s.clock.safeOrigin)
  | .stopped => s.setPlay s.play.silentFrame
  | .paused => s.setPlay s.play.silentFrame

/-- The frame phase counts the frame sent; the 48th returns it to 0 and is a show tick (R26). -/
def countFrame (s : State) : State :=
  if s.clock.framePhase + 1 = Config.framesPerTick then
    s.setClock { s.clock with framePhase := 0, ticksDue := s.clock.ticksDue + 1 }
  else s.setClock { s.clock with framePhase := s.clock.framePhase + 1 }

/-- AUDIO_FRAME: one word-clock period (R26, R146). In FOLLOW mode it begins at a falling edge of the
incoming word clock (R148), which R37 watches. -/
def audioFrame (s : State) : State :=
  countFrame (buildFrame (if s.clock.mode = .follow then wordClockEdge s else s))

/-- A voice that will sound in the next frame reads a frame of sample memory that exists (R135). -/
def Playback.readsExist (p : Playback) (t : Nat) : Bool :=
  let q := p.releaseZero t
  (!q.v0.sounding || q.voiceIndex q.v0 < Config.memoryFrames) && (!q.v1.sounding || q.voiceIndex q.v1 < Config.memoryFrames)

/-- The voices read samples in the next frame (R146): in RUNNING, and in SAFE while m is not 0, except with
safe origin PAUSED. -/
def voicesRead (s : State) : Bool :=
  match s.clock.state with
  | .running => true
  | .safe => s.play.nextMultiplier != 0 && s.clock.safeOrigin != .paused
  | .stopped => false
  | .paused => false

/-- SEGMENT_END (R147): a voice that reads frames has read its last one, so that its position has reached the
segment's length. AUDIO_FRAME does this itself in the frame that reads the last one, and leaves no voice there; in
every other state, and while the voices are held, nothing happens (log 4). -/
def segmentEnd (i : VoiceId) (s : State) : State :=
  let v := s.play.voice i
  match v.segment with
  | none => s
  | some seg =>
    if voicesRead s ∧ v.sounding ∧ s.play.segments[seg].length ≤ v.position then
      s.setPlay (s.play.setVoice i (v.atSegmentEnd s.play.segments[seg]))
    else s

/-- SAFE_FADE_END (R149): in SAFE the worked-out multiplier is 0. AUDIO_FRAME does this itself at the frame
concerned; elsewhere nothing happens (log 4). -/
def safeFadeEnd (s : State) : State :=
  if s.clock.state = .safe ∧ s.play.nextMultiplier = 0 then s.setPlay s.play.endSafeFade else s

/-! ### The serial audio output (R148) -/

/-- The data wire over one half of a frame of `periods` bit-clock periods: 0 in the first, then the sample
most significant bit first, then 0; bits that do not fit are not sent. -/
def serialHalf (x : Sample) (periods : Nat) : List Bool :=
  (List.range periods).map (fun k => if 1 ≤ k ∧ k ≤ 16 then x.getMsbD (k - 1) else false)

/-- The data wire over one frame whose halves have these many bit-clock periods. -/
def serialFrame (f : Frame) (leftPeriods rightPeriods : Nat) : List Bool :=
  serialHalf f.left leftPeriods ++ serialHalf f.right rightPeriods

/-- The word clock over one frame: low for the left half, high for the right (R148). -/
def wordClockFrame (leftPeriods rightPeriods : Nat) : List Bool :=
  List.replicate leftPeriods false ++ List.replicate rightPeriods true

/-- The bit-clock periods of the two halves of a frame: 32 and 32 in MASTER mode, the rack's in FOLLOW mode, none
while the rack gives no word clock and no frame begins (R148). -/
def State.halfPeriods (s : State) (rack : Option (Nat × Nat)) : Option (Nat × Nat) :=
  match s.clock.mode with
  | .master => some (32, 32)
  | .follow => rack

/-- The data wire at a bit-clock period from the start of the latest frame; it holds 0 where no frame is under way
(R148). -/
def State.dataWire (s : State) (rack : Option (Nat × Nat)) (period : Nat) : Bool :=
  match s.halfPeriods rack with
  | some (left, right) => (serialFrame s.play.frameSent left right).getD period false
  | none => false

/-- The word clock that the part drives at a bit-clock period of a frame: in MASTER mode only; in FOLLOW mode it is an
input (R148). -/
def State.wordClockDriven (s : State) (period : Nat) : Option Bool :=
  match s.clock.mode with
  | .master => (wordClockFrame 32 32)[period % 64]?
  | .follow => none

/-- The bit clock over a number of bit-clock periods, half a period at a time: low from each falling edge, at which the
data wire changes, and high from each rising edge, at which it is meant to be read (R148). -/
def bitClockFrame (periods : Nat) : List Bool := (List.replicate periods [false, true]).flatten

/-- The bit clock that the part drives at a half-period from the start of a frame: in MASTER mode only, 64 periods to a
frame; in FOLLOW mode it is an input (R148). -/
def State.bitClockDriven (s : State) (half : Nat) : Option Bool :=
  match s.clock.mode with
  | .master => (bitClockFrame 64)[half % 128]?
  | .follow => none

/-- The falling edges in the levels that the bit clock has gone through (R148). -/
def fallingEdges : List Bool → Nat
  | a :: b :: rest => bitNat (a && !b) + fallingEdges (b :: rest)
  | _ => 0

/-- The data wire once the bit clock, the part's own or the rack's, has gone through these levels since the falling edge
that began the frame: it goes to the next bit at each falling edge, and stays at a rising one (R148). -/
def State.dataWireAfter (s : State) (rack : Option (Nat × Nat)) (bitClock : List Bool) : Bool :=
  s.dataWire rack (fallingEdges bitClock)

/-! ### SET AUDIO, READ PLAYBACK (R151, R152, R36) -/

/-- An accepted change of clock mode (R36): FOLLOW starts the loss timer; MASTER makes CLOCK_LOST false. DESIGN CHOICE
(unsafe): a FOLLOW frame under way, counted by R26 at the edge that began it, stays counted at a change to MASTER (log
31). -/
def changeMode (m : ClockMode) (s : State) : State :=
  match m with
  | .follow => s.setClock { s.clock with mode := .follow, lossTimerRunning := true }
  | .master => dropCause .clockLost (s.setClock { s.clock with mode := .master, lossTimerRunning := false })

/-- SET AUDIO by its owner (R151, R36). -/
def ownSetAudio (mode format : Nat) (s : State) : Owned :=
  match clockMode? mode, outputFormat? format with
  | some m, some f =>
    if m ≠ s.clock.mode ∧ s.clock.state ≠ .stopped then refuse .wrongState s
    else
      let s1 := if m = s.clock.mode then s else changeMode m s
      done [] (s1.setPlay { s1.play with format := f })
  | _, _ => refuse .outOfRange s

/-- A voice as READ PLAYBACK shows it (R152, 11.4). -/
def Voice.bytes (v : Voice) (t : Nat) : List Byte :=
  beBytes 1 v.state.code ++ beBytes 1 (optByte (v.segment.map (·.val))) ++ beBytes 4 v.position ++ beBytes 2 v.fromGain ++
    beBytes 2 v.toGain ++ beBytes 4 v.origin ++ beBytes 2 v.duration ++ beBytes 2 (v.gainAt t) ++
    beBytes 1 (bitNat v.releaseAtZero) ++ beBytes 2 (v.governing.getD 0)

/-- READ PLAYBACK by its owner (R152, 11.4). -/
def ownReadPlayback (segment : Nat) (s : State) : Owned :=
  match fin? 64 segment with
  | none => refuse .outOfRange s
  | some k =>
    let g := s.play.segments[k]
    done (beBytes 1 g.state.code ++ beBytes 4 g.first ++ beBytes 4 g.length ++ beBytes 4 (loopStartNat g.loopStart) ++
      beBytes 2 (cueReferences s k) ++ beBytes 1 (voiceReferences s k) ++ s.play.v0.bytes s.clock.showTime ++
      s.play.v1.bytes s.clock.showTime ++ beBytes 1 s.clock.mode.code ++ beBytes 1 s.play.format.code ++
      beBytes 2 s.play.multiplier ++ beBytes 4 s.play.fadeCount) s

/-! ### Meanings -/

def execDefineSegment (segment firstFrame length : Nat) (loopStart : Option Nat) (s : State) :
    Host.Outcome State Fault Refusal :=
  .next (issue (.defineSegment segment firstFrame length loopStart) (ownDefineSegment segment firstFrame length loopStart) s)
def execLoadFrames (segment offset count : Nat) (frames : List Frame) (s : State) : Host.Outcome State Fault Refusal :=
  .next (issue (.loadFrames segment offset count frames) (ownLoadFrames segment offset count frames) s)

/-- LOAD_FRAMES_WRITTEN (R138): the frames under way are in memory and the DONE answer is placed. With no
load under way nothing happens. -/
def execLoadFramesWritten (s : State) : Host.Outcome State Fault Refusal :=
  match s.link.state with
  | .handling (.writing first frames) =>
    if writesExist first frames then .next (finishLoad first frames s) else .fault .noSuchFrame
  | _ => .next s

def execFinishSegment (segment : Nat) (s : State) : Host.Outcome State Fault Refusal :=
  .next (issue (.finishSegment segment) (ownFinishSegment segment) s)
def execReopenSegment (segment : Nat) (s : State) : Host.Outcome State Fault Refusal :=
  .next (issue (.reopenSegment segment) (ownReopenSegment segment) s)
def execDropSegment (segment : Nat) (s : State) : Host.Outcome State Fault Refusal :=
  .next (issue (.dropSegment segment) (ownDropSegment segment) s)
def execSetAudio (clockMode outputFormat : Nat) (s : State) : Host.Outcome State Fault Refusal :=
  .next (issue (.setAudio clockMode outputFormat) (ownSetAudio clockMode outputFormat) s)
def execReadPlayback (segment : Nat) (s : State) : Host.Outcome State Fault Refusal :=
  .next (issue (.readPlayback segment) (ownReadPlayback segment) s)

/-- AUDIO_FRAME (R146). A voice never stands outside its segment, nor a segment outside memory (R137), so
the fault is for states that no run reaches. -/
def execAudioFrame (s : State) : Host.Outcome State Fault Refusal :=
  if voicesRead s && !s.play.readsExist s.clock.showTime then .fault .noSuchFrame else .next (audioFrame s)

def execSegmentEnd (voice : VoiceId) (s : State) : Host.Outcome State Fault Refusal := .next (segmentEnd voice s)
def execSafeFadeEnd (s : State) : Host.Outcome State Fault Refusal := .next (safeFadeEnd s)

end Sys2Proof.Machine
end

