-- ==== Sys2Proof/Machine/SupervisionUnit.lean ====
section
/-! DEFINITION. The supervision unit (chapter 6): wind, the filtered inputs, link silence, the four
requests, and the unit's own events. -/

namespace Sys2Proof.Machine

/-! ### Wind (R105, R106) -/

/-- A rising edge at the anemometer (R105). -/
def anemometerPulse (s : State) : State :=
  s.setSup { s.sup with pulseCount := min 65535 (s.sup.pulseCount + 1) }

/-- The raw wind at the end of a gate (R105). -/
def rawWindOf (pulses scale : Nat) : Nat := min 65535 (pulses * scale)

/-- The smoothed wind follows the raw wind; the fall is the difference divided by 8, rounded up (R106). -/
def smoothedWindOf (smoothed raw : Nat) : Nat :=
  if smoothed ≤ raw then raw else smoothed - (smoothed - raw + 7) / 8

/-- The end of a 1000 ms gate (R105). -/
def gateEnd (s : State) : State :=
  let raw := rawWindOf s.sup.pulseCount s.sup.settings.windScale
  s.setSup { s.sup with rawWind := raw, smoothedWind := smoothedWindOf s.sup.smoothedWind raw, pulseCount := 0 }

/-! ### Filtered inputs (R107, R108) -/

/-- Whether the level at an input reads as active: LOW and LOW-LOW at the high level (R107), E-STOP at the
low level (R108). -/
def levelActive (activeHigh high : Bool) : Bool := high == activeHigh

/-- A level that differs from the accepted state waits (R107, R108). -/
def FilteredInput.waiting (f : FilteredInput) (activeHigh : Bool) : Bool := levelActive activeHigh f.high != f.active

/-- The level at the pin becomes `high`; a change of level starts or abandons a wait (R107, R108). -/
def FilteredInput.change (f : FilteredInput) (high : Bool) (now : Nat) : FilteredInput :=
  if f.high = high then f else { f with high := high, since := now }

/-- The waiting level is accepted. -/
def FilteredInput.accept (f : FilteredInput) (activeHigh : Bool) : FilteredInput :=
  { f with active := levelActive activeHigh f.high }

def Supervision.input (u : Supervision) : LevelInput → FilteredInput
  | .low => u.low
  | .lowLow => u.lowLow

def Supervision.setInput (u : Supervision) (i : LevelInput) (f : FilteredInput) : Supervision :=
  match i with
  | .low => { u with low := f }
  | .lowLow => { u with lowLow := f }

/-- A waiting level of a basin input is accepted; LOW-LOW's accepted state is the condition LOWLOW
(R107). -/
def acceptLevel (i : LevelInput) (s : State) : State :=
  let f := s.sup.input i
  if f.waiting true then
    let s1 := s.setSup (s.sup.setInput i (f.accept true))
    match i with
    | .low => s1
    | .lowLow => setCondition .lowLow (levelActive true f.high) s1
  else s

/-- LEVEL_INPUT_CHANGE (R107): with a debounce time of 0 the change is accepted as soon as it occurs. -/
def levelInputChange (i : LevelInput) (high : Bool) (s : State) : State :=
  let s1 := s.setSup (s.sup.setInput i ((s.sup.input i).change high s.now))
  if s.sup.settings.debounceSteps = 0 then acceptLevel i s1 else s1

/-- ESTOP_INPUT_CHANGE (R108). -/
def estopInputChange (high : Bool) (s : State) : State :=
  s.setSup { s.sup with estop := s.sup.estop.change high s.now }

/-- ESTOP_FILTER_EXPIRY (R108): a waiting level is accepted, and the condition E_STOP follows it. -/
def estopFilterExpiry (s : State) : State :=
  let f := s.sup.estop
  if f.waiting false then
    setCondition .eStop (levelActive false f.high) (s.setSup { s.sup with estop := f.accept false })
  else s

/-! ### Link silence (R109) -/

/-- The silence limit has passed since the timer was last restarted (R109). -/
def silencePassed (s : State) (since : Nat) : Bool := s.sup.settings.silenceLimit * 1000 ≤ s.now - since

/-- SILENCE_TIMER_EXPIRY (R109): a timer whose limit has passed stops and LINK_SILENT is latched. One that a request
has restarted since does not expire (R115). -/
def silenceTimerExpiry (s : State) : State :=
  match s.link.silenceSince with
  | none => s
  | some since =>
    if silencePassed s since then addCause .linkSilent (s.setLink { s.link with silenceSince := none }) else s

/-! ### FORCE SAFE, CLEAR SAFE (R113, R114) -/

/-- FORCE SAFE by its owner (R113). -/
def ownForceSafe (s : State) : Owned := done [] (addCause .forced s)

/-- The clock state that a CLEAR SAFE leaves (R39). -/
def stateAfterSafe (origin : ClockState) : ClockState :=
  match origin with
  | .stopped => .stopped
  | .running => .paused
  | .paused => .paused
  | .safe => .paused

/-- A cause set as one byte (11.2). -/
def causeByte (c : BitVec 6) : List Byte := [c.setWidth 8]

/-- Some condition cause is in the cause set (R114). -/
def conditionPresent (s : State) : Bool := (s.sup.causes &&& conditionCauses) != 0

/-- The latched causes leave the cause set (R114, R118). -/
def clearLatched (s : State) : State := s.setSup { s.sup with causes := s.sup.causes &&& ~~~latchedCauses }

/-- CLEAR SAFE by its owner (R114): a refusal carries the cause set, DONE the seen set. -/
def ownClearSafe (s : State) : Owned :=
  if s.clock.state ≠ .safe ∨ conditionPresent s then
    (s, some { status := .wrongState, data := causeByte s.sup.causes })
  else done (causeByte s.sup.seen) (leaveSafe (stateAfterSafe s.clock.safeOrigin) (clearLatched s))

/-! ### SET SUPERVISION, READ SUPERVISION (R116, R117) -/

/-- The ranges of R116. -/
def supSettingsInRange (c : SupSettings) : Bool :=
  c.silenceLimit ≤ 60 && c.debounceSteps ≤ 255 && c.levelCap ≤ 1000 && 1 ≤ c.windScale && c.windScale ≤ 1000 &&
    c.lightSafeFade ≤ 10000 && c.lightReturnFade ≤ 10000 && c.audioSafeFade ≤ 10000

/-- A level that has waited for the new debounce time already is accepted when the request is taken
(R107). -/
def acceptIfPassed (i : LevelInput) (s : State) : State :=
  if s.sup.settings.debounceSteps * 10 ≤ s.now - (s.sup.input i).since then acceptLevel i s else s

/-- An accepted SET SUPERVISION (R116): the seven settings, the silence timer from this request (R109), and
the waits under a changed debounce time (R107), all at the taking of the request, where its owner acts (log 1). -/
def applySupervision (c : SupSettings) (s : State) : State :=
  let changed := c.debounceSteps ≠ s.sup.settings.debounceSteps
  let s1 := restartSilence (s.setSup { s.sup with settings := c })
  if changed then acceptIfPassed .lowLow (acceptIfPassed .low s1) else s1

/-- SET SUPERVISION by its owner (R116). -/
def ownSetSupervision (c : SupSettings) (s : State) : Owned :=
  if supSettingsInRange c then done [] (applySupervision c s) else refuse .outOfRange s

/-- The time left before the silence timer expires, in milliseconds, 0xFFFFFFFF where it does not run
(R117, 11.2). -/
def silenceLeft (s : State) : Nat :=
  match s.link.silenceSince with
  | none => 4294967295
  | some t0 => s.sup.settings.silenceLimit * 1000 - (s.now - t0)

/-- The inputs byte of READ SUPERVISION: levels in bits 0 to 2, accepted states in bits 3 to 5 (11.4). -/
def inputsNat (u : Supervision) : Nat :=
  bitNat (levelActive false u.estop.high) + 2 * bitNat (levelActive true u.low.high) +
    4 * bitNat (levelActive true u.lowLow.high) + 8 * bitNat u.estop.active + 16 * bitNat u.low.active +
    32 * bitNat u.lowLow.active

/-- READ SUPERVISION by its owner (R117, 11.4). -/
def ownReadSupervision (s : State) : Owned :=
  let u := s.sup
  done (beBytes 2 u.rawWind ++ beBytes 2 u.smoothedWind ++ beBytes 2 u.pulseCount ++ beBytes 1 (inputsNat u) ++
    beBytes 1 (bitNat (SafeCause.clockLost.memberOf u.causes) + 2 * bitNat (SafeCause.criticalLost.memberOf u.causes)) ++
    beBytes 1 (optByte ((criticalLostGroup s).map (·.val))) ++ beBytes 4 (silenceLeft s) ++
    beBytes 1 (bitNat (s.clock.state == .safe)) ++ causeByte u.causes ++ causeByte u.seen ++ u.settings.bytes) s

/-! ### Meanings -/

def execSetSupervision (settings : SupSettings) (s : State) : Host.Outcome State Fault Refusal :=
  .next (issue (.setSupervision settings) (ownSetSupervision settings) s)
def execForceSafe (s : State) : Host.Outcome State Fault Refusal := .next (issue .forceSafe ownForceSafe s)
def execClearSafe (s : State) : Host.Outcome State Fault Refusal := .next (issue .clearSafe ownClearSafe s)
def execReadSupervision (s : State) : Host.Outcome State Fault Refusal := .next (issue .readSupervision ownReadSupervision s)
def execAnemometerPulse (s : State) : Host.Outcome State Fault Refusal := .next (anemometerPulse s)
def execGateEnd (s : State) : Host.Outcome State Fault Refusal := .next (gateEnd s)
def execLevelInputChange (input : LevelInput) (high : Bool) (s : State) : Host.Outcome State Fault Refusal :=
  .next (levelInputChange input high s)

/-- DEBOUNCE_EXPIRY (R107): a level that still waits is accepted. -/
def execDebounceExpiry (input : LevelInput) (s : State) : Host.Outcome State Fault Refusal := .next (acceptLevel input s)
def execEstopInputChange (high : Bool) (s : State) : Host.Outcome State Fault Refusal := .next (estopInputChange high s)
def execEstopFilterExpiry (s : State) : Host.Outcome State Fault Refusal := .next (estopFilterExpiry s)
def execSilenceTimerExpiry (s : State) : Host.Outcome State Fault Refusal := .next (silenceTimerExpiry s)

end Sys2Proof.Machine
end

