-- ==== Sys2Proof/Machine/ControlLink.lean ====
section
/-! DEFINITION. The control link (chapter 9): the attention set, IDENTIFY and RESTART, the owner of every
request, the frames on the port, and the completion of a request. -/

namespace Sys2Proof.Machine

/-! ### The attention set (R160) -/

/-- A set of attention causes as two bytes (11.2). -/
def attentionBytes (set : BitVec 10) : List Byte := beBytes 2 set.toNat

/-- A set of attention causes as carried; bits that name no cause are ignored (R165). -/
def attentionSet (causes : Nat) : BitVec 10 := BitVec.ofNat 10 causes

/-- READ ATTENTION by the link (R160, 11.4). -/
def ownReadAttention (s : State) : Owned :=
  done (attentionBytes s.link.pending ++ attentionBytes s.link.mask ++ beBytes 1 (highestPending s.link.pending)) s

/-- CLEAR ATTENTION by the link: it answers the pending set after the clearing (R160). -/
def ownClearAttention (causes : Nat) (s : State) : Owned :=
  let left := s.link.pending &&& ~~~attentionSet causes
  done (attentionBytes left) (s.setLink { s.link with pending := left })

/-- SET ATTENTION MASK by the link: it answers the new mask (R160). -/
def ownSetAttentionMask (causes : Nat) (s : State) : Owned :=
  done (attentionBytes (attentionSet causes)) (s.setLink { s.link with mask := attentionSet causes })

/-! ### Identification (R161) -/

/-- The data of IDENTIFY (R161, 11.4). -/
def identifyBytes (cause : ResetCause) : List Byte :=
  beBytes 2 Config.partCode ++ beBytes 1 Config.revision ++ beBytes 2 Config.cueSlots ++ beBytes 1 49 ++ beBytes 1 32 ++
    beBytes 1 4 ++ beBytes 1 40 ++ beBytes 1 64 ++ beBytes 1 16 ++ beBytes 1 64 ++ beBytes 1 2 ++
    beBytes 4 Config.memoryFrames ++ beBytes 2 Config.largestRequest ++ beBytes 1 cause.code

/-- IDENTIFY by the link (R161). -/
def ownIdentify (s : State) : Owned := done (identifyBytes s.link.lastReset) s

/-! ### RESTART (R162) -/

/-- The show is emptied: the store, less its threshold (R7), the channels (R42) and the voices (8.9). -/
def emptyShow (s : State) : State :=
  let s1 := s.setStore { s.store with timelines := Vector.replicate 49 [] }
  let s2 := s1.setChannels (Vector.replicate 49 ChannelRec.reset)
  s2.setPlay s2.play.releaseBoth

/-- The clock at RESTART (R40): show time 0, frame phase 0, and no tick left due (log 3). -/
def restartTime (s : State) : State := s.setClock { s.clock with showTime := 0, framePhase := 0, ticksDue := 0 }

/-- The clock state after RESTART (R40, R118), once the latched causes are cleared. -/
def restartClock (s : State) : State :=
  if s.clock.state ≠ .safe then s.setClock { s.clock with state := .stopped }
  else if conditionPresent s then s.setClock { s.clock with safeOrigin := .stopped, returnPending := true }
  else leaveSafe .stopped s

/-- The link's own part of RESTART (R162), less the pending set, which is emptied when the RESTART is taken. -/
def restartLink (s : State) : State := s.setLink { s.link with lastReset := .restart }

/-- RESTART by the link and every block (R162). -/
def ownRestart (s : State) : Owned := done [] (restartClock (clearLatched (restartTime (emptyShow (restartLink s)))))

/-! ### The owner of a request -/

/-- The owning block's handling of a request (R156). -/
def handle : Request → State → Owned
  | .start, s => ownStart s
  | .pause, s => ownPause s
  | .resume, s => ownResume s
  | .stop, s => ownStop s
  | .seek t, s => ownSeek t s
  | .setShowLength l, s => ownSetShowLength l s
  | .readClock, s => ownReadClock s
  | .placeCue a, s => ownPlaceCue a s
  | .amendCue a, s => ownAmendCue a s
  | .retireCue n, s => ownRetireCue n s
  | .retirePassed t c, s => ownRetirePassed t c s
  | .readCue n, s => ownReadCue n s
  | .readChannel k, s => ownReadChannel k s
  | .readStore, s => ownReadStore s
  | .setStoreThreshold t, s => ownSetStoreThreshold t s
  | .setGroup g, s => ownSetGroup g s
  | .setCurve g cv, s => ownSetCurve g cv s
  | .setWindClass k lo hi f, s => ownSetWindClass k lo hi f s
  | .setBudget b, s => ownSetBudget b s
  | .readGroup g, s => ownReadGroup g s
  | .setLine l cfg, s => ownSetLine l cfg s
  | .setNode n l a k, s => ownSetNode n l a k s
  | .dropNode n, s => ownDropNode n s
  | .rejoinNode n, s => ownRejoinNode n s
  | .readNode n, s => ownReadNode n s
  | .readLine l, s => ownReadLine l s
  | .setOutputSense o x, s => ownSetOutputSense o x s
  | .setHead h, s => ownSetHead h s
  | .setSafeScene l, s => ownSetSafeScene l s
  | .setMaster v, s => ownSetMaster v s
  | .readHead h, s => ownReadHead h s
  | .defineSegment k f l p, s => ownDefineSegment k f l p s
  | .loadFrames k o n fs, s => ownLoadFrames k o n fs s
  | .finishSegment k, s => ownFinishSegment k s
  | .reopenSegment k, s => ownReopenSegment k s
  | .dropSegment k, s => ownDropSegment k s
  | .setAudio m f, s => ownSetAudio m f s
  | .readPlayback k, s => ownReadPlayback k s
  | .setSupervision cfg, s => ownSetSupervision cfg s
  | .forceSafe, s => ownForceSafe s
  | .clearSafe, s => ownClearSafe s
  | .readSupervision, s => ownReadSupervision s
  | .readAttention, s => ownReadAttention s
  | .clearAttention k, s => ownClearAttention k s
  | .setAttentionMask k, s => ownSetAttentionMask k s
  | .identify, s => ownIdentify s
  | .restart, s => ownRestart s

/-- REQUEST_COMPLETION (R156): the request being handled is finished and its answer placed. A LOAD FRAMES
that is writing finishes by LOAD_FRAMES_WRITTEN; with no request being handled nothing happens. -/
def requestCompletion (s : State) : State := placeAnswer s

/-! ### Frames on the port (R155, R157) -/

/-- The request that the bytes of a SEND carry, of which 1,040 are kept (R155, R164). -/
def sentRequest (bytes : List Byte) : Option Request :=
  match parseRequest (bytes.take Config.largestRequest) with
  | .ok r => some r
  | .error _ => none

/-- The owner of the request that SEND_FRAME brings acts on it, and the request's row may still follow (log 1). -/
def handleSent (r : Request) (s : State) : Owned :=
  let (s1, reply) := handle r s
  (setRowDue true s1, reply)

/-- SEND_FRAME: a SEND frame ends with `bytes` after its prefix. One with no byte after the prefix is
disregarded (R164). -/
def sendFrame (bytes : List Byte) (s : State) : State :=
  match bytes, sentRequest bytes with
  | [], _ => driveIdle 1 s
  | b :: rest, some r => carryOut (b :: rest) (handleSent r) s
  | b :: rest, none => sendOnPort (b :: rest) s

/-- The bytes clocked after the prefix of a FETCH of `count` bytes (R157): the answer, then 0xFF. -/
def fetchedBytes (answer : List Byte) (count : Nat) : List Byte :=
  answer.take count ++ List.replicate (count - answer.length) 0xFF#8

/-- FETCH_FRAME: a FETCH frame in which `count` whole bytes are clocked after the prefix (R157). -/
def fetchFrame (count : Nat) (s : State) : State :=
  match s.link.state, s.link.answer with
  | .answerReady, some a =>
    let s1 := s.setLink { s.link with miso := 0xFF#8 :: fetchedBytes a.bytes count }
    if a.bytes.length ≤ count then s1.setLink { s1.link with state := .idle, answer := none } else s1
  | _, _ => driveIdle (count + 1) s

/-! ### The port bit by bit (R155) -/

/-- The bits that bytes make on the port, each byte most significant bit first (R155). -/
def portBits (bytes : List Byte) : List Bool := bytes.flatMap (fun b => (List.range 8).map (fun k => b.getMsbD k))

/-- The byte whose bits have arrived in this order, most significant bit first (R155). -/
def portByte (bits : List Bool) : Byte := BitVec.ofNat 8 (bits.foldl (fun n b => 2 * n + bitNat b) 0)

/-- The whole bytes of the bits sampled on MOSI, one at each rising edge of SCK while CS is low; a byte that the rise of
CS cuts short is not stored (R155). -/
def wholeBytes : List Bool → List Byte
  | b7 :: b6 :: b5 :: b4 :: b3 :: b2 :: b1 :: b0 :: rest => portByte [b7, b6, b5, b4, b3, b2, b1, b0] :: wholeBytes rest
  | _ => []

/-- The command that a frame of the port is, from the bits sampled on MOSI between the fall of CS and its rise (R155); a
SEND with no byte after its prefix is disregarded (R164). -/
def portCommand (mosi : List Bool) : Instr :=
  match wholeBytes mosi with
  | [] => .disregardedFrame []
  | p :: rest =>
    if p = 0x5A#8 then .fetchFrame rest.length
    else if p = 0xA5#8 ∧ rest ≠ [] then .sendFrame rest
    else .disregardedFrame (p :: rest)

/-- The byte that the part drives at a place of a frame, the prefix being place 0, once these whole bytes have arrived: in
a FETCH that finds the link ANSWER READY the answer, and 0xFF everywhere else (R155, R157). -/
def drivenByte (arrived : List Byte) (s : State) (place : Nat) : Byte :=
  match place, s.link.state, s.link.answer with
  | k + 1, .answerReady, some a => if arrived.head? = some 0x5A#8 then a.bytes.getD k 0xFF#8 else 0xFF#8
  | _, _, _ => 0xFF#8

/-- The pin MISO (R155). While CS is high it is not driven. While CS is low it carries the driven bytes, most significant
bit first, and goes to the next bit at each falling edge of SCK: `falls` is how many of these there were since CS fell, and
`mosi` the bits sampled since then. A command is a whole frame, so CS is high before each command and after it (log 32). -/
def State.misoPin (s : State) (csHigh : Bool) (mosi : List Bool) (falls : Nat) : Option Bool :=
  if csHigh then none else some ((drivenByte (wholeBytes mosi) s (falls / 8)).getMsbD (falls % 8))

/-! ### Meanings -/

def execReadAttention (s : State) : Host.Outcome State Fault Refusal := .next (issue .readAttention ownReadAttention s)
def execClearAttention (causes : Nat) (s : State) : Host.Outcome State Fault Refusal :=
  .next (issue (.clearAttention causes) (ownClearAttention causes) s)
def execSetAttentionMask (causes : Nat) (s : State) : Host.Outcome State Fault Refusal :=
  .next (issue (.setAttentionMask causes) (ownSetAttentionMask causes) s)
def execIdentify (s : State) : Host.Outcome State Fault Refusal := .next (issue .identify ownIdentify s)
def execRestart (s : State) : Host.Outcome State Fault Refusal := .next (issue .restart ownRestart s)
def execSendFrame (bytes : List Byte) (s : State) : Host.Outcome State Fault Refusal := .next (sendFrame bytes s)
def execFetchFrame (count : Nat) (s : State) : Host.Outcome State Fault Refusal := .next (fetchFrame count s)

/-- DISREGARDED_FRAME (R155): the part drives 0xFF during its whole bytes, and the link record is
unchanged. -/
def execDisregardedFrame (bytes : List Byte) (s : State) : Host.Outcome State Fault Refusal :=
  .next (driveIdle bytes.length s)
def execRequestCompletion (s : State) : Host.Outcome State Fault Refusal := .next (requestCompletion s)

end Sys2Proof.Machine
end

