-- ==== Sys2Proof/Machine/Reset.lean ====
section
/-! DEFINITION. The pin reset (R154 and every chapter's own reset values): all records take their reset
values, the accepted input states are loaded from the levels, and the supervision unit then evaluates its
conditions (R118). -/

namespace Sys2Proof.Machine

/-- An input as the reset ends: its level is the pin's own, and the accepted state is loaded from it
without filter or debounce (R118). -/
def FilteredInput.load (f : FilteredInput) (activeHigh : Bool) (now : Nat) : FilteredInput :=
  { high := f.high, active := levelActive activeHigh f.high, since := now }

/-- The supervision record after a pin reset (R118). -/
def Supervision.loaded (u : Supervision) (now : Nat) : Supervision :=
  { Supervision.reset with low := u.low.load true now, lowLow := u.lowLow.load true now, estop := u.estop.load false now }

/-- How many frames of a load were written when pin reset number `n` cut it short: a free value (log 9),
of the frames that sample memory has room for. -/
def framesCut (n first : Nat) (frames : List Frame) : List Frame :=
  (frames.take (Config.framesWrittenAtCut n)).take (Config.memoryFrames - first)

/-- What a LOAD FRAMES had written of sample memory when the RESET input cut it short (R138, log 9); memory
unchanged where no load was under way. -/
def memoryAtReset (s : State) : Memory :=
  match s.link.state with
  | .handling (.writing first frames) => memWriteFrames s.play.memory first (framesCut s.resets first frames)
  | _ => s.play.memory

/-- The playback unit after a pin reset (8.9): the RESET input leaves sample memory as it was; power being
applied brings it up with values of its own (R135, log 8). -/
def playAfterReset (cause : PinResetCause) (s : State) : Playback :=
  match cause with
  | .resetLine => { Playback.reset with memory := memoryAtReset s, memoryEpoch := s.play.memoryEpoch }
  | .powerOn => { Playback.reset with memory := [], memoryEpoch := s.play.memoryEpoch + 1 }

/-- The reset cause that the link records (R154). -/
def recordedCause : PinResetCause → ResetCause
  | .powerOn => .powerOn
  | .resetLine => .resetLine

/-- Every block at its reset values (R7, R40, R42, R62, R64, R76, R83, R86, R118, R134, R154, 8.9), before
the conditions are evaluated. -/
def pinResetRecords (cause : PinResetCause) (s : State) : State :=
  { State.reset with
    sup := s.sup.loaded s.now, play := playAfterReset cause s, link := { Link.reset with lastReset := recordedCause cause },
    now := s.now, resets := s.resets + 1, pending := s.pending }

/-- PIN_RESET: the records, then the conditions E_STOP and LOWLOW (R118). -/
def pinReset (cause : PinResetCause) (s : State) : State :=
  let s1 := pinResetRecords cause s
  let s2 := if s1.sup.estop.active then addCause .eStop s1 else s1
  if s1.sup.lowLow.active then addCause .lowLow s2 else s2

def execPinReset (cause : PinResetCause) (s : State) : Host.Outcome State Fault Refusal := .next (pinReset cause s)

end Sys2Proof.Machine
end

