-- ==== Sys2Proof/Machine/Dispatch.lean ====
section
/-! DEFINITION. The dispatch of every command to its meaning. -/

namespace Sys2Proof.Machine

def exec (i : Instr) (s : State) : Host.Outcome State Fault Refusal :=
  match i with
  | .start => Sys2Proof.Machine.execStart s
  | .pause => Sys2Proof.Machine.execPause s
  | .resume => Sys2Proof.Machine.execResume s
  | .stop => Sys2Proof.Machine.execStop s
  | .seek time => Sys2Proof.Machine.execSeek time s
  | .setShowLength length => Sys2Proof.Machine.execSetShowLength length s
  | .readClock => Sys2Proof.Machine.execReadClock s
  | .placeCue cue => Sys2Proof.Machine.execPlaceCue cue s
  | .amendCue amendment => Sys2Proof.Machine.execAmendCue amendment s
  | .retireCue number => Sys2Proof.Machine.execRetireCue number s
  | .retirePassed time channel => Sys2Proof.Machine.execRetirePassed time channel s
  | .readCue number => Sys2Proof.Machine.execReadCue number s
  | .readChannel channel => Sys2Proof.Machine.execReadChannel channel s
  | .readStore => Sys2Proof.Machine.execReadStore s
  | .setStoreThreshold threshold => Sys2Proof.Machine.execSetStoreThreshold threshold s
  | .setGroup group => Sys2Proof.Machine.execSetGroup group s
  | .setCurve group curve => Sys2Proof.Machine.execSetCurve group curve s
  | .setWindClass windClass lo hi floor => Sys2Proof.Machine.execSetWindClass windClass lo hi floor s
  | .setBudget budget => Sys2Proof.Machine.execSetBudget budget s
  | .readGroup group => Sys2Proof.Machine.execReadGroup group s
  | .setLine line settings => Sys2Proof.Machine.execSetLine line settings s
  | .setNode node line address kind => Sys2Proof.Machine.execSetNode node line address kind s
  | .dropNode node => Sys2Proof.Machine.execDropNode node s
  | .rejoinNode node => Sys2Proof.Machine.execRejoinNode node s
  | .readNode node => Sys2Proof.Machine.execReadNode node s
  | .readLine line => Sys2Proof.Machine.execReadLine line s
  | .setOutputSense output sense => Sys2Proof.Machine.execSetOutputSense output sense s
  | .setHead head => Sys2Proof.Machine.execSetHead head s
  | .setSafeScene scene => Sys2Proof.Machine.execSetSafeScene scene s
  | .setMaster value => Sys2Proof.Machine.execSetMaster value s
  | .readHead head => Sys2Proof.Machine.execReadHead head s
  | .defineSegment segment firstFrame length loopStart => Sys2Proof.Machine.execDefineSegment segment firstFrame length loopStart s
  | .loadFrames segment offset count frames => Sys2Proof.Machine.execLoadFrames segment offset count frames s
  | .loadFramesWritten => Sys2Proof.Machine.execLoadFramesWritten s
  | .finishSegment segment => Sys2Proof.Machine.execFinishSegment segment s
  | .reopenSegment segment => Sys2Proof.Machine.execReopenSegment segment s
  | .dropSegment segment => Sys2Proof.Machine.execDropSegment segment s
  | .setAudio clockMode outputFormat => Sys2Proof.Machine.execSetAudio clockMode outputFormat s
  | .readPlayback segment => Sys2Proof.Machine.execReadPlayback segment s
  | .setSupervision settings => Sys2Proof.Machine.execSetSupervision settings s
  | .forceSafe => Sys2Proof.Machine.execForceSafe s
  | .clearSafe => Sys2Proof.Machine.execClearSafe s
  | .readSupervision => Sys2Proof.Machine.execReadSupervision s
  | .readAttention => Sys2Proof.Machine.execReadAttention s
  | .clearAttention causes => Sys2Proof.Machine.execClearAttention causes s
  | .setAttentionMask causes => Sys2Proof.Machine.execSetAttentionMask causes s
  | .identify => Sys2Proof.Machine.execIdentify s
  | .restart => Sys2Proof.Machine.execRestart s
  | .sendFrame bytes => Sys2Proof.Machine.execSendFrame bytes s
  | .fetchFrame count => Sys2Proof.Machine.execFetchFrame count s
  | .disregardedFrame bytes => Sys2Proof.Machine.execDisregardedFrame bytes s
  | .pinReset cause => Sys2Proof.Machine.execPinReset cause s
  | .audioFrame => Sys2Proof.Machine.execAudioFrame s
  | .showTick => Sys2Proof.Machine.execShowTick s
  | .segmentEnd voice => Sys2Proof.Machine.execSegmentEnd voice s
  | .safeFadeEnd => Sys2Proof.Machine.execSafeFadeEnd s
  | .wordClockLossExpiry => Sys2Proof.Machine.execWordClockLossExpiry s
  | .roundTimerExpiry line => Sys2Proof.Machine.execRoundTimerExpiry line s
  | .attemptStart line => Sys2Proof.Machine.execAttemptStart line s
  | .replyWaitExpiry line => Sys2Proof.Machine.execReplyWaitExpiry line s
  | .answerEnd line chars => Sys2Proof.Machine.execAnswerEnd line chars s
  | .anemometerPulse => Sys2Proof.Machine.execAnemometerPulse s
  | .gateEnd => Sys2Proof.Machine.execGateEnd s
  | .levelInputChange input high => Sys2Proof.Machine.execLevelInputChange input high s
  | .debounceExpiry input => Sys2Proof.Machine.execDebounceExpiry input s
  | .estopInputChange high => Sys2Proof.Machine.execEstopInputChange high s
  | .estopFilterExpiry => Sys2Proof.Machine.execEstopFilterExpiry s
  | .silenceTimerExpiry => Sys2Proof.Machine.execSilenceTimerExpiry s
  | .lightUpdate => Sys2Proof.Machine.execLightUpdate s
  | .pwmFrameBoundary => Sys2Proof.Machine.execPwmFrameBoundary s
  | .wordClockEdge => Sys2Proof.Machine.execWordClockEdge s
  | .answerBegin line => Sys2Proof.Machine.execAnswerBegin line s
  | .requestCompletion => Sys2Proof.Machine.execRequestCompletion s

end Sys2Proof.Machine
end

