-- ==== Sys2Proof/Safety.lean ====
section
/-! DEFINITION. The terms in which claims about the part are made: when the link takes a request, the link
record that taking and answering leave, and the laws of the device that the chapters name. -/

namespace Sys2Proof.Safety

open Sys2Proof.Machine

/-! ### The link -/

/-- The link takes a SEND that completes now (R156): it is IDLE or ANSWER READY. -/
def LinkFree (s : State) : Prop := s.link.state = .idle ∨ s.link.state = .answerReady

/-- The silence timer after a restart at this moment (R109). -/
def silenceRestarted (s : State) : Option Nat := if s.sup.settings.silenceLimit = 0 then none else some s.now

/-- The link record once a request is taken, its owner not having acted (R155, R156, R158). -/
def linkWithRequest (r : Request) (s : State) : Link :=
  { s.link with
    state := .handling .taken, request := encodeRequest r, answer := none, silenceSince := silenceRestarted s,
    pending := if r = .restart then 0 else s.link.pending,
    miso := List.replicate ((encodeRequest r).length + 1) 0xFF#8, rowDue := false }

/-- The link record once a request is taken and its owner has worked out an answer (R156, 11.1). -/
def linkWithAnswer (r : Request) (status : Status) (data : List Byte) (s : State) : Link :=
  { linkWithRequest r s with
    state := .handling (.finished { echo := BitVec.ofNat 8 r.code, status := status, data := data }) }

/-- The state in which the owner of a taken request acts. -/
def withRequest (r : Request) (s : State) : State := s.setLink (linkWithRequest r s)

/-- The answer waiting in the link, worked out and not yet placed. -/
def finishedAnswer (s : State) : Option Answer :=
  match s.link.state with
  | .handling (.finished a) => some a
  | _ => none

/-- Answer data shows a value at an offset, in a number of bytes (11.4). -/
def Shows (data : List Byte) (offset len value : Nat) : Prop := field data offset len = value % 256 ^ len

/-- Answer data is these fields in order from an offset on, each a number of bytes and a value, most significant byte
first, and nothing after them (11.4). -/
def ShowsFields (data : List Byte) : Nat → List (Nat × Nat) → Prop
  | offset, [] => data.length = offset
  | offset, (len, value) :: rest => Shows data offset len value ∧ ShowsFields data (offset + len) rest

/-- The four colours of a value as carried (11.4). -/
def levelFields (l : Levels) : List (Nat × Nat) := [(2, l.r), (2, l.g), (2, l.b), (2, l.w)]

/-- A payload as carried, an absent segment as 0xFF and an absent gain as 0 (11.3, R165). -/
def payloadFields : Payload → List (Nat × Nat)
  | .jet h => [(2, h), (6, 0)]
  | .head l => levelFields l
  | .play k g => [(1, 0), (1, k.val), (2, g), (4, 0)]
  | .gain g => [(1, 1), (1, 255), (2, g), (4, 0)]
  | .quiet => [(1, 2), (1, 255), (2, 0), (4, 0)]

/-- A set of line settings as carried (11.2). -/
def lineFields (c : LineSettings) : List (Nat × Nat) :=
  [(1, c.prescale), (2, c.divisor), (1, c.roundPeriod), (1, c.retryLimit), (1, c.lostLimit), (1, c.replyWait)]

/-- A voice as READ PLAYBACK shows it at a show time (11.4). -/
def voiceFields (v : Voice) (t : Nat) : List (Nat × Nat) :=
  [(1, v.state.code), (1, (v.segment.map (·.val)).getD 255), (4, v.position), (2, v.fromGain), (2, v.toGain), (4, v.origin),
    (2, v.duration), (2, v.gainAt t), (1, bitNat v.releaseAtZero), (2, v.governing.getD 0)]

/-- Every attention cause pending before is pending after. -/
def PendingKept (s t : State) : Prop := s.link.pending &&& ~~~t.link.pending = 0

/-- The command brings one of the two requests that end SAFE, CLEAR SAFE and RESTART, as a row of the opcode table or in a
SEND that the link takes; or it is the pin reset. -/
def MayEndSafe (s : State) : Instr → Prop
  | .clearSafe | .restart | .pinReset _ => True
  | .sendFrame bytes => LinkFree s ∧ (sentRequest bytes = some .clearSafe ∨ sentRequest bytes = some .restart)
  | _ => False

/-! ### Show clock (R25, R27) -/

/-- The law of R25: show time never exceeds the show length, and a RUNNING clock is short of it; the ranges
of the clock record; SAFE is never the safe origin. -/
structure ClockLaw (c : Clock) : Prop where
  time_le : c.showTime ≤ c.showLength
  length_le : c.showLength ≤ Config.showTimeMax
  running_lt : c.state = .running → c.showTime < c.showLength
  phase_lt : c.framePhase < Config.framesPerTick
  origin : c.safeOrigin ≠ .safe

/-! ### Cue store and timelines (R5, R6, R41) -/

/-- A timeline in start order, strictly rising (R5). -/
def StartsRise (tl : List Cue) : Prop := tl.Pairwise (fun c d => c.start < d.start)

/-- The place of a cue's state in the order of R6: PASSED, then LIVE or STANDING, then WAITING. -/
def stateRank : CueState → Nat
  | .passed => 0
  | .live => 1
  | .standing => 1
  | .waiting => 2

/-- The law of R6: PASSED cues, then at most one LIVE or STANDING cue, then WAITING cues. -/
def StatesOrdered (tl : List Cue) : Prop :=
  tl.Pairwise (fun c d => stateRank c.state ≤ stateRank d.state ∧ (stateRank c.state = 1 → stateRank d.state ≠ 1))

/-- The channel's taken cue is the LIVE or STANDING cue of its timeline (R41). -/
def TakenAgrees (tl : List Cue) (rec : ChannelRec) : Prop :=
  rec.taken = (tl.find? Cue.isTaken).map (·.number)

/-- The kind of a cue's payload is its channel's (R2). -/
def payloadFits (c : Fin 49) : Payload → Bool
  | .jet _ => decide (c.val < 32)
  | .head _ => decide (32 ≤ c.val) && decide (c.val < 48)
  | .play _ _ => decide (c.val = 48)
  | .gain _ => decide (c.val = 48)
  | .quiet => decide (c.val = 48)

/-- What the law of R5 says of one cue, and R1, R2 and R3 of its fields. -/
def CueFits (lead : Nat) (c : Fin 49) (q : Cue) : Prop :=
  1 ≤ q.number ∧ q.number ≤ 65535 ∧ q.start ≤ Config.showTimeMax ∧ q.ramp ≤ Config.rampMax ∧
    payloadFits c q.payload = true ∧ q.dispatch = dispatchTime lead q.start

/-- The show has nothing taken: every cue WAITING, no channel with a taken cue (R6, R42). -/
def NothingTaken (s : State) : Prop :=
  ∀ c : Fin 49, (∀ q ∈ s.store.timelines[c], q.state = .waiting) ∧ s.channels[c].taken = none

/-- The laws of R5 and R6 over the store and the channel records. -/
structure StoreLaw (s : State) : Prop where
  count : s.store.occupied ≤ Config.cueSlots
  numbers : (s.store.timelines.toList.flatten.map (·.number)).Nodup
  fits : ∀ c : Fin 49, ∀ q ∈ s.store.timelines[c], CueFits (leadOf s c) c q
  starts : ∀ c : Fin 49, StartsRise s.store.timelines[c]
  states : ∀ c : Fin 49, StatesOrdered s.store.timelines[c]
  taken : ∀ c : Fin 49, TakenAgrees s.store.timelines[c] s.channels[c]
  stopped : s.clock.state = .stopped ∨ (s.clock.state = .safe ∧ s.clock.safeOrigin = .stopped) → NothingTaken s

/-- No WAITING cue of any channel is due at a show time (R48). -/
def NoneDue (t : Nat) (s : State) : Prop := ∀ c : Fin 49, ∀ q ∈ s.store.timelines[c], dueAt t q = false

/-- The action code and the segment code of a programme payload (R16, 11.3). -/
def actionCodes (p : Payload) : List (Nat × Nat) := (payloadFields p).take 2

/-- A payload within the ranges of R2, by the kind of its channel, as carried (11.3). -/
def PayloadInRange (channel : Nat) (p : RawPayload) : Prop :=
  (channel < 32 → p.w0 ≤ 6000) ∧
  (32 ≤ channel → channel < 48 → p.w0 ≤ 4095 ∧ p.w1 ≤ 4095 ∧ p.w2 ≤ 4095 ∧ p.w3 ≤ 4095) ∧
  (channel = 48 → p.w0 / 256 ≤ 2 ∧ (p.w0 / 256 = 0 → p.w0 % 256 < 64) ∧ (p.w0 / 256 ≤ 1 → p.w1 ≤ 1000))

/-! ### Chase (R53, R54, R150) -/

/-- A channel chased at show time `t`, the show time before being `t0`: the last cue whose dispatch time has come is taken,
the cues before it are PASSED and those after it WAITING, all with skipped clear, and the transition runs from the
target of the cue before it, or from the channel's value before the chase (R53, R54). A channel with no such cue holds
its value, and keeps its shape (log 12). -/
def ChannelChased (t t0 : Nat) (tl : List Cue) (rec : ChannelRec) (tl' : List Cue) (rec' : ChannelRec) : Prop :=
  (∀ before x after, tl = before ++ x :: after → x.dispatch ≤ t → (∀ q ∈ after, t < q.dispatch) →
    rec' =
      { taken := some x.number
        fromVal := ((before.getLast?).map (fun p => p.payload.target)).getD (rec.valueAt t0)
        toVal := x.payload.target, origin := x.dispatch, duration := x.ramp, shape := x.shape } ∧
    tl' =
      before.map (fun q => { q with state := .passed, skipped := false }) ++
        { x with state := if x.ramp = 0 ∨ x.dispatch + x.ramp ≤ t then .standing else .live, skipped := false } ::
        after.map (fun q => { q with state := .waiting, skipped := false })) ∧
  ((∀ q ∈ tl, t < q.dispatch) →
    rec' = { rec with taken := none, fromVal := rec.valueAt t0, toVal := rec.valueAt t0, origin := t, duration := 0 } ∧
    tl' = tl.map (fun q => { q with state := .waiting, skipped := false }))

/-- The voices after a programme chase at show time `t` that left the timeline `tl` and the record `rec` (R150): both are
released, and voice 0 is built from the last PLAY cue that is taken or PASSED, unless a QUIET after it has ended the
music or its segment is at its end. That the earlier of two such QUIET cues has ended it is the model's reading (log 17). -/
def VoicesChased (t : Nat) (tl : List Cue) (rec : ChannelRec) (p p' : Playback) : Prop :=
  p' = { p with v0 := p'.v0, v1 := Voice.released } ∧
  ((∀ q ∈ tl, q.state ≠ .waiting → q.payload.segment? = none) → p'.v0 = Voice.released) ∧
  ∀ before x after k g, tl = before ++ x :: after → x.state ≠ .waiting → x.payload = .play k g →
    (∀ q ∈ after, q.state ≠ .waiting → q.payload.segment? = none) →
    let quiets := after.filter (fun q => q.state != .waiting && q.payload == .quiet)
    let ended := ∃ q ∈ quiets, rec.taken ≠ some q.number ∨ rec.completeAt t = true
    let length := p.segments[k].length
    let run := (t - x.start) * 48
    let position := if run < length then some run else p.segments[k].loopStart.map (fun l => l + (run - l) % (length - l))
    (ended ∨ position = none → p'.v0 = Voice.released) ∧
    (¬ended → ∀ at_, position = some at_ → p'.v0 =
      { state := if quiets = [] then .front else .fading
        segment := some k, position := at_, fromGain := (rec.valueAt t).r, toGain := rec.toVal.r, origin := t,
        duration := rec.origin + rec.duration - t, releaseAtZero := decide (quiets ≠ []), governing := rec.taken })

/-! ### Supervision (R110 to R114) -/

/-- The law of R111: each condition cause is in the cause set exactly while its condition is true, the set is
empty outside SAFE (R114), and in SAFE every cause present has been seen. -/
structure CauseLaw (s : State) : Prop where
  eStop : SafeCause.eStop.memberOf s.sup.causes = s.sup.estop.active
  lowLow : SafeCause.lowLow.memberOf s.sup.causes = s.sup.lowLow.active
  clockLost : SafeCause.clockLost.memberOf s.sup.causes = (decide (s.clock.mode = .follow) && !s.clock.lossTimerRunning)
  criticalLost : SafeCause.criticalLost.memberOf s.sup.causes = (criticalLostGroup s).isSome
  outside : s.clock.state ≠ .safe → s.sup.causes = 0
  seen : s.clock.state = .safe → s.sup.causes &&& ~~~s.sup.seen = 0
  master : s.clock.mode = .master → s.clock.lossTimerRunning = false

/-! ### Nodes and bindings (R80, R86, R88, R99, R100) -/

/-- The laws of R80 and R86: a line and address occur once among non-ABSENT nodes; a pump node and a valve
output are bound to one group at most; a bound node is not ABSENT and is of the kind it is bound as. With R88 and R100:
an exchange that is not to be discarded serves a node of its line that is not ABSENT. -/
structure BindingLaw (s : State) : Prop where
  addresses : ∀ i j : Fin 40, i ≠ j → (s.node i).state ≠ .absent → (s.node j).state ≠ .absent →
    (s.node i).line = (s.node j).line → (s.node i).address ≠ (s.node j).address
  pumps : ∀ m n : Fin 32, m ≠ n → s.water.groups[m].pumpNode ≠ none →
    s.water.groups[m].pumpNode ≠ s.water.groups[n].pumpNode
  valves : ∀ m n : Fin 32, m ≠ n → s.water.groups[m].valve ≠ none → s.water.groups[m].valve ≠ s.water.groups[n].valve
  pumpBound : ∀ n : Fin 32, ∀ i : Fin 40, s.water.groups[n].pumpNode = some i →
    (s.node i).state ≠ .absent ∧ (s.node i).kind = .pump
  valveBound : ∀ n : Fin 32, ∀ v : ValveBinding, s.water.groups[n].valve = some v →
    (s.node v.node).state ≠ .absent ∧ (s.node v.node).kind = .valve
  served : ∀ (l : Line) (x : Exchange), (s.line l).exchange = some x → x.discard = false →
    (s.node x.index).state ≠ .absent ∧ (s.node x.index).line = l

/-! ### Water unit (R61 to R65) -/

/-- The laws of R61 to R65: a group's curve is the all-zero one or valid, an enabled group has a valid curve and a
pump node, its limits stay in their ranges, and its speeds are 0 without a pump node and never above 1000. -/
structure WaterLaw (s : State) : Prop where
  curve : ∀ n : Fin 32, curveAllZero s.water.groups[n].curve = true ∨ curveValid s.water.groups[n].curve = true
  enabled : ∀ n : Fin 32, s.water.groups[n].enabled = true →
    curveValid s.water.groups[n].curve = true ∧ s.water.groups[n].pumpNode.isSome = true
  limits : ∀ n : Fin 32, s.water.groups[n].heightLimit ≤ 6000 ∧ s.water.groups[n].lead ≤ 5000 ∧ s.water.groups[n].bypass ≤ 1000
  speeds : ∀ n : Fin 32, s.water.groups[n].issued ≤ 1000 ∧ s.water.groups[n].delivered ≤ 1000
  unbound : ∀ n : Fin 32, s.water.groups[n].pumpNode = none → s.water.groups[n].issued = 0 ∧ s.water.groups[n].delivered = 0

/-! ### Lights (R119, R121) -/

/-- The outputs that the heads' assignments name, head by head. -/
def namedOutputs (u : Lights) : List (Fin 64) := u.heads.toList.flatMap (fun h => (h.outputs.map HeadOutputs.list).getD [])

/-- The laws of R119 and R121: no output is named twice, and an UNSET output holds code 0 and is undriven. -/
structure LightLaw (u : Lights) : Prop where
  named : (namedOutputs u).Nodup
  unset : ∀ o : Fin 64, u.outputs[o].sense = .unset →
    u.outputs[o].buffered = 0 ∧ u.outputs[o].committed = 0 ∧ u.outputs[o].driven = false

/-! ### Playback (R135, R136, R137, R141) -/

/-- A segment record that is not EMPTY stays inside sample memory, and its loop inside the segment (R137). -/
def SegmentFits (g : Segment) : Prop :=
  g.state ≠ .empty → 1 ≤ g.length ∧ g.first + g.length ≤ Config.memoryFrames ∧ ∀ l, g.loopStart = some l → l < g.length

/-- Two extents share no frame index (R136). -/
def ExtentsApart (g h : Segment) : Prop :=
  g.state ≠ .empty → h.state ≠ .empty → g.first + g.length ≤ h.first ∨ h.first + h.length ≤ g.first

/-- A sounding voice plays a READY segment, at a position inside it (R136, R141). -/
def VoiceFits (p : Playback) (v : Voice) : Prop :=
  v.state ≠ .idle → ∃ seg : Fin 64, v.segment = some seg ∧ p.segments[seg].state = .ready ∧
    v.position < p.segments[seg].length

/-- The frames that a LOAD FRAMES is still writing lie in one FILLING segment (R138). -/
def LoadFits (s : State) : Prop :=
  ∀ first frames, s.link.state = .handling (.writing first frames) →
    ∃ seg : Fin 64, s.play.segments[seg].state = .filling ∧ s.play.segments[seg].first ≤ first ∧
      first + frames.length ≤ s.play.segments[seg].first + s.play.segments[seg].length

/-- The laws of R136 and R141 over segments, cues and voices. -/
structure PlaybackLaw (s : State) : Prop where
  extents : ∀ k : Fin 64, SegmentFits s.play.segments[k]
  apart : ∀ j k : Fin 64, j ≠ k → ExtentsApart s.play.segments[j] s.play.segments[k]
  cues : ∀ c : Fin 49, ∀ q ∈ s.store.timelines[c], payloadFits c q.payload = true ∧
    ∀ seg, q.payload.segment? = some seg → s.play.segments[seg].state = .ready
  voice0 : VoiceFits s.play s.play.v0
  voice1 : VoiceFits s.play s.play.v1
  front : ¬(s.play.v0.state = .front ∧ s.play.v1.state = .front)
  load : LoadFits s

/-- Sample memory is in its canonical form and inside its 128 MiB (R135). -/
def MemoryLaw (m : Memory) : Prop := memWf m ∧ ∀ x ∈ m, x.1 < Config.memoryBytes

/-! ### Attention and link (R157, R159) -/

/-- An answer is in the buffer exactly while the link is ANSWER READY, and ARDY is high exactly then (R157); the
request buffer holds 1,040 bytes at most (R155). -/
def LinkLaw (s : State) : Prop := s.link.answer.isSome = s.ardy ∧ s.link.request.length ≤ Config.largestRequest

end Sys2Proof.Safety
end

