-- ==== Sys2Proof/Certificates/Slice0/Obligations.lean ====
section
/-! DEFINITION. The statements for the provers. Where a statement says what a request does, its row is the request's own
SEND on a free link, checked and carried out by its owner in one step: the model's reading of a row (log 1). -/

open Sys2Proof Sys2Proof.Machine Sys2Proof.Safety

/-! ### The step and the link (chapter 9, chapter 11) -/

/-- One step carries out the command at the front of the queue with the queue's rest. An empty queue idles:
that clause is the model's choice (log 2). -/
def Obligations.StepRunsFrontCommand : Prop :=
  (∀ (c : Instr) (rest : List Instr) (s : State), step { s with pending := c :: rest } = exec c { s with pending := rest }) ∧
  ∀ s : State, s.pending = [] → step s = .next s

/-- Bytes that the link reads as a request are those of a well-formed request: its parameters fit their
fields, its code is the first byte, its length field is the length of its parameters, and it is encoded in as
many bytes and read back (11.1, 11.2). -/
def Obligations.RequestBytesReadBack : Prop :=
  ∀ (bytes : List Byte) (r : Request), bytes.length ≤ Config.largestRequest → parseRequest bytes = .ok r →
    r.wf = true ∧ field bytes 0 1 = r.code ∧ field bytes 1 2 = r.params.length ∧
      (encodeRequest r).length = bytes.length ∧ parseRequest (encodeRequest r) = .ok r

/-- R164: how the link judges the bytes of a SEND that it takes, the bytes kept being the first 1,040
(R155). What follows where the bytes pass is in CompletionAfterSendMatchesRow. -/
def Obligations.TakenSendIsJudged : Prop :=
  ∀ (s : State), LinkFree s →
    exec (.sendFrame []) s = .next { s with link := { s.link with miso := [0xFF#8] } } ∧
    (∀ (seg offset : Nat) (t : State), seg < 256 → offset < 4294967296 → exec (.loadFrames seg offset 0 []) s = .next t →
      finishedAnswer t = some { echo := 0x39#8, status := .outOfRange, data := [] }) ∧
    ∀ (b : Byte) (rest : List Byte),
      let kept := (b :: rest).take Config.largestRequest
      let params := kept.drop 3
      let idle := { s.link with
        request := kept, answer := none, miso := List.replicate (rest.length + 2) 0xFF#8, rowDue := false }
      (requiredLength b.toNat params = none →
        exec (.sendFrame (b :: rest)) s = .next { s with
          link := { idle with state := .handling (.finished { echo := b, status := .unknown, data := [] }) } }) ∧
      ∀ n, requiredLength b.toNat params = some n →
        (b = 0x39#8 → n = 13 + 4 * field params 5 2) ∧
        ((kept.length < 3 ∨ params.length ≠ field kept 1 2 ∨ field kept 1 2 ≠ n) →
          exec (.sendFrame (b :: rest)) s = .next { s with
            link := { idle with
              state := .handling (.finished { echo := b, status := .badLength, data := [] }),
              silenceSince := silenceRestarted s } }) ∧
        (¬(kept.length < 3 ∨ params.length ≠ field kept 1 2 ∨ field kept 1 2 ≠ n) →
          ∃ (r : Request) (t : State), sentRequest (b :: rest) = some r ∧ r.code = b.toNat ∧
            exec (.sendFrame (b :: rest)) s = .next t ∧ t.link.request = kept ∧ t.link.answer = none)

/-- While a request is being handled, a completed SEND, and every request row but that of a request that SEND_FRAME has
just brought, is ignored: LINK_OVERRUN is raised and nothing else changes but what MISO read (R156). That a row is its own
SEND is the model's choice (log 1). A FETCH clocks the waiting answer out, echo, status, length and data, with
0xFF after its end; the answer is fetched once every byte of it was clocked; with no answer waiting every byte reads
0xFF and the rest of the link record is unchanged (R157). A frame that R155 disregards changes nothing but what
MISO read, 0xFF for every whole byte. -/
def Obligations.OverrunsFetchesAndDisregardedFrames : Prop :=
  (∀ (s : State) (w : Work), s.link.state = .handling w →
    (∀ bytes : List Byte, bytes ≠ [] → exec (.sendFrame bytes) s = .next { s with
      link := { s.link with
        pending := s.link.pending ||| Attention.linkOverrun.bit, miso := List.replicate (bytes.length + 1) 0xFF#8 } }) ∧
    ∀ (i : Instr) (r : Request), i.request? = some r → rowFollows r s = false → exec i s = .next { s with
      link := { s.link with
        pending := s.link.pending ||| Attention.linkOverrun.bit,
        miso := List.replicate ((encodeRequest r).length + 1) 0xFF#8 } }) ∧
  ∀ (n : Nat) (s : State),
    (∀ a : Answer, s.link.state = .answerReady → s.link.answer = some a →
      a.bytes = a.echo :: BitVec.ofNat 8 (statusCode a.status) :: (beBytes 2 a.data.length ++ a.data) ∧
      exec (.fetchFrame n) s = .next { s with
        link := { s.link with
          state := if a.data.length + 4 ≤ n then .idle else .answerReady
          answer := if a.data.length + 4 ≤ n then none else some a
          miso := 0xFF#8 :: (a.bytes ++ List.replicate n 0xFF#8).take n } }) ∧
    (s.link.state ≠ .answerReady → exec (.fetchFrame n) s = .next { s with
      link := { s.link with miso := List.replicate (n + 1) 0xFF#8 } }) ∧
    ∀ bytes : List Byte, exec (.disregardedFrame bytes) s =
      .next { s with link := { s.link with miso := List.replicate bytes.length 0xFF#8 } }

/-- REQUEST_COMPLETION places a finished answer (R156). A request that SEND_FRAME brings restarts the silence timer (R158),
its owner acts in the same step, and a RESTART empties the pending set before that (R162); it leaves what its own row
leaves, with the mark that this row may follow; the row that follows adds nothing; and REQUEST_COMPLETION, or LOAD_FRAMES_WRITTEN
where a load writes, then finishes the one as the other (R156, R138; the rows are the model's reading, log 1). -/
def Obligations.CompletionAfterSendMatchesRow : Prop :=
  (∀ (s : State) (a : Answer), s.link.state = .handling (.finished a) → exec .requestCompletion s =
    .next { s with link := { s.link with state := .answerReady, answer := some a, rowDue := false } }) ∧
  (∀ (b : Byte) (rest : List Byte) (r : Request) (s : State), LinkFree s → sentRequest (b :: rest) = some r →
    exec (.sendFrame (b :: rest)) s = .next (setRowDue true (settle (handle r) { s with
      link := { s.link with
        state := .handling .taken
        request := (b :: rest).take Config.largestRequest
        answer := none
        silenceSince := silenceRestarted s
        pending := if r = .restart then 0 else s.link.pending
        miso := List.replicate (rest.length + 2) 0xFF#8
        rowDue := false } }))) ∧
  ∀ (i : Instr) (r : Request) (s t u : State), i.request? = some r → r.wf = true → LinkFree s →
    exec (.sendFrame (encodeRequest r)) s = .next t → exec i s = .next u →
    t = { u with link := { u.link with rowDue := true } } ∧ exec i t = .next u ∧
    (∀ a, finishedAnswer u = some a → exec .requestCompletion t = exec .requestCompletion u) ∧
    (finishedAnswer u = none → exec .loadFramesWritten t = exec .loadFramesWritten u)

/-- Every request row on a free link is taken, restarts the silence timer of R109 as its owner leaves the limit,
and gets exactly one answer, which echoes its code, unless it is a LOAD FRAMES that has begun to write (R156,
R158, R138). A request refused at any check changes nothing in any block (R158). -/
def Obligations.EveryTakenRequestIsAnswered : Prop :=
  ∀ (i : Instr) (r : Request) (s : State), i.request? = some r → r.wf = true → LinkFree s →
    ∃ t, exec i s = .next t ∧ t.link.request = encodeRequest r ∧ t.link.answer = none ∧
      t.link.silenceSince = silenceRestarted t ∧ t.now = s.now ∧
      ((∃ a, finishedAnswer t = some a ∧ a.echo = BitVec.ofNat 8 r.code) ∨
        ∃ seg offset n frames first, r = .loadFrames seg offset n frames ∧ t.link.state = .handling (.writing first frames)) ∧
      ∀ a, finishedAnswer t = some a → a.status ≠ .done → t = { s with link := linkWithAnswer r a.status a.data s }

/-- CLEAR ATTENTION takes the named causes out of the pending set and answers what is left; SET ATTENTION MASK
replaces the mask and answers it (R160). Bits that name no cause are ignored (R165). READ CLOCK, READ STORE, READ
ATTENTION and IDENTIFY answer DONE with their records, laid out as 11.4 gives, and change nothing (R34, R22, R160,
R161). The revision is the model's reading of R161 (log 22). -/
def Obligations.AttentionRequestsAndShortReads : Prop :=
  (∀ (k : Nat) (s : State), k < 65536 → LinkFree s →
    exec (.clearAttention k) s = .next { s with
      link := { linkWithAnswer (.clearAttention k) .done
          (beBytes 2 (s.link.pending &&& ~~~BitVec.ofNat 10 k).toNat) s with
        pending := s.link.pending &&& ~~~BitVec.ofNat 10 k } } ∧
    exec (.setAttentionMask k) s = .next { s with
      link := { linkWithAnswer (.setAttentionMask k) .done (beBytes 2 (k % 1024)) s with mask := BitVec.ofNat 10 k } }) ∧
  ∀ s : State, LinkFree s →
    exec .readClock s = .next { s with
      link := linkWithAnswer .readClock .done
        (beBytes 1 s.clock.state.code ++ beBytes 4 s.clock.showTime ++ beBytes 4 s.clock.showLength ++
          beBytes 1 s.clock.mode.code ++ beBytes 1 s.clock.safeOrigin.code ++ beBytes 1 (bitNat s.clock.returnPending)) s } ∧
    exec .readStore s = .next { s with
      link := linkWithAnswer .readStore .done
        (beBytes 2 (s.store.timelines.toList.map List.length).sum ++
          beBytes 2 (4096 - (s.store.timelines.toList.map List.length).sum) ++ beBytes 2 s.store.threshold) s } ∧
    exec .identify s = .next { s with
      link := linkWithAnswer .identify .done
        ([0x06, 0x40, 0x01, 0x10, 0x00, 0x31, 0x20, 0x04, 0x28, 0x40, 0x10, 0x40, 0x02, 0x02, 0x00, 0x00, 0x00, 0x04,
          0x10] ++ beBytes 1 s.link.lastReset.code) s } ∧
    ∃ p : Nat, exec .readAttention s = .next { s with
        link := linkWithAnswer .readAttention .done
          (beBytes 2 s.link.pending.toNat ++ beBytes 2 s.link.mask.toNat ++ beBytes 1 p) s } ∧
      p ≤ 10 ∧ (p = 0 ↔ s.link.pending = 0) ∧
      (∀ k : Nat, k < p → k + 1 < p → s.link.pending.getLsbD k = false) ∧
      (1 ≤ p → s.link.pending.getLsbD (p - 1) = true)

/-- A cause leaves the pending set only where a CLEAR ATTENTION or a RESTART is taken, as a row or in a SEND_FRAME, and at a
pin reset (R159, R160, R162). -/
def Obligations.PendingCausesStayUntilCleared : Prop :=
  ∀ (i : Instr) (s t : State), exec i s = .next t →
    (match i with
      | .clearAttention _ | .restart | .pinReset _ => True
      | .sendFrame bytes => LinkFree s ∧ (sentRequest bytes = some .restart ∨ ∃ k, sentRequest bytes = some (.clearAttention k))
      | _ => False) ∨ PendingKept s t

/-- READ CUE, READ CHANNEL, READ GROUP, READ NODE, READ LINE, READ HEAD, READ PLAYBACK and READ SUPERVISION answer
DONE with every field of their records, in the order and sizes of 11.4, and change nothing (R20, R21, R82, R102, R133,
R152, R117); an index out of range is refused OUT OF RANGE and a number not in the map NO SUCH. The byte for a line's
ABSENT nodes is left free (log 10); that a node without a reported power shows 0 (log 20) and that the code bytes of
an absent output are 0 (log 29) are the model's choices. The
silence timer restarts at the READ SUPERVISION itself (R158), so the time left is the whole limit. -/
def Obligations.RecordReadsAnswerAndChangeNothing : Prop :=
  ∀ s : State, LinkFree s →
    let now := s.clock.showTime
    let absent (k : Option Nat) : Nat := k.getD 255
    let answers (i : Instr) (r : Request) (fields : List (Nat × Nat)) : Prop :=
      ∃ data : List Byte, ShowsFields data 0 fields ∧ exec i s = .next { s with link := linkWithAnswer r .done data s }
    let refused (i : Instr) (r : Request) (st : Status) : Prop := exec i s = .next { s with link := linkWithAnswer r st [] s }
    (∀ (n : Nat) (c : Fin 49) (q : Cue), 1 ≤ n → n ≤ 65535 → s.store.find n = some (c, q) →
      answers (.readCue n) (.readCue n)
        ([(2, n), (1, c.val), (4, q.start), (2, q.ramp), (1, q.shape.code)] ++ payloadFields q.payload ++
          [(1, if q.state = .live ∧ s.channels[c].completeAt now = true then 2 else q.state.code), (1, bitNat q.skipped),
            (4, q.dispatch)])) ∧
    (∀ c : Fin 49,
      let rec_ := s.channels[c]
      let tl := s.store.timelines[c]
      answers (.readChannel c.val) (.readChannel c.val)
        ([(2, rec_.taken.getD 0)] ++ levelFields rec_.fromVal ++ levelFields rec_.toVal ++
          [(4, rec_.origin), (2, rec_.duration), (1, rec_.shape.code)] ++ levelFields (rec_.valueAt now) ++
          [(2, tl.length), (2, (((tl.filter (fun q => q.state == .waiting)).map (·.number)).head?).getD 0),
            (2, if h : c.val < 32 then s.water.groups[c.val].flags.toNat else 0)])) ∧
    (∀ n : Fin 32,
      let pEff (g : Group) : Nat := if 0 < g.ratedPower then g.ratedPower else
        match g.pumpNode.bind (fun i => (s.node i).reportedPower) with
        | some p => if p = 0 then 2000 else min p 2000
        | none => 2000
      let claimed (g : Group) : Nat := max g.issued g.delivered
      let estimate (g : Group) : Nat := pEff g * claimed g ^ 3 / 1000000000
      let g := s.water.groups[n]
      answers (.readGroup n.val) (.readGroup n.val)
        ([(1, n.val), (1, bitNat g.enabled + 2 * bitNat g.critical), (1, absent (g.pumpNode.map (·.val))),
            (1, absent (g.valve.map (·.node.val))), (1, absent (g.valve.map (·.output.val))), (2, g.heightLimit), (2, g.lead),
            (1, g.upStep), (1, g.downStep), (1, g.safeDownStep), (2, g.bypass), (1, absent (g.windClass.map (·.val))),
            (2, g.ratedPower)] ++
          g.curve.toList.flatMap (fun p => [(2, p.height), (2, p.speed)]) ++
          [(2, g.demanded), (2, g.capped), (2, g.target), (2, g.issued), (2, g.delivered),
            (1, if g.valve = none then 255 else bitNat g.valveOpen), (2, g.flags.toNat), (2, claimed g), (2, pEff g),
            (2, estimate g), (2, s.water.budget),
            (2, ((s.water.groups.toList.filter (·.enabled)).map estimate).sum)])) ∧
    (∀ n : Fin 40,
      let x := s.node n
      answers (.readNode n.val) (.readNode n.val)
        ([(1, x.state.code), (1, x.stage.code), (1, lineCode x.line), (1, x.address), (1, x.kind.code),
            (1, bitNat x.sequence + 2 * bitNat x.rejoin + 4 * bitNat x.reportedPower.isSome), (1, x.failedRounds),
            (1, x.countdown), (1, x.condition.code), (2, x.reportedPower.getD 0), (2, x.actualSpeed),
            (1, x.confirmedOpen.toNat), (1, x.faultCode.toNat), (1, absent ((pumpGroup s n).map (·.val)))] ++
          (List.finRange 8).map (fun o => (1, absent ((valveGroup s n o).map (·.val)))))) ∧
    (∀ l : Line, ∃ free : Byte,
      let r := s.line l
      let count (st : NodeState) : Nat := (s.fieldLines.nodes.toList.filter (fun x => x.state == st && x.line == l)).length
      answers (.readLine (lineCode l)) (.readLine (lineCode l))
        (lineFields r.active ++ lineFields r.pending ++
          (match r.round with
            | .idle => [(1, 0), (1, 255)]
            | .underWay i => [(1, 1), (1, i.val)]) ++
          [(1, bitNat r.pendingStart + 2 * bitNat r.overrun), (2, r.roundCount), (1, free.toNat), (1, count .joining),
            (1, count .online), (1, count .suspect), (1, count .lost),
            (4, 1536000000 / (r.active.prescale * (r.active.divisor + 1)))])) ∧
    (∀ n : Fin 16,
      let h := s.lights.heads[n]
      let b := s.lights.blend
      let index (f : HeadOutputs → Option (Fin 64)) : Nat × Nat := (1, absent ((h.outputs.bind f).map (·.val)))
      let output (f : HeadOutputs → Option (Fin 64)) : List (Nat × Nat) := match h.outputs.bind f with
        | some o => [(1, s.lights.outputs[o].sense.code), (2, s.lights.outputs[o].committed)]
        | none => [(1, 255), (2, 0)]
      let four := [fun a : HeadOutputs => some a.r, fun a => some a.g, fun a => some a.b, fun a => a.w]
      answers (.readHead n.val) (.readHead n.val)
        ([(1, bitNat h.enabled + 2 * bitNat h.outputs.isSome)] ++ four.map index ++ [(1, h.response.code)] ++
          four.flatMap output ++ levelFields (s.channels[headChannel n].valueAt now) ++ [(2, s.lights.master)] ++
          levelFields s.lights.scene ++ [(1, b.direction.code), (2, b.b0), (2, b.fade), (2, b.elapsed), (2, b.value)])) ∧
    (∀ k : Fin 64,
      let g := s.play.segments[k]
      answers (.readPlayback k.val) (.readPlayback k.val)
        ([(1, g.state.code), (4, g.first), (4, g.length), (4, g.loopStart.getD 4294967295),
            (2, (s.store.timelines[programme].filter (fun q => q.payload.segment? == some k)).length),
            (1, ([s.play.v0, s.play.v1].filter (fun v => v.state != .idle && v.segment == some k)).length)] ++
          voiceFields s.play.v0 now ++ voiceFields s.play.v1 now ++
          [(1, s.clock.mode.code), (1, s.play.format.code), (2, s.play.multiplier), (4, s.play.fadeCount)])) ∧
    (
      let u := s.sup
      answers .readSupervision .readSupervision
        [(2, u.rawWind), (2, u.smoothedWind), (2, u.pulseCount),
          (1, bitNat (!u.estop.high) + 2 * bitNat u.low.high + 4 * bitNat u.lowLow.high + 8 * bitNat u.estop.active +
            16 * bitNat u.low.active + 32 * bitNat u.lowLow.active),
          (1, bitNat (SafeCause.clockLost.memberOf u.causes) + 2 * bitNat (SafeCause.criticalLost.memberOf u.causes)),
          (1, absent ((criticalLostGroup s).map (·.val))),
          (4, if u.settings.silenceLimit = 0 then 4294967295 else u.settings.silenceLimit * 1000),
          (1, if s.clock.state = .safe then 1 else 0), (1, u.causes.toNat), (1, u.seen.toNat),
          (1, u.settings.silenceLimit), (1, u.settings.debounceSteps), (2, u.settings.levelCap), (2, u.settings.windScale),
          (2, u.settings.lightSafeFade), (2, u.settings.lightReturnFade), (2, u.settings.audioSafeFade)]) ∧
    (∀ n : Nat, n ≤ 65535 → n = 0 ∨ s.store.find n = none →
      refused (.readCue n) (.readCue n) (if n = 0 then .outOfRange else .noSuch)) ∧
    ∀ n : Nat, n < 256 →
      (49 ≤ n → refused (.readChannel n) (.readChannel n) .outOfRange) ∧
      (32 ≤ n → refused (.readGroup n) (.readGroup n) .outOfRange) ∧
      (40 ≤ n → refused (.readNode n) (.readNode n) .outOfRange) ∧
      (2 ≤ n → refused (.readLine n) (.readLine n) .outOfRange) ∧
      (16 ≤ n → refused (.readHead n) (.readHead n) .outOfRange) ∧
      (64 ≤ n → refused (.readPlayback n) (.readPlayback n) .outOfRange)

/-! ### Show clock and timeline unit (chapters 2 and 3) -/

/-- The table of section 2.3: the clock requests answer WRONG STATE, changing nothing, in every state that does
not accept them, and a SEEK or SET SHOW LENGTH above 16,777,215 is refused OUT OF RANGE (R28 to R33). PAUSE in RUNNING
freezes the clock and nothing else; SET SHOW LENGTH in STOPPED clamps show time, and in PAUSED is refused below show
time (R29, R33). STOP in RUNNING or PAUSED: STOPPED at show time 0, every cue WAITING with skipped clear, every channel
record as after a pin reset, both voices released, and nothing else changed (R31, R57). -/
def Obligations.ClockRequestsActInTheirStates : Prop :=
  ∀ s : State, LinkFree s →
    let refused (i : Instr) (r : Request) (st : Status) : Prop := exec i s = .next { s with link := linkWithAnswer r st [] s }
    (¬(s.clock.state = .stopped ∧ s.clock.showTime < s.clock.showLength) → refused .start .start .wrongState) ∧
    (s.clock.state ≠ .running → refused .pause .pause .wrongState) ∧
    (¬(s.clock.state = .paused ∧ s.clock.showTime < s.clock.showLength) → refused .resume .resume .wrongState) ∧
    (s.clock.state = .stopped ∨ s.clock.state = .safe → refused .stop .stop .wrongState) ∧
    (∀ t : Nat, Config.showTimeMax < t → t < 4294967296 →
      refused (.seek t) (.seek t) .outOfRange ∧ refused (.setShowLength t) (.setShowLength t) .outOfRange) ∧
    (s.clock.state = .running ∨ s.clock.state = .safe → ∀ t, t ≤ Config.showTimeMax →
      refused (.seek t) (.seek t) .wrongState ∧ refused (.setShowLength t) (.setShowLength t) .wrongState) ∧
    (s.clock.state = .running → exec .pause s = .next { s with
      clock := { s.clock with state := .paused }, link := linkWithAnswer .pause .done [] s }) ∧
    (∀ len : Nat, len ≤ Config.showTimeMax →
      (s.clock.state = .stopped → exec (.setShowLength len) s = .next { s with
        clock := { s.clock with showLength := len, showTime := min s.clock.showTime len }
        link := linkWithAnswer (.setShowLength len) .done [] s }) ∧
      (s.clock.state = .paused → s.clock.showTime ≤ len → exec (.setShowLength len) s = .next { s with
        clock := { s.clock with showLength := len }, link := linkWithAnswer (.setShowLength len) .done [] s }) ∧
      (s.clock.state = .paused → len < s.clock.showTime → refused (.setShowLength len) (.setShowLength len) .outOfRange)) ∧
    (s.clock.state = .running ∨ s.clock.state = .paused →
      ∃ t, exec .stop s = .next t ∧
        t = { s with store := t.store, clock := t.clock, channels := t.channels, play := t.play, link := t.link } ∧
        t.clock = { s.clock with state := .stopped, showTime := 0 } ∧ t.link = linkWithAnswer .stop .done [] s ∧
        t.play = { s.play with v0 := Voice.released, v1 := Voice.released } ∧ t.store.threshold = s.store.threshold ∧
        ∀ c : Fin 49, t.channels[c] = ChannelRec.reset ∧
          t.store.timelines[c] = s.store.timelines[c].map (fun q => { q with state := .waiting, skipped := false }))

/-- START in STOPPED short of the show length (R28): every channel is chased at the present show time and the voices with
the programme channel (R53 to R55, R150), so that no WAITING cue is due; the clock runs with frame phase 0; the light
return fade begins and return pending clears where it was set. No cue enters or leaves a timeline, and nothing else
changes. That show ticks due are dropped (log 3), that a channel without a chased cue keeps its shape (log 12) and that of
two QUIET cues after the last PLAY the earlier has ended the music (log 17) are the model's choices. -/
def Obligations.StartChasesAndRuns : Prop :=
  ∀ s : State, LinkFree s → s.clock.state = .stopped → s.clock.showTime < s.clock.showLength →
    ∃ t, exec .start s = .next t ∧
      t = { s with store := t.store, clock := t.clock, channels := t.channels, lights := t.lights, play := t.play, link := t.link } ∧
      t.clock = { s.clock with state := .running, framePhase := 0, ticksDue := 0, returnPending := false } ∧
      t.link = linkWithAnswer .start .done [] s ∧
      t.lights = (if s.clock.returnPending then
        { s.lights with blend := { s.lights.blend with
            direction := .falling, b0 := s.lights.blend.value, fade := s.sup.settings.lightReturnFade, elapsed := 0 } }
        else s.lights) ∧
      NoneDue s.clock.showTime t ∧ t.store.threshold = s.store.threshold ∧
      (∀ c : Fin 49, t.store.timelines[c].map (·.number) = s.store.timelines[c].map (·.number) ∧
        ChannelChased s.clock.showTime s.clock.showTime s.store.timelines[c] s.channels[c] t.store.timelines[c] t.channels[c]) ∧
      VoicesChased s.clock.showTime t.store.timelines[programme] t.channels[programme] s.play t.play

/-- SEEK in STOPPED moves show time, clamped to the length, and chases nothing (R32). SEEK in PAUSED chases every
channel: the last cue whose dispatch time has come is taken, the cues before it are PASSED and those after it
WAITING, all with skipped clear, and the transition runs from the target of the cue before it, or from the
channel's value before the SEEK; a channel with no such cue holds its value (R53, R54); and the voices follow the
programme channel (R150). That a channel without a chased cue keeps its shape (log 12) and that of two QUIET cues after
the last PLAY the earlier has ended the music (log 17) are the model's choices. -/
def Obligations.SeekMovesAndChases : Prop :=
  ∀ (s : State) (time : Nat), LinkFree s → time ≤ Config.showTimeMax →
    (s.clock.state = .stopped → exec (.seek time) s = .next { s with
      clock := { s.clock with showTime := min time s.clock.showLength }
      link := linkWithAnswer (.seek time) .done (beBytes 4 (min time s.clock.showLength)) s }) ∧
    (s.clock.state = .paused → ∃ t, exec (.seek time) s = .next t ∧
      t = { s with store := t.store, clock := t.clock, channels := t.channels, play := t.play, link := t.link } ∧
      t.clock = { s.clock with showTime := min time s.clock.showLength } ∧
      t.link = linkWithAnswer (.seek time) .done (beBytes 4 (min time s.clock.showLength)) s ∧
      t.store.threshold = s.store.threshold ∧
      (∀ c : Fin 49, ChannelChased t.clock.showTime s.clock.showTime s.store.timelines[c] s.channels[c]
        t.store.timelines[c] t.channels[c]) ∧
      VoicesChased t.clock.showTime t.store.timelines[programme] t.channels[programme] s.play t.play)

/-- RESUME in PAUSED short of the show length (R30): the clock runs with frame phase 0. With return pending clear
nothing else changes; with it set the programme channel alone is chased at the present show time and the voices with it
(R56, R150), the light return fade begins and return pending clears (R127). That show ticks due are dropped (log 3),
that a channel without a chased cue keeps its shape (log 12) and that of two QUIET cues after the last PLAY the earlier has
ended the music (log 17) are the model's choices. -/
def Obligations.ResumeRunsThePausedShow : Prop :=
  ∀ s : State, LinkFree s → s.clock.state = .paused → s.clock.showTime < s.clock.showLength →
    (s.clock.returnPending = false → exec .resume s = .next { s with
      clock := { s.clock with state := .running, framePhase := 0, ticksDue := 0 }
      link := linkWithAnswer .resume .done [] s }) ∧
    (s.clock.returnPending = true → ∃ t, exec .resume s = .next t ∧
      t = { s with store := t.store, clock := t.clock, channels := t.channels, lights := t.lights, play := t.play, link := t.link } ∧
      t.clock = { s.clock with state := .running, framePhase := 0, ticksDue := 0, returnPending := false } ∧
      t.link = linkWithAnswer .resume .done [] s ∧
      t.lights = { s.lights with blend := { s.lights.blend with
        direction := .falling, b0 := s.lights.blend.value, fade := s.sup.settings.lightReturnFade, elapsed := 0 } } ∧
      t.store.threshold = s.store.threshold ∧
      (∀ c : Fin 49, c ≠ programme → t.store.timelines[c] = s.store.timelines[c] ∧ t.channels[c] = s.channels[c]) ∧
      (∀ q ∈ t.store.timelines[programme], dueAt s.clock.showTime q = false) ∧
      ChannelChased s.clock.showTime s.clock.showTime s.store.timelines[programme] s.channels[programme]
        t.store.timelines[programme] t.channels[programme] ∧
      VoicesChased s.clock.showTime t.store.timelines[programme] t.channels[programme] s.play t.play)

/-- A show tick that the frame count has made (R26, R27, R46 to R50). In RUNNING show time rises by one. Short of the
show length, no WAITING cue is left due; on each channel the last due cue acts from the channel's value at the
new show time and is LIVE or STANDING, the other due cues are PASSED with skipped set, the cue taken before is PASSED
with skipped clear, and every other cue is as it was; a channel with none keeps its record, and a LIVE taken cue whose
transition is complete is recorded STANDING; CUE_SKIPPED is raised where a channel has two or more. At the show length
the clock is PAUSED with SHOW_END raised and no cue taken. In every other state only the tick is used up. That ticks
wait to be handled is the model's choice (log 3). -/
def Obligations.ShowTickAdvancesOnlyRunning : Prop :=
  ∀ s : State, s.clock.ticksDue ≠ 0 →
    let now := s.clock.showTime + 1
    let due (c : Fin 49) : List Cue := s.store.timelines[c].filter (dueAt now)
    let completed (c : Fin 49) : List Cue := s.store.timelines[c].map (fun q =>
      if q.state = .live ∧ s.channels[c].taken = some q.number ∧ s.channels[c].completeAt now = true then
        { q with state := .standing } else q)
    (s.clock.state ≠ .running → exec .showTick s = .next { s with clock := { s.clock with ticksDue := s.clock.ticksDue - 1 } }) ∧
    (s.clock.state = .running → now = s.clock.showLength → ∃ t, exec .showTick s = .next t ∧
      t = { s with store := t.store, clock := t.clock, link := t.link } ∧
      t.clock = { s.clock with state := .paused, showTime := now, ticksDue := s.clock.ticksDue - 1 } ∧
      t.link = { s.link with pending := s.link.pending ||| Attention.showEnd.bit } ∧
      t.store.threshold = s.store.threshold ∧ ∀ c : Fin 49, t.store.timelines[c] = completed c) ∧
    (s.clock.state = .running → now ≠ s.clock.showLength → ∃ t, exec .showTick s = .next t ∧
      t = { s with store := t.store, clock := t.clock, channels := t.channels, play := t.play, link := t.link } ∧
      t.clock = { s.clock with showTime := now, ticksDue := s.clock.ticksDue - 1 } ∧
      NoneDue now t ∧ t.store.threshold = s.store.threshold ∧
      t.play = { s.play with v0 := t.play.v0, v1 := t.play.v1 } ∧
      t.link = { s.link with pending := t.link.pending } ∧
      t.link.pending = (if ∃ c : Fin 49, 2 ≤ (due c).length then s.link.pending ||| Attention.cueSkipped.bit
        else s.link.pending) ∧
      (due programme = [] → t.play = s.play) ∧
      ∀ c : Fin 49,
        (due c = [] → t.channels[c] = s.channels[c] ∧ t.store.timelines[c] = completed c) ∧
        ∀ a, (due c).getLast? = some a →
          t.channels[c] =
            { taken := some a.number, fromVal := s.channels[c].valueAt now, toVal := a.payload.target,
              origin := a.dispatch, duration := a.ramp, shape := a.shape } ∧
          t.store.timelines[c] = s.store.timelines[c].map (fun q =>
            if q.state = .waiting ∧ q.dispatch ≤ now then
              (if q.number = a.number then
                { q with state := if a.ramp = 0 ∨ a.dispatch + a.ramp ≤ now then .standing else .live, skipped := false }
              else { q with state := .passed, skipped := true })
            else if q.state = .live ∨ q.state = .standing then { q with state := .passed, skipped := false }
            else q))

/-- The take of a programme cue at a show tick moves the voices at once (R143, R144, R142). PLAY releases every FADING
voice, lets the FRONT voice fade out, and starts the lower-numbered IDLE voice at the beginning of its segment; GAIN
moves the FRONT voice to its gain, and QUIET lets it fade out; a voice that fades out is released at once where the ramp
is 0 or its fade is complete. -/
def Obligations.TakenProgrammeCueMovesTheVoices : Prop :=
  ∀ (a : Cue) (s : State), s.clock.ticksDue ≠ 0 → s.clock.state = .running → s.clock.showTime + 1 ≠ s.clock.showLength →
    let now := s.clock.showTime + 1
    (s.store.timelines[programme].filter (dueAt now)).getLast? = some a →
    let p := s.play
    let faded (v : Voice) : Voice :=
      { v with state := .fading, fromGain := v.gainAt now, toGain := 0, origin := a.dispatch, duration := a.ramp,
               releaseAtZero := true, governing := some a.number }
    let out (v : Voice) : Voice := if a.ramp = 0 ∨ (faded v).gainAt now = 0 then Voice.released else faded v
    let leaves (v : Voice) : Voice := match v.state with
      | .idle => v
      | .front => out v
      | .fading => Voice.released
    let enters (k : Fin 64) (g : Nat) : Voice :=
      { state := .front, segment := some k, position := 0, fromGain := 0, toGain := g, origin := a.dispatch,
        duration := a.ramp, releaseAtZero := false, governing := some a.number }
    let moved (v : Voice) (g : Nat) : Voice := if v.state = .front then
        { v with fromGain := v.gainAt now, toGain := g, origin := a.dispatch, duration := a.ramp, releaseAtZero := false,
                 governing := some a.number }
      else v
    let quieted (v : Voice) : Voice := if v.state = .front then out v else v
    ∃ t, exec .showTick s = .next t ∧
      (∀ k g, a.payload = .play k g →
        (p.v0.state = .front ∧ out p.v0 = faded p.v0 → t.play = { p with v0 := faded p.v0, v1 := enters k g }) ∧
        (¬(p.v0.state = .front ∧ out p.v0 = faded p.v0) → t.play = { p with v0 := enters k g, v1 := leaves p.v1 })) ∧
      (∀ g, a.payload = .gain g → t.play = { p with v0 := moved p.v0 g, v1 := moved p.v1 g }) ∧
      (a.payload = .quiet → t.play = { p with v0 := quieted p.v0, v1 := quieted p.v1 })

/-- 20 ms without an edge in FOLLOW mode make CLOCK_LOST true: the cause enters the cause set, the attention cause is
raised, and the part is in SAFE at the show time it had. The next edge makes the condition false and runs the
timer again; SAFE goes on (R37, R111). -/
def Obligations.WordClockLossAndReturn : Prop :=
  ∀ s : State, s.clock.mode = .follow →
    (s.clock.lossTimerRunning = true → SafeCause.clockLost.memberOf s.sup.causes = false →
      ∃ t, exec .wordClockLossExpiry s = .next t ∧
        t = { s with clock := t.clock, sup := t.sup, lights := t.lights, play := t.play, link := t.link } ∧
        t.clock = { s.clock with
          state := .safe, lossTimerRunning := false,
          safeOrigin := if s.clock.state = .safe then s.clock.safeOrigin else s.clock.state } ∧
        t.sup = { s.sup with
          causes := s.sup.causes ||| SafeCause.clockLost.bit
          seen := (if s.clock.state = .safe then s.sup.seen else s.sup.causes) ||| SafeCause.clockLost.bit } ∧
        t.link = { s.link with
          pending := s.link.pending ||| Attention.clockLost.bit |||
            (if s.clock.state = .safe then 0 else Attention.safeEntered.bit) } ∧
        (s.clock.state = .safe → t.lights = s.lights ∧ t.play = s.play)) ∧
    exec .wordClockEdge s = .next { s with
      clock := { s.clock with lossTimerRunning := true }
      sup := { s.sup with causes := s.sup.causes &&& ~~~SafeCause.clockLost.bit } }

/-- R44: the fraction of the distance that each shape covers, and where it leaves the value of a transition. -/
def Obligations.ShapeFractionRuns : Prop :=
  (∀ p : Nat, Shape.linear.fraction p = p ∧ Shape.smooth.fraction p = p * p * (3000 - 2 * p) / 1000000) ∧
  (∀ (sh : Shape) (p : Nat), p ≤ 1000 → sh.fraction p ≤ 1000) ∧
  (∀ (sh : Shape) (p q : Nat), p ≤ q → q ≤ 1000 → sh.fraction p ≤ sh.fraction q) ∧
  Shape.smooth.fraction 0 = 0 ∧ Shape.smooth.fraction 500 = 500 ∧ Shape.smooth.fraction 1000 = 1000 ∧
  (∀ (sh : Shape) (origin duration t a b : Nat), min a b ≤ ramp sh origin duration t a b ∧ ramp sh origin duration t a b ≤ max a b) ∧
  ∀ (sh : Shape) (origin duration t a b : Nat), origin < t → t - origin < duration →
    let s := sh.fraction ((t - origin) * 1000 / duration)
    let v := ramp sh origin duration t a b
    (a ≤ b → v = a + (b - a) * s / 1000 ∧ 1000 * (v - a) ≤ (b - a) * s) ∧
    (b ≤ a → v = a - (a - b) * s / 1000 ∧ 1000 * (a - v) ≤ (a - b) * s)

/-! ### Cue store (chapter 1) -/

/-- An accepted PLACE CUE (R9, R10): the cue stands WAITING in its channel's timeline, in start order, with the
dispatch time that the answer carries; STORE_LOW is raised on the fall across the threshold (R11); nothing
else changes. -/
def Obligations.PlaceCueInsertsTheCue : Prop :=
  ∀ (a : CueArgs) (c : Fin 49) (sh : Shape) (p : Payload) (s : State), LinkFree s → (Request.placeCue a).wf = true →
    a.channel = c.val → shape? a.shape = some sh → readPayload c a.payload = some p →
    1 ≤ a.number → a.number ≤ 65535 → a.start ≤ Config.showTimeMax → a.ramp ≤ Config.rampMax →
    s.store.find a.number = none → (∀ q ∈ s.store.timelines[c], q.start ≠ a.start) → s.store.occupied < Config.cueSlots →
    (∀ q ∈ s.store.timelines[c], q.state ≠ .waiting → q.start ≤ a.start) →
    (∀ seg, p.segment? = some seg → s.play.segments[seg].state = .ready) →
    ∃ t, exec (.placeCue a) s = .next t ∧ t = { s with store := t.store, link := t.link } ∧
      t.store.threshold = s.store.threshold ∧
      (∀ d : Fin 49, d ≠ c → t.store.timelines[d] = s.store.timelines[d]) ∧
      (∀ q, q ∈ t.store.timelines[c] ↔ q ∈ s.store.timelines[c] ∨
        q = { number := a.number, start := a.start, ramp := a.ramp, shape := sh, payload := p, state := .waiting,
              skipped := false, dispatch := a.start - leadOf s c }) ∧
      (StartsRise s.store.timelines[c] → StartsRise t.store.timelines[c]) ∧
      t.store.occupied = s.store.occupied + 1 ∧
      t.link = { linkWithAnswer (.placeCue a) .done (beBytes 4 (a.start - leadOf s c)) s with
        pending := if s.store.threshold ≤ 4096 - s.store.occupied ∧ 4096 - (s.store.occupied + 1) < s.store.threshold
          then s.link.pending ||| Attention.storeLow.bit else s.link.pending }

/-- The checks of PLACE CUE: a field outside the ranges of R8 is refused OUT OF RANGE, and then come those of R9 in their
order, each refusing what the checks before it let through. -/
def Obligations.PlaceCueRefusesInOrder : Prop :=
  ∀ (a : CueArgs) (s : State), LinkFree s → (Request.placeCue a).wf = true →
    let answers (st : Status) : Prop := exec (.placeCue a) s = .next { s with link := linkWithAnswer (.placeCue a) st [] s }
    let inRange := 1 ≤ a.number ∧ a.channel ≤ 48 ∧ a.start ≤ Config.showTimeMax ∧ a.ramp ≤ Config.rampMax ∧ a.shape ≤ 1 ∧
      PayloadInRange a.channel a.payload
    (¬inRange → answers .outOfRange) ∧
    (inRange → ∃ (c : Fin 49) (sh : Shape) (p : Payload), a.channel = c.val ∧ shape? a.shape = some sh ∧
      readPayload c a.payload = some p) ∧
    ∀ (c : Fin 49) (sh : Shape) (p : Payload), a.channel = c.val → shape? a.shape = some sh →
      readPayload c a.payload = some p →
      1 ≤ a.number → a.number ≤ 65535 → a.start ≤ Config.showTimeMax → a.ramp ≤ Config.rampMax →
      if s.store.find a.number ≠ none then answers .duplicate
      else if ∃ q ∈ s.store.timelines[c], q.start = a.start then answers .clash
      else if Config.cueSlots ≤ s.store.occupied then answers .storeFull
      else if ∃ q ∈ s.store.timelines[c], q.state ≠ .waiting ∧ a.start < q.start then answers .tooLate
      else if ∃ seg, p.segment? = some seg ∧ s.play.segments[seg].state ≠ .ready then answers .unready
      else ∃ t, exec (.placeCue a) s = .next t ∧ ∃ r, finishedAnswer t = some r ∧ r.status = .done

/-- The checks of AMEND CUE in their order: the ranges of R8 on what is selected, and NO SUCH, WRONG STATE, IN USE (with
the two refusals of R16 for a taken programme cue), CLASH, TOO LATE and UNREADY (R13). That a payload's range is checked
once the number has given its channel is the model's choice (log 13). -/
def Obligations.AmendCueRefusesInOrder : Prop :=
  ∀ (a : AmendArgs) (s : State), LinkFree s → (Request.amendCue a).wf = true →
    let answers (st : Status) : Prop := exec (.amendCue a) s = .next { s with link := linkWithAnswer (.amendCue a) st [] s }
    let sel (k : Nat) : Bool := a.selection.testBit k
    let inRange := 1 ≤ a.number ∧ a.selection < 16 ∧ (sel 0 = true → a.start ≤ Config.showTimeMax) ∧
      (sel 1 = true → a.ramp ≤ Config.rampMax) ∧ (sel 2 = true → a.shape ≤ 1)
    (¬inRange → answers .outOfRange) ∧
    (inRange → s.store.find a.number = none → answers .noSuch) ∧
    ∀ (c : Fin 49) (q : Cue), inRange → s.store.find a.number = some (c, q) → payloadFits c q.payload = true →
      (sel 3 = true → ¬PayloadInRange c.val a.payload → answers .outOfRange) ∧
      (sel 3 = true → PayloadInRange c.val a.payload → ∃ p, readPayload c a.payload = some p) ∧
      ∀ p, (if a.selection.testBit 3 then readPayload c a.payload else some q.payload) = some p →
        if q.state = .passed then answers .wrongState
        else if (q.state = .live ∨ q.state = .standing) ∧
            ((sel 0 = true ∧ a.start ≠ q.start) ∨ (c = programme ∧ actionCodes p ≠ actionCodes q.payload)) then answers .inUse
        else if (q.state = .waiting ∧ sel 0 = true) ∧ ∃ d ∈ s.store.timelines[c], d.number ≠ q.number ∧ d.start = a.start then
          answers .clash
        else if (q.state = .waiting ∧ sel 0 = true) ∧ ∃ d ∈ s.store.timelines[c], d.state ≠ .waiting ∧ a.start < d.start then
          answers .tooLate
        else if sel 3 = true ∧ (∃ seg, p.segment? = some seg ∧ s.play.segments[seg].state ≠ .ready) then answers .unready
        else ∃ t, exec (.amendCue a) s = .next t ∧ ∃ r, finishedAnswer t = some r ∧ r.status = .done

/-- An accepted AMEND CUE of a LIVE or STANDING cue restarts its channel's transition from where it stands, where ramp,
shape or payload changed, and leaves everything else alone (R13, R15). On the programme channel the voices follow: a PLAY
or GAIN cue moves the FRONT voice to its gain over its ramp, and a QUIET cue gives its ramp to the FADING voices that it
governs, or releases them where the ramp is 0 (R16, R145). A taken cue whose start, or whose action or PLAY segment, is
changed is refused IN USE (R16); a PASSED cue is refused WRONG STATE. An accepted amendment of a WAITING cue writes the
selected fields, keeps it WAITING and gives it the dispatch time of its start (R14). -/
def Obligations.AmendCueFollowsTheCueState : Prop :=
  ∀ (a : AmendArgs) (c : Fin 49) (q : Cue) (p : Payload) (s : State), LinkFree s → (Request.amendCue a).wf = true →
    amendInRange a = true → s.store.find a.number = some (c, q) → payloadFits c q.payload = true →
    (if a.selection.testBit 3 then readPayload c a.payload else some q.payload) = some p →
    let ready := a.selection.testBit 3 = true → ∀ seg, p.segment? = some seg → s.play.segments[seg].state = .ready
    let now := s.clock.showTime
    let r : Cue := { q with
      ramp := if a.selection.testBit 1 then a.ramp else q.ramp
      shape := if a.selection.testBit 2 then (shape? a.shape).getD q.shape else q.shape
      payload := p }
    let moved := a.selection.testBit 0 = true ∧ a.start ≠ q.start
    let acts := c = programme ∧ actionCodes p ≠ actionCodes q.payload
    let follow (v : Voice) : Voice :=
      if p = .quiet then
        (if v.state = .fading ∧ v.governing = some q.number then
          (if r.ramp = 0 then Voice.released else
            { v with fromGain := v.gainAt now, toGain := 0, origin := now, duration := r.ramp, releaseAtZero := true })
        else v)
      else if v.state = .front then
        { v with fromGain := v.gainAt now, toGain := p.target.r, origin := now, duration := r.ramp, governing := some q.number }
      else v
    (q.state = .passed → exec (.amendCue a) s =
      .next { s with link := linkWithAnswer (.amendCue a) .wrongState [] s }) ∧
    (q.isTaken = true → moved ∨ acts → exec (.amendCue a) s =
      .next { s with link := linkWithAnswer (.amendCue a) .inUse [] s }) ∧
    (q.isTaken = true → ¬moved → ¬acts → ready →
      ∃ t, exec (.amendCue a) s = .next t ∧
        t = { s with store := t.store, channels := t.channels, play := t.play, link := t.link } ∧
        t.link = linkWithAnswer (.amendCue a) .done (beBytes 4 q.dispatch) s ∧
        t.store.threshold = s.store.threshold ∧
        (∀ d : Fin 49, d ≠ c → t.channels[d] = s.channels[d] ∧ t.store.timelines[d] = s.store.timelines[d]) ∧
        ((q.ramp, q.shape, q.payload) = (r.ramp, r.shape, r.payload) →
          t.store = s.store ∧ t.channels = s.channels ∧ t.play = s.play) ∧
        ((q.ramp, q.shape, q.payload) ≠ (r.ramp, r.shape, r.payload) →
          t.channels[c] =
            { taken := some q.number, fromVal := s.channels[c].valueAt now, toVal := p.target,
              origin := now, duration := r.ramp, shape := r.shape } ∧
          t.store.timelines[c] = s.store.timelines[c].map (fun d =>
            if d.number = q.number then { r with state := if r.ramp = 0 then .standing else .live } else d) ∧
          t.play = if c = programme then { s.play with v0 := follow s.play.v0, v1 := follow s.play.v1 } else s.play)) ∧
    (q.state = .waiting → ready →
      (a.selection.testBit 0 = true → ∀ d ∈ s.store.timelines[c],
        (d.number ≠ q.number → d.start ≠ a.start) ∧ (d.state ≠ .waiting → d.start ≤ a.start)) →
      (q.dispatch = dispatchTime (leadOf s c) q.start) →
      ∃ t, exec (.amendCue a) s = .next t ∧ t = { s with store := t.store, link := t.link } ∧
        t.store.threshold = s.store.threshold ∧
        (∀ d : Fin 49, d ≠ c → t.store.timelines[d] = s.store.timelines[d]) ∧
        let start := if a.selection.testBit 0 then a.start else q.start
        t.link = linkWithAnswer (.amendCue a) .done (beBytes 4 (start - leadOf s c)) s ∧
        ∀ d, d ∈ t.store.timelines[c] ↔ (d ∈ s.store.timelines[c] ∧ d.number ≠ q.number) ∨
          d = { r with start := start, dispatch := start - leadOf s c })

/-- RETIRE CUE of a WAITING or PASSED cue removes it and changes no channel; of a LIVE or STANDING cue it also freezes the
channel at its present value with no taken cue, and on the programme channel it freezes the FRONT voice's gain and clears
the cue from the voices that it governs; the answer carries the state the cue had, a complete LIVE cue as STANDING (R17,
R18, R20, R145). RETIRE PASSED removes exactly the PASSED cues whose start is earlier than T, on the named channel or on
all, and answers how many; SET STORE THRESHOLD writes the threshold and raises nothing (R19, R12). What is out of range
is refused OUT OF RANGE, and a number not in the map NO SUCH (R8). That the frozen channel keeps its shape is the
model's choice (log 12). -/
def Obligations.RetireRequestsRemoveTheirCues : Prop :=
  ∀ s : State, LinkFree s →
    let refused (i : Instr) (r : Request) (st : Status) : Prop := exec i s = .next { s with link := linkWithAnswer r st [] s }
    let now := s.clock.showTime
    (∀ (n : Nat) (c : Fin 49) (q : Cue), 1 ≤ n → n ≤ 65535 → s.store.find n = some (c, q) →
      let shown : CueState := if q.state = .live ∧ s.channels[c].completeAt now = true then .standing else q.state
      let frozen := { s.channels[c] with
        taken := none, fromVal := s.channels[c].valueAt now, toVal := s.channels[c].valueAt now, origin := now, duration := 0 }
      let freed (v : Voice) : Voice :=
        let w := if v.state = .front then
          { v with fromGain := v.gainAt now, toGain := v.gainAt now, origin := now, duration := 0 } else v
        { w with governing := if v.governing = some n then none else v.governing }
      exec (.retireCue n) s = .next { s with
        store := { s.store with timelines := s.store.timelines.set c (s.store.timelines[c].filter (fun d => d.number != n)) }
        channels := if q.isTaken then s.channels.set c frozen else s.channels
        play := if q.isTaken ∧ c = programme then { s.play with v0 := freed s.play.v0, v1 := freed s.play.v1 } else s.play
        link := linkWithAnswer (.retireCue n) .done (beBytes 1 shown.code) s }) ∧
    refused (.retireCue 0) (.retireCue 0) .outOfRange ∧
    (∀ n : Nat, 1 ≤ n → n ≤ 65535 → s.store.find n = none → refused (.retireCue n) (.retireCue n) .noSuch) ∧
    (∀ (time : Nat) (channel : Option (Fin 49)), time ≤ Config.showTimeMax →
      ∃ t, exec (.retirePassed time (channel.map (·.val))) s = .next t ∧
        t = { s with store := t.store, link := t.link } ∧ t.store.threshold = s.store.threshold ∧
        t.link = linkWithAnswer (.retirePassed time (channel.map (·.val))) .done
          (beBytes 2 (s.store.occupied - t.store.occupied)) s ∧
        ∀ c : Fin 49, t.store.timelines[c] =
          if channel = none ∨ channel = some c then
            s.store.timelines[c].filter (fun q => !(q.state == .passed && q.start < time))
          else s.store.timelines[c]) ∧
    (∀ (time : Nat) (channel : Option Nat), (Request.retirePassed time channel).wf = true →
      Config.showTimeMax < time ∨ (∃ k, channel = some k ∧ 48 < k) →
      refused (.retirePassed time channel) (.retirePassed time channel) .outOfRange) ∧
    ∀ n : Nat, n ≤ 65535 →
      (n ≤ 4095 → exec (.setStoreThreshold n) s = .next { s with
        store := { s.store with threshold := n }, link := linkWithAnswer (.setStoreThreshold n) .done [] s }) ∧
      (4095 < n → refused (.setStoreThreshold n) (.setStoreThreshold n) .outOfRange)

/-! ### Water unit (chapter 4) -/

/-- An accepted SET GROUP (R80, R81, R163): the configuration it carries, a changed pump node's speeds and valve command,
and the dispatch times of a changed lead. CRITICAL_LOST then follows whether some critical group's pump node is not
ONLINE, and its cause enters or leaves the cause set with it (R110, R111). -/
def Obligations.SetGroupWritesTheRecord : Prop :=
  ∀ (a : GroupArgs) (n : Fin 32) (pump : Option (Fin 40)) (valve : Option ValveBinding) (wind : Option (Fin 4)) (s : State),
    LinkFree s → (Request.setGroup a).wf = true → a.group = n.val → a.pumpNode = pump.map (·.val) →
    a.valve = valve.map (fun v => { node := v.node.val, output := v.output.val }) → a.windClass = wind.map (·.val) →
    groupInRange a = true → namesAbsent s pump valve = false → namesWrongKind s pump valve = false →
    boundElsewhere s n pump valve = false →
    let g := s.water.groups[n]
    removesRunningPump s g pump = false → removesOpenValve g valve = false → (a.enabled && curveAllZero g.curve) = false →
    SafeCause.criticalLost.memberOf s.sup.causes = (criticalLostGroup s).isSome →
    ∃ (st : Store) (water : Water),
      let written : State := { s with store := st, water := water, link := linkWithAnswer (.setGroup a) .done [] s }
      let lost := ∃ k : Fin 32, water.groups[k].critical = true ∧
        ∃ i : Fin 40, water.groups[k].pumpNode = some i ∧ (s.node i).state ≠ .online
      (lost → exec (.setGroup a) s = .next (addCause .criticalLost written)) ∧
      (¬lost → exec (.setGroup a) s = .next { written with
        sup := { s.sup with causes := s.sup.causes &&& ~~~SafeCause.criticalLost.bit } }) ∧
      st.threshold = s.store.threshold ∧
      water = { s.water with
        groups := s.water.groups.set n
          { g with
            enabled := a.enabled, critical := a.critical, pumpNode := pump, valve := valve, heightLimit := a.heightLimit,
            lead := a.lead, upStep := a.upStep, downStep := a.downStep, safeDownStep := a.safeDownStep,
            bypass := a.bypass, windClass := wind, ratedPower := a.ratedPower,
            issued := if pump = g.pumpNode then g.issued else 0,
            delivered := if pump = g.pumpNode then g.delivered else 0,
            valveOpen := g.valveOpen && decide (valve = g.valve) && !(g.pumpNode.isSome && pump.isNone),
            flags := if pump = g.pumpNode then g.flags else
              { g.flags with declined := false, lost := pump.any (fun i => (s.node i).state == .lost) } } } ∧
      ∀ c : Fin 49, st.timelines[c] =
        if c = jetChannel n ∧ a.lead ≠ g.lead then
          s.store.timelines[c].map (fun q => { q with dispatch := q.start - a.lead })
        else s.store.timelines[c]

/-- The checks of SET GROUP: a field outside its range, or enabled without a pump node, is refused OUT OF RANGE, and then
come the six checks of R80 in their order, each refusing what the checks before it let through. -/
def Obligations.SetGroupRefusesInOrder : Prop :=
  ∀ (a : GroupArgs) (s : State), LinkFree s → (Request.setGroup a).wf = true →
    let answers (st : Status) : Prop := exec (.setGroup a) s = .next { s with link := linkWithAnswer (.setGroup a) st [] s }
    let steps := [a.upStep, a.downStep, a.safeDownStep]
    let inRange := a.group < 32 ∧ (∀ i, a.pumpNode = some i → i < 40) ∧ (∀ v, a.valve = some v → v.node < 40 ∧ v.output < 8) ∧
      (∀ k, a.windClass = some k → k < 4) ∧ a.heightLimit ≤ 6000 ∧ a.lead ≤ 5000 ∧ (∀ v ∈ steps, 1 ≤ v ∧ v ≤ 200) ∧
      a.bypass ≤ 1000 ∧ a.ratedPower ≤ 2000 ∧ (a.enabled = true → a.pumpNode ≠ none)
    (¬inRange → answers .outOfRange) ∧
    ∀ (n : Fin 32) (pump : Option (Fin 40)) (valve : Option ValveBinding), inRange → a.group = n.val →
      a.pumpNode = pump.map (·.val) → a.valve = valve.map (fun v => { node := v.node.val, output := v.output.val }) →
      let g := s.water.groups[n]
      let named := (pump.toList ++ (valve.map (·.node)).toList)
      if ∃ i ∈ named, (s.node i).state = .absent then answers .noSuch
      else if (∃ i ∈ pump.toList, (s.node i).kind = .valve) ∨ (∃ v ∈ valve.toList, (s.node v.node).kind = .pump) then
        answers .outOfRange
      else if ∃ k : Fin 32, k ≠ n ∧ ((pump ≠ none ∧ s.water.groups[k].pumpNode = pump) ∨
          (valve ≠ none ∧ s.water.groups[k].valve = valve)) then answers .duplicate
      else if (∃ i ∈ g.pumpNode.toList, pump ≠ some i ∧ (s.node i).state ∈ [.joining, .online, .suspect]) ∧
          (0 < g.issued ∨ 0 < g.delivered) then answers .inUse
      else if g.valve ≠ none ∧ valve ≠ g.valve ∧ g.valveOpen = true then answers .inUse
      else if a.enabled = true ∧ ∀ k : Fin 8, g.curve[k] = { height := 0, speed := 0 } then answers .wrongState
      else ∃ t, exec (.setGroup a) s = .next t ∧ ∃ r, finishedAnswer t = some r ∧ r.status = .done

/-- SET CURVE, SET WIND CLASS and SET BUDGET: a curve with heights strictly rising from 0, speeds never falling from 1,
and all in range replaces the group's points, and any other is refused OUT OF RANGE; a wind class with lo below
hi and a budget are written; a group above 31 and a class above 3 are refused OUT OF RANGE (R63, R64, R76). -/
def Obligations.WaterSettingsReplaceTheirRecords : Prop :=
  ∀ s : State, LinkFree s →
    (∀ (n : Fin 32) (curve : Vector CurvePoint 8), (Request.setCurve n.val curve).wf = true →
      ((∀ k : Fin 8, curve[k].height ≤ 6000 ∧ curve[k].speed ≤ 1000) ∧ curve[0].height = 0 ∧ 1 ≤ curve[0].speed ∧
          (∀ j k : Fin 8, j < k → curve[j].height < curve[k].height ∧ curve[j].speed ≤ curve[k].speed) →
        exec (.setCurve n.val curve) s = .next { s with
          water := { s.water with groups := s.water.groups.set n { s.water.groups[n] with curve := curve } }
          link := linkWithAnswer (.setCurve n.val curve) .done [] s }) ∧
      (¬((∀ k : Fin 8, curve[k].height ≤ 6000 ∧ curve[k].speed ≤ 1000) ∧ curve[0].height = 0 ∧ 1 ≤ curve[0].speed ∧
          ∀ j k : Fin 8, j < k → curve[j].height < curve[k].height ∧ curve[j].speed ≤ curve[k].speed) →
        exec (.setCurve n.val curve) s = .next { s with link := linkWithAnswer (.setCurve n.val curve) .outOfRange [] s })) ∧
    (∀ (k : Fin 4) (lo hi floor : Nat), lo ≤ 65535 → hi ≤ 65535 → floor ≤ 65535 →
      (lo < hi ∧ floor ≤ 1000 → exec (.setWindClass k.val lo hi floor) s = .next { s with
        water := { s.water with windClasses := s.water.windClasses.set k { lo := lo, hi := hi, floor := floor } }
        link := linkWithAnswer (.setWindClass k.val lo hi floor) .done [] s }) ∧
      (hi ≤ lo ∨ 1000 < floor → exec (.setWindClass k.val lo hi floor) s = .next { s with
        link := linkWithAnswer (.setWindClass k.val lo hi floor) .outOfRange [] s })) ∧
    (∀ (n : Nat) (curve : Vector CurvePoint 8), (Request.setCurve n curve).wf = true → 32 ≤ n →
      exec (.setCurve n curve) s = .next { s with link := linkWithAnswer (.setCurve n curve) .outOfRange [] s }) ∧
    (∀ k lo hi floor : Nat, (Request.setWindClass k lo hi floor).wf = true → 4 ≤ k →
      exec (.setWindClass k lo hi floor) s = .next { s with
        link := linkWithAnswer (.setWindClass k lo hi floor) .outOfRange [] s }) ∧
    ∀ b : Nat, b ≤ 65535 → exec (.setBudget b) s = .next { s with
      water := { s.water with budget := b }, link := linkWithAnswer (.setBudget b) .done [] s }

/-- R69 and R70: the wind factor of a class, what a factor of 0 does to the valve, and the speed of a height
through a valid curve. -/
def Obligations.WindFactorAndCurveSpeed : Prop :=
  (∀ (k : WindClass) (w : Nat), k.lo < k.hi → k.floor ≤ 1000 →
    (w ≤ k.lo → windFactor k w = 1000) ∧
    (k.hi ≤ w → windFactor k w = k.floor) ∧
    (k.lo < w → w < k.hi → windFactor k w = 1000 - (1000 - k.floor) * (w - k.lo) / (k.hi - k.lo)) ∧
    k.floor ≤ windFactor k w ∧ windFactor k w ≤ 1000) ∧
  (∀ (s : State) (n : Fin 32) (k : Fin 4) (channels : Vector ChannelRec 49), s.water.groups[n].windClass = some k →
    windTerm s s.water.groups[n] =
      some (s.water.groups[n].heightLimit * windFactor s.water.windClasses[k] s.sup.smoothedWind / 1000) ∧
    (windFactor s.water.windClasses[k] s.sup.smoothedWind = 0 → demandedHeight { s with channels := channels } n = 0 →
      (computedGroup s n).capped = 0 ∧
      (computedGroup s n).valveOpen = (computedGroup { s with channels := channels } n).valveOpen)) ∧
  (∀ (curve : Vector CurvePoint 8) (h : Nat), curveValid curve = true →
    curveSpeed curve 0 = 0 ∧
    (curve[7].height ≤ h → curveSpeed curve h = curve[7].speed) ∧
    (h < curve[7].height → ∃! k : Fin 7, curve[k.castSucc].height ≤ h ∧ h < curve[k.succ].height) ∧
    ∀ k : Fin 7, curve[k.castSucc].height ≤ h → h < curve[k.succ].height → 0 < h →
      curveSpeed curve h = curve[k.castSucc].speed + (curve[k.succ].speed - curve[k.castSucc].speed) *
        (h - curve[k.castSucc].height) / (curve[k.succ].height - curve[k.castSucc].height) ∧
      curve[k.castSucc].speed ≤ curveSpeed curve h ∧ curveSpeed curve h ≤ curve[k.succ].speed) ∧
  (∀ (s : State) (n : Fin 32), s.water.groups[n].enabled = false → (computedGroup s n).capped = 0 ∧
    curveSpeed s.water.groups[n].curve (computedGroup s n).capped = 0) ∧
  ∀ (s : State) (n : Fin 32), WaterLaw s → (computedGroup s n).capped ≠ 0 →
    s.water.groups[n].enabled = true ∧ curveValid s.water.groups[n].curve = true

/-- The first attempt of a pump node's SET turn computes its group by the six stages and sends the issued speed (R66 to
R74, R77, R79, R89): the capped height, the target through the curve and the valve limit, the valve command, the slew, the
hold within the budget, and the seven computation flags. So the issued speed rises above the delivered speed by the up-step
at most, in SAFE not at all, and falls by the down-step in force at most; without a confirmed open valve it exceeds neither
the bypass limit nor the slowest fall; and it exceeds the group's claim only within the budget. -/
def Obligations.PumpTurnKeepsTheSpeedLaws : Prop :=
  ∀ (l : Line) (x : Exchange) (n : Fin 32) (s : State), (s.line l).exchange = some x → x.phase = .ready → x.order = [] →
    x.turn = .set → (s.node x.index).kind = .pump → pumpGroup s x.index = some n →
    ∃ t, exec (.attemptStart l) s = .next t ∧
      let g := s.water.groups[n]
      let h := t.water.groups[n]
      let safe := s.clock.state = .safe
      let down := if safe then max g.downStep g.safeDownStep else g.downStep
      let order := orderChars (s.node x.index).address 0 (s.node x.index).sequence (beBytes 2 h.issued)
      let wind := g.windClass.map (fun c =>
        g.heightLimit * windFactor s.water.windClasses[c] s.sup.smoothedWind / 1000)
      let level := if s.sup.low.active = true then some (g.heightLimit * s.sup.settings.levelCap / 1000) else none
      let terms := [h.demanded, g.heightLimit] ++ wind.toList ++ level.toList
      let raw := curveSpeed g.curve h.capped
      let confirmed := ∀ v, g.valve = some v →
        (s.node v.node).state = .online ∧ (s.node v.node).confirmedOpen.getLsbD v.output.val = true
      let fresh :=
        let v := min (max h.target (g.delivered - down)) (g.delivered + g.upStep)
        if safe then min v g.delivered else v
      let claimed (k : Group) : Nat := max k.issued k.delivered
      let rated (k : Group) : Nat := if 0 < k.ratedPower then k.ratedPower else
        match k.pumpNode.bind (fun i => (s.node i).reportedPower) with
        | some p => if p = 0 then 2000 else min p 2000
        | none => 2000
      let estimate (k : Group) (v : Nat) : Nat := rated k * v ^ 3 / 1000000000
      let sum (v : Nat) : Nat := estimate g v + (((List.finRange 32).filter (fun k => k != n && s.water.groups[k].enabled)).map
        (fun k => estimate s.water.groups[k] (claimed s.water.groups[k]))).sum
      let held := s.water.budget ≠ 0 ∧ claimed g < fresh ∧ s.water.budget < sum fresh
      let decides (term : Option Nat) : Prop :=
        ¬safe ∧ g.enabled = true ∧ ∃ v, term = some v ∧ v < g.heightLimit ∧ v < h.demanded ∧ v = h.capped
      t = { s with water := t.water, fieldLines := t.fieldLines, link := t.link } ∧
      t.water = { s.water with groups := s.water.groups.set n h } ∧
      h = { g with
        demanded := h.demanded, capped := h.capped, target := h.target, issued := h.issued, valveOpen := h.valveOpen,
        flags := { h.flags with declined := g.flags.declined, lost := g.flags.lost } } ∧
      t.fieldLines = s.fieldLines.setLine l { s.line l with
        exchange := some { x with order := order, group := some n, phase := .listening }
        sentOrder := order
        sentBreak := false } ∧
      t.link = { s.link with
        pending := if h.flags.budget = true ∧ g.flags.budget = false then s.link.pending ||| Attention.budgetHeld.bit
          else s.link.pending } ∧
      h.demanded = (s.channels[jetChannel n].valueAt s.clock.showTime).r ∧
      (safe ∨ g.enabled = false → h.capped = 0) ∧
      (¬safe → g.enabled = true → h.capped ∈ terms ∧ ∀ v ∈ terms, h.capped ≤ v) ∧
      h.target = (if confirmed then raw else min raw g.bypass) ∧
      h.valveOpen = (if g.valve = none then g.valveOpen else if 0 < h.capped then true
        else if g.delivered ≤ g.bypass then false else g.valveOpen) ∧
      h.issued = (if held then claimed g else fresh) ∧
      (h.flags.safe = true ↔ safe) ∧
      (h.flags.limit = true ↔ ¬safe ∧ g.enabled = true ∧ g.heightLimit < h.demanded ∧ g.heightLimit = h.capped) ∧
      (h.flags.wind = true ↔ decides wind) ∧ (h.flags.level = true ↔ decides level) ∧
      (h.flags.valve = true ↔ h.target < raw) ∧ (h.flags.slew = true ↔ fresh ≠ h.target) ∧ (h.flags.budget = true ↔ held) ∧
      h.issued ≤ g.delivered + g.upStep ∧
      (safe → h.issued ≤ g.delivered) ∧
      g.delivered - down ≤ h.issued ∧
      (∀ v, g.valve = some v →
        ((s.node v.node).state ≠ .online ∨ (s.node v.node).confirmedOpen.getLsbD v.output.val = false) →
        h.issued ≤ max g.bypass (g.delivered - down)) ∧
      (claimed g < h.issued → s.water.budget = 0 ∨ sum h.issued ≤ s.water.budget)

/-! ### Field line controller (chapter 5) -/

/-- The other orders of ATTEMPT_START (R78, R89, R96 to R98): a valve node's mask has a bit for each output whose group
has its valve command OPEN; IDENTIFY follows a break, with sequence bit 0; CONFIGURE carries the hold time;
ZERO carries 0 and brings a bound group's issued speed to 0; a further attempt sends the order as it was built.
Where no attempt is ready nothing happens, which is the model's choice (log 6). -/
def Obligations.AttemptsSendTheirOrders : Prop :=
  ∀ (l : Line) (s : State),
    (∀ x : Exchange, (s.line l).exchange = some x → x.phase = .ready →
      let n := s.node x.index
      let sent (kind : Nat) (sequence : Bool) (payload : List Byte) (brk : Bool) : FieldLines :=
        s.fieldLines.setLine l { s.line l with
          exchange := some { x with order := orderChars n.address kind sequence payload, group := none, phase := .listening }
          sentOrder := orderChars n.address kind sequence payload
          sentBreak := brk }
      (x.order ≠ [] → exec (.attemptStart l) s = .next { s with
        fieldLines := s.fieldLines.setLine l { s.line l with
          exchange := some { x with phase := .listening }
          sentOrder := x.order
          sentBreak := decide (x.turn = .join .identify) } }) ∧
      (x.order = [] → x.turn = .set → n.kind = .valve → ∃ m : Byte,
        exec (.attemptStart l) s = .next { s with fieldLines := sent 0 n.sequence [m] false } ∧
        ∀ o : Fin 8, m.getLsbD o.val = true ↔
          ∃ k : Fin 32, s.water.groups[k].valve = some { node := x.index, output := o } ∧ s.water.groups[k].valveOpen = true) ∧
      (x.order = [] → x.turn = .set → n.kind = .pump → pumpGroup s x.index = none →
        exec (.attemptStart l) s = .next { s with fieldLines := sent 0 n.sequence [0, 0] false }) ∧
      (x.order = [] → x.turn = .join .identify → exec (.attemptStart l) s = .next { s with
        fieldLines := { sent 1 false [] true with nodes := s.fieldLines.nodes.set x.index { n with sequence := false } } }) ∧
      (x.order = [] → x.turn = .join .configure → exec (.attemptStart l) s = .next { s with
        fieldLines := sent 2 n.sequence
          (beBytes 2 (min 65535 ((s.line l).active.roundPeriod * ((s.line l).active.lostLimit + 1)))) false }) ∧
      (x.order = [] → x.turn = .join .zero → n.kind = .valve →
        exec (.attemptStart l) s = .next { s with fieldLines := sent 0 n.sequence [0] false }) ∧
      (x.order = [] → x.turn = .join .zero → n.kind = .pump → exec (.attemptStart l) s = .next { s with
        water := match pumpGroup s x.index with
          | none => s.water
          | some k => { s.water with groups := s.water.groups.set k { s.water.groups[k] with issued := 0 } }
        fieldLines := sent 0 n.sequence [0, 0] false })) ∧
    ((∀ x : Exchange, (s.line l).exchange = some x → x.phase ≠ .ready) → exec (.attemptStart l) s = .next s)

/-- R92: the check byte of every order and every answer. -/
def Obligations.CheckByteOfOrdersAndAnswers : Prop :=
  let shift : Byte → Byte := fun v => if v.getLsbD 7 then (v <<< 1) ^^^ 0x07#8 else v <<< 1
  crc8 [] = 0 ∧
  (∀ (chars : List Byte) (c : Byte), crc8 (chars ++ [c]) = shift^[8] (crc8 chars ^^^ c)) ∧
  (∀ chars : List Byte, crc8 (chars ++ [crc8 chars]) = 0) ∧
  (∀ (before after : List Byte) (c d : Byte), crc8 (before ++ c :: after) = crc8 (before ++ d :: after) → c = d) ∧
  (∀ (address kind : Nat) (sequence : Bool) (payload : List Byte),
    let body := orderHead address kind sequence :: (beBytes 1 payload.length ++ payload)
    (orderChars address kind sequence payload).map (·.data) = body ++ [crc8 body] ∧
    (orderChars address kind sequence payload).map (·.mark) = true :: List.replicate (payload.length + 2) false) ∧
  ∀ (x : Exchange) (n : Node) (chars : List RxChar), (∀ c ∈ chars, c.stopHigh = true) →
    chars.length = declaredLength chars + 3 →
    (chars.map (·.data)).getLast? ≠ some (crc8 (chars.map (·.data)).dropLast) → judge x n chars = .garbled

/-- The judgement of an answer that began, test by test (R91): what each condition says of the characters received.
The third character from the front carries the kind that an IDENTIFY answer reports. -/
def Obligations.AnswersAreJudgedInOrder : Prop :=
  ∀ (x : Exchange) (n : Node) (chars : List RxChar),
    let whole := (∀ c ∈ chars, c.stopHigh = true) ∧ chars.length = declaredLength chars + 3
    let good := whole ∧ checkByteGood chars = true ∧ rxData chars 0 % 32 = n.address
    let fresh := good ∧ flagBit (rxData chars 0) 7 = orderSequence x.order
    let want := match x.turn, n.kind with
      | .join .identify, _ => 3
      | .join .configure, _ => 0
      | _, .pump => 3
      | _, .valve => 2
    let kindAgrees := x.turn = .join .identify → rxData chars 2 = n.kind.code
    (judge x n chars = .garbled ↔
      (∃ c ∈ chars, c.stopHigh = false) ∨ (whole ∧ ¬(checkByteGood chars = true ∧ rxData chars 0 % 32 = n.address))) ∧
    (judge x n chars = .short ↔ (∀ c ∈ chars, c.stopHigh = true) ∧
      (chars.length < declaredLength chars + 3 ∨ (fresh ∧ declaredLength chars < want))) ∧
    (judge x n chars = .overlong ↔ (∀ c ∈ chars, c.stopHigh = true) ∧
      ((3 ≤ chars.length ∧ declaredLength chars + 3 < chars.length) ∨ (fresh ∧ want < declaredLength chars))) ∧
    (judge x n chars = .stale ↔ good ∧ flagBit (rxData chars 0) 7 ≠ orderSequence x.order) ∧
    (judge x n chars = .mismatch ↔ fresh ∧ declaredLength chars = want ∧ ¬kindAgrees) ∧
    (judge x n chars = .declined ↔
      fresh ∧ declaredLength chars = want ∧ kindAgrees ∧ flagBit (rxData chars 0) 5 = true) ∧
    (judge x n chars = .clean ↔
      fresh ∧ declaredLength chars = want ∧ kindAgrees ∧ flagBit (rxData chars 0) 5 = false)

/-- ANSWER_BEGIN begins the answer an attempt waits for. ANSWER_END of a SET turn, with no start pending: a CLEAN answer
brings the node ONLINE with failed rounds 0 and its sequence bit flipped, stores what the answer reports, and the
group that the speed was computed for has it delivered; a DECLINED one stores the report and sets DECLINED
without delivering; and the turn is over (R90, R93 to R95, R77). -/
def Obligations.SetAnswersEndTheTurn : Prop :=
  ∀ (l : Line) (x : Exchange) (s : State), (s.line l).exchange = some x →
    (x.phase = .listening → exec (.answerBegin l) s = .next { s with
      fieldLines := s.fieldLines.setLine l { s.line l with exchange := some { x with phase := .collecting } } }) ∧
    ∀ chars : List RxChar, chars.length ≤ 259 → x.phase = .collecting → x.discard = false → x.turn = .set →
      (s.line l).pendingStart = false →
      let n := s.node x.index
      let clean := judge x n chars = .clean
      clean ∨ judge x n chars = .declined →
      ∃ t, exec (.answerEnd l chars) s = .next t ∧
        t = { s with
          clock := t.clock, water := t.water, fieldLines := t.fieldLines, sup := t.sup, lights := t.lights, play := t.play,
          link := t.link } ∧
        t.link = { s.link with pending := t.link.pending } ∧
        t.node x.index = { n with
          condition := if clean then .clean else .declined
          failedRounds := 0
          state := .online
          sequence := if clean then !n.sequence else n.sequence
          actualSpeed := if n.kind = .pump then rxData chars 2 * 256 + rxData chars 3 else n.actualSpeed
          confirmedOpen := if clean ∧ n.kind = .valve then BitVec.ofNat 8 (rxData chars 2) else n.confirmedOpen
          faultCode := if flagBit (rxData chars 0) 6 then BitVec.ofNat 8 (rxData chars (if n.kind = .pump then 4 else 3))
            else 0 } ∧
        (∀ j : Fin 40, j < x.index ∨ (s.node j).line ≠ l → j ≠ x.index → t.node j = s.node j) ∧
        (∀ m : Line, m ≠ l → t.line m = s.line m) ∧
        (∀ y, (t.line l).exchange = some y → x.index < y.index ∧ y.phase = .ready ∧ y.order = []) ∧
        t.water.windClasses = s.water.windClasses ∧ t.water.budget = s.water.budget ∧
        ∀ k : Fin 32,
          let g := s.water.groups[k]
          let lost := t.water.groups[k].flags.lost
          let served := x.group = some k ∧ g.pumpNode = some x.index
          t.water.groups[k] = if served then
              { g with
                delivered := if clean then g.issued else g.delivered
                flags := { g.flags with declined := !decide clean, lost := lost } }
            else { g with flags := { g.flags with lost := lost } }

/-- ANSWER_END of a join turn, with no start pending (R96 to R98, R93, R95, R79, R65). A CLEAN IDENTIFY answer records the
rated power and goes on to CONFIGURE, a CLEAN CONFIGURE answer goes on to ZERO, and a CLEAN ZERO answer brings the node
ONLINE with NODE_JOINED, its report recorded, a pump group at delivered speed 0 with LOST clear, a valve node with no output
confirmed open; each flips the sequence bit. MISMATCH and DECLINED leave the node LOST at stage IDENTIFY, its countdown at
16, with NODE_LOST. That a ZERO answer counts as the answer to a SET order for DECLINED and for what a DECLINED one
records is the model's reading (log 16). -/
def Obligations.JoinAnswersEndTheTurn : Prop :=
  ∀ (l : Line) (x : Exchange) (stage : JoinStage) (chars : List RxChar) (s : State), (s.line l).exchange = some x →
    x.phase = .collecting → x.discard = false → x.turn = .join stage → (s.line l).pendingStart = false → chars.length ≤ 259 →
    let n := s.node x.index
    let c := judge x n chars
    n.state = .joining → (∀ k, pumpGroup s x.index = some k → n.kind = .pump) → c ∈ [.clean, .mismatch, .declined] →
    let recorded : Node := { n with
      condition := c
      sequence := if c = .clean then !n.sequence else n.sequence
      actualSpeed := if stage = .zero ∧ n.kind = .pump then rxData chars 2 * 256 + rxData chars 3 else n.actualSpeed
      faultCode := if stage ≠ .zero then n.faultCode
        else if flagBit (rxData chars 0) 6 then BitVec.ofNat 8 (rxData chars (if n.kind = .pump then 4 else 3)) else 0 }
    ∃ t, exec (.answerEnd l chars) s = .next t ∧
      t = { s with
        clock := t.clock, water := t.water, fieldLines := t.fieldLines, sup := t.sup, lights := t.lights, play := t.play,
        link := t.link } ∧
      t.link = { s.link with pending := t.link.pending } ∧
      t.node x.index = (match c, stage with
        | .clean, .identify => { recorded with
            stage := .configure, reportedPower := some (rxData chars 3 * 256 + rxData chars 4) }
        | .clean, .configure => { recorded with stage := .zero }
        | .clean, .zero => { recorded with
            state := .online, stage := .identify, failedRounds := 0
            confirmedOpen := if n.kind = .valve then 0 else n.confirmedOpen }
        | .declined, _ => { recorded with state := .lost, stage := .identify, countdown := 16 }
        | _, _ => { n with condition := c, state := .lost, stage := .identify, countdown := 16 }) ∧
      (∀ j : Fin 40, j < x.index ∨ (s.node j).line ≠ l → j ≠ x.index → t.node j = s.node j) ∧
      (∀ m : Line, m ≠ l → t.line m = s.line m) ∧
      (∀ y, (t.line l).exchange = some y → x.index < y.index ∧ y.phase = .ready ∧ y.order = []) ∧
      t.water = (match pumpGroup s x.index with
        | none => s.water
        | some k =>
          let g := s.water.groups[k]
          { s.water with groups := s.water.groups.set k (
            if c = .clean then
              (if stage = .zero then { g with delivered := 0, flags := { g.flags with declined := false, lost := false } } else g)
            else { g with flags := { g.flags with
              lost := true, declined := if c = .declined ∧ stage = .zero then true else g.flags.declined } }) }) ∧
      (c = .clean → stage = .zero → Attention.nodeJoined.memberOf t.link.pending = true) ∧
      (c ≠ .clean → Attention.nodeLost.memberOf t.link.pending = true)

/-- An attempt that has failed: SILENT at REPLY_WAIT_EXPIRY, or GARBLED, SHORT, OVERLONG or STALE at ANSWER_END. Within the
retry limit it is made again with nothing else changed. Otherwise, with no start pending, a SET turn counts a failed round
and leaves the node SUSPECT, or at the lost limit LOST with its countdown at 16, and a join turn leaves it LOST; NODE_LOST is
raised and the bound pump group has its LOST flag set (R90, R93, R94, R98, R79). The attempt of a node dropped meanwhile is
discarded unjudged and the round goes on (R100). -/
def Obligations.FailedAttemptsRetryThenFail : Prop :=
  ∀ (l : Line) (x : Exchange) (s : State), (s.line l).exchange = some x →
    let n := s.node x.index
    let active := (s.line l).active
    (∀ (i : Instr) (c : Condition), x.discard = false →
      (i = .replyWaitExpiry l ∧ x.phase = .listening ∧ c = .silent) ∨
        (∃ chars, i = .answerEnd l chars ∧ chars.length ≤ 259 ∧ x.phase = .collecting ∧ c = judge x n chars ∧
          c ∈ [.garbled, .short, .overlong, .stale]) →
      (x.further < active.retryLimit → exec i s = .next { s with
        fieldLines := { s.fieldLines.setLine l { s.line l with exchange := some { x with further := x.further + 1, phase := .ready } }
          with nodes := s.fieldLines.nodes.set x.index { n with condition := c } } }) ∧
      (active.retryLimit ≤ x.further → (s.line l).pendingStart = false → n.state ≠ .lost →
        let becomesLost := x.turn ≠ .set ∨ active.lostLimit ≤ n.failedRounds + 1
        ∃ t, exec i s = .next t ∧
          t = { s with
            clock := t.clock, water := t.water, fieldLines := t.fieldLines, sup := t.sup, lights := t.lights, play := t.play,
            link := t.link } ∧
          t.link = { s.link with pending := t.link.pending } ∧
          (∀ j : Fin 40, j < x.index ∨ (s.node j).line ≠ l → j ≠ x.index → t.node j = s.node j) ∧
          (∀ m : Line, m ≠ l → t.line m = s.line m) ∧
          (∀ y, (t.line l).exchange = some y → x.index < y.index ∧ y.phase = .ready ∧ y.order = []) ∧
          (x.turn = .set → n.failedRounds + 1 < active.lostLimit →
            t.node x.index = { n with condition := c, failedRounds := n.failedRounds + 1, state := .suspect }) ∧
          (x.turn = .set → active.lostLimit ≤ n.failedRounds + 1 →
            t.node x.index =
              { n with condition := c, failedRounds := n.failedRounds + 1, state := .lost, countdown := 16 }) ∧
          (x.turn ≠ .set →
            t.node x.index = { n with condition := c, state := .lost, stage := .identify, countdown := 16 }) ∧
          (¬becomesLost → t.water = s.water) ∧
          (becomesLost → Attention.nodeLost.memberOf t.link.pending = true ∧
            t.water = match pumpGroup s x.index with
              | none => s.water
              | some k =>
                let g := s.water.groups[k]
                { s.water with groups := s.water.groups.set k { g with flags := { g.flags with lost := true } } }))) ∧
    ∀ i : Instr, x.discard = true → (s.line l).pendingStart = false →
      (i = .replyWaitExpiry l ∧ x.phase = .listening) ∨ (∃ chars, i = .answerEnd l chars ∧ x.phase = .collecting) →
      ∃ t, exec i s = .next t ∧
        t = { s with
          clock := t.clock, fieldLines := t.fieldLines, sup := t.sup, lights := t.lights, play := t.play, link := t.link } ∧
        t.link = { s.link with pending := t.link.pending } ∧
        (∀ j : Fin 40, j ≤ x.index ∨ (s.node j).line ≠ l → t.node j = s.node j) ∧
        (∀ m : Line, m ≠ l → t.line m = s.line m) ∧
        ∀ y, (t.line l).exchange = some y → x.index < y.index ∧ y.phase = .ready ∧ y.order = []

/-- An event that ends a turn while a start is pending leaves what it leaves without the pending start, and where the round
is then over the next round starts at once, as the timer expiry on the IDLE line starts one, but with the timer not
reloaded and the overrun flag as it was; where the round goes on the start stays pending (R87, R88). -/
def Obligations.PendingStartBeginsTheNextRound : Prop :=
  ∀ (l : Line) (i : Instr) (s t : State), i = .replyWaitExpiry l ∨ (∃ chars, i = .answerEnd l chars) →
    (s.line l).pendingStart = true → (∃ j, (s.line l).round = .underWay j) →
    exec i { s with fieldLines := s.fieldLines.setLine l { s.line l with pendingStart := false } } = .next t →
    ((t.line l).round ≠ .idle → exec i s = .next { t with
      fieldLines := t.fieldLines.setLine l { t.line l with pendingStart := true } }) ∧
    ((t.line l).round = .idle → ∃ u, exec (.roundTimerExpiry l) t = .next u ∧ exec i s = .next { u with
      fieldLines := u.fieldLines.setLine l
        { u.line l with timerPeriod := (s.line l).timerPeriod, overrun := (s.line l).overrun } })

/-- ROUND_TIMER_EXPIRY during a round sets pending start and overrun and raises ROUND_OVERRUN. On an IDLE line it commits
the pending settings, counts the round, and begins the turn of the lowest node of the line that has one, the LOST
nodes before it counting down; with no such node the line stays IDLE. Nothing else changes, but that CRITICAL_LOST is worked out
anew where the turn takes a node out of its state (R84, R87, R88, R101, R110). -/
def Obligations.RoundTimerStartsOrOverruns : Prop :=
  ∀ (l : Line) (s : State),
    (∀ i, (s.line l).round = .underWay i → exec (.roundTimerExpiry l) s = .next { s with
      fieldLines := s.fieldLines.setLine l
        { s.line l with timerPeriod := (s.line l).active.roundPeriod, pendingStart := true, overrun := true }
      link := { s.link with pending := s.link.pending ||| Attention.roundOverrun.bit } }) ∧
    ((s.line l).round = .idle →
      ∃ t, exec (.roundTimerExpiry l) s = .next t ∧
        let onLine (j : Fin 40) : Prop := (s.node j).line = l ∧ (s.node j).state ≠ .absent
        let takesTurn (j : Fin 40) : Prop :=
          onLine j ∧ ((s.node j).rejoin = true ∨ (s.node j).state ≠ .lost ∨ (s.node j).countdown ≤ 1)
        let passed (j : Fin 40) : Prop := ∀ i, (t.line l).round = .underWay i → j < i
        let served := { s with fieldLines := t.fieldLines }
        let changed := ∃ i, (t.line l).round = .underWay i ∧ (t.node i).state ≠ (s.node i).state
        let lost := ∃ k : Fin 32, s.water.groups[k].critical = true ∧
          ∃ i : Fin 40, s.water.groups[k].pumpNode = some i ∧ (t.node i).state ≠ .online
        (¬changed → t = served) ∧
        (changed → lost → t = addCause .criticalLost served) ∧
        (changed → ¬lost →
          t = { served with sup := { s.sup with causes := s.sup.causes &&& ~~~SafeCause.criticalLost.bit } }) ∧
        t.line l = { s.line l with
          active := (s.line l).pending, overrun := false, roundCount := ((s.line l).roundCount + 1) % 65536,
          timerPeriod := (s.line l).active.roundPeriod, round := (t.line l).round, exchange := (t.line l).exchange } ∧
        (∀ m : Line, m ≠ l → t.line m = s.line m) ∧
        ((t.line l).round = .idle → (t.line l).exchange = none) ∧
        (∀ j, passed j → ¬takesTurn j) ∧
        (∀ j, t.node j =
          if (t.line l).round = .underWay j then
            (if (s.node j).rejoin = true then
              { s.node j with rejoin := false, countdown := 16, failedRounds := 0, state := .joining, stage := .identify }
            else if (s.node j).state = .lost then { s.node j with countdown := 16, state := .joining, stage := .identify }
            else s.node j)
          else if (t.line l).round = .idle ∨ (∃ i, (t.line l).round = .underWay i ∧ j < i) then
            (if (s.node j).line = l ∧ (s.node j).state = .lost then { s.node j with countdown := (s.node j).countdown - 1 }
            else s.node j)
          else s.node j) ∧
        ∀ i, (t.line l).round = .underWay i → takesTurn i ∧
          (t.line l).exchange = some
            { index := i, order := [], group := none, further := 0, discard := false, phase := .ready,
              turn := if (s.node i).rejoin = true ∨ (s.node i).state = .lost then .join .identify
                else if (s.node i).state = .joining then .join (s.node i).stage else .set })

/-- SET NODE, DROP NODE, REJOIN NODE and SET LINE (R84, R99 to R101): a new node joins from IDENTIFY; a dropped node's
record is the ABSENT one, and the exchange of a node dropped while its turn is on the wire is marked to be discarded, with
the order that the turn sends; a rejoin is a mark; line settings become pending, and active at once on a line with no nodes
and no exchange on the wire. A field out of its range is refused OUT OF RANGE, and each request as its rule says. That a
turn between two attempts is not on the wire, so that the round goes on at once, is the model's choice (log 15). -/
def Obligations.FieldRequestsWriteTheirRecords : Prop :=
  ∀ s : State, LinkFree s → SafeCause.criticalLost.memberOf s.sup.causes = (criticalLostGroup s).isSome →
    let refused (i : Instr) (r : Request) (st : Status) : Prop := exec i s = .next { s with link := linkWithAnswer r st [] s }
    (∀ node line address kind : Nat, node < 256 → line < 256 → address < 256 → kind < 256 →
      ¬(node < 40 ∧ line < 2 ∧ 1 ≤ address ∧ address ≤ 20 ∧ (kind = 1 ∨ kind = 2)) →
      refused (.setNode node line address kind) (.setNode node line address kind) .outOfRange) ∧
    (∀ (i : Fin 40) (l : Line) (k : NodeKind) (address : Nat), 1 ≤ address → address ≤ 20 →
      let answer (st : Status) := linkWithAnswer (.setNode i.val (lineCode l) address k.code) st [] s
      exec (.setNode i.val (lineCode l) address k.code) s = .next (
        if (s.node i).state ≠ .absent then { s with link := answer .inUse }
        else if ∃ j : Fin 40, (s.node j).state ≠ .absent ∧ (s.node j).line = l ∧ (s.node j).address = address then
          { s with link := answer .duplicate }
        else if (match k with | .pump => 32 | .valve => 8) ≤
            (s.fieldLines.nodes.toList.filter (fun n => n.state != .absent && n.kind == k)).length then
          { s with link := answer .outOfRange }
        else { s with
          fieldLines := { s.fieldLines with
            nodes := s.fieldLines.nodes.set i
              { state := .joining, stage := .identify, line := l, address := address, kind := k, sequence := false,
                failedRounds := 0, countdown := 0, rejoin := false, condition := .none, reportedPower := none,
                actualSpeed := 0, confirmedOpen := 0, faultCode := 0 } }
          link := answer .done })) ∧
    (∀ n : Nat, 40 ≤ n → n < 256 → refused (.dropNode n) (.dropNode n) .outOfRange ∧
      refused (.rejoinNode n) (.rejoinNode n) .outOfRange) ∧
    (∀ i : Fin 40,
      let answer (st : Status) := linkWithAnswer (.dropNode i.val) st [] s
      let l := (s.node i).line
      let dropped := { s.fieldLines with nodes := s.fieldLines.nodes.set i Node.absentRecord }
      let bound := ∃ k : Fin 32, s.water.groups[k].pumpNode = some i ∨ ∃ o, s.water.groups[k].valve = some { node := i, output := o }
      let between (x : Exchange) := x.phase = .ready ∧ x.further ≠ 0
      ((s.node i).state = .absent → refused (.dropNode i.val) (.dropNode i.val) .noSuch) ∧
      ((s.node i).state ≠ .absent → bound → refused (.dropNode i.val) (.dropNode i.val) .inUse) ∧
      ((s.node i).state ≠ .absent → ¬bound →
        ((∀ x, (s.line l).exchange = some x → x.index ≠ i) →
          exec (.dropNode i.val) s = .next { s with fieldLines := dropped, link := answer .done }) ∧
        ∀ x, (s.line l).exchange = some x → x.index = i →
          (x.phase ≠ .ready → exec (.dropNode i.val) s = .next { s with
            fieldLines := dropped.setLine l { s.line l with exchange := some { x with discard := true } }
            link := answer .done }) ∧
          (x.phase = .ready → x.further = 0 → ∀ u, exec (.attemptStart l) s = .next u →
            exec (.dropNode i.val) s = .next { s with
              fieldLines := dropped.setLine l { s.line l with
                exchange := some { x with discard := true, order := (u.line l).sentOrder, group := if x.order = [] then none else x.group } }
              link := answer .done }) ∧
          (between x → ∃ t, exec (.dropNode i.val) s = .next t ∧
            t = { s with
              clock := t.clock, fieldLines := t.fieldLines, sup := t.sup, lights := t.lights, play := t.play, link := t.link } ∧
            t.link = { answer .done with pending := t.link.pending } ∧ t.node i = Node.absentRecord ∧
            (∀ m : Line, m ≠ l → t.line m = s.line m) ∧
            ((s.line l).pendingStart = false →
              (∀ j : Fin 40, j < i ∨ (s.node j).line ≠ l → t.node j = s.node j) ∧
              ∀ y, (t.line l).exchange = some y → i < y.index ∧ y.phase = .ready ∧ y.order = [])))) ∧
    (∀ i : Fin 40,
      ((s.node i).state = .absent → refused (.rejoinNode i.val) (.rejoinNode i.val) .noSuch) ∧
      ((s.node i).state ≠ .absent → exec (.rejoinNode i.val) s = .next { s with
        fieldLines := { s.fieldLines with nodes := s.fieldLines.nodes.set i { s.node i with rejoin := true } }
        link := linkWithAnswer (.rejoinNode i.val) .done [] s })) ∧
    ∀ (line : Nat) (c : LineSettings), (Request.setLine line c).wf = true →
      let inRange := (c.prescale = 1 ∨ c.prescale = 8) ∧ c.divisor ≤ 4095 ∧ 10 ≤ c.roundPeriod ∧ c.roundPeriod ≤ 250 ∧
        c.retryLimit ≤ 7 ∧ 1 ≤ c.lostLimit ∧ c.lostLimit ≤ 15 ∧ 1 ≤ c.replyWait ∧ c.replyWait ≤ 50
      (2 ≤ line ∨ ¬inRange → refused (.setLine line c) (.setLine line c) .outOfRange) ∧
      ∀ l : Line, line = lineCode l → inRange →
        let atOnce := (∀ i : Fin 40, (s.node i).line = l → (s.node i).state = .absent) ∧
          ∀ x, (s.line l).exchange = some x → x.phase = .ready ∧ x.further ≠ 0
        (atOnce → exec (.setLine line c) s = .next { s with
          fieldLines := s.fieldLines.setLine l { s.line l with pending := c, active := c }
          link := linkWithAnswer (.setLine line c) .done [] s }) ∧
        (¬atOnce → exec (.setLine line c) s = .next { s with
          fieldLines := s.fieldLines.setLine l { s.line l with pending := c }
          link := linkWithAnswer (.setLine line c) .done [] s })

/-! ### Supervision unit (chapter 6) -/

/-- ANEMOMETER_PULSE counts up to 65,535. GATE_END works out the raw wind with the scale in force, moves the smoothed
wind to it at once when it rises and by an eighth of the difference, rounded up, when it falls, and empties the
count (R105, R106). -/
def Obligations.WindFollowsTheGates : Prop :=
  ∀ s : State,
    exec .anemometerPulse s = .next { s with
      sup := { s.sup with pulseCount := if s.sup.pulseCount < 65535 then s.sup.pulseCount + 1 else 65535 } } ∧
    ∃ smoothed : Nat,
      let raw := if s.sup.pulseCount * s.sup.settings.windScale ≤ 65535 then s.sup.pulseCount * s.sup.settings.windScale
        else 65535
      exec .gateEnd s = .next { s with sup := { s.sup with rawWind := raw, smoothedWind := smoothed, pulseCount := 0 } } ∧
      (s.sup.smoothedWind ≤ raw → smoothed = raw) ∧
      (raw < s.sup.smoothedWind → raw ≤ smoothed ∧ smoothed < s.sup.smoothedWind ∧
        s.sup.smoothedWind - raw ≤ 8 * (s.sup.smoothedWind - smoothed) ∧
        8 * (s.sup.smoothedWind - smoothed) < s.sup.smoothedWind - raw + 8)

/-- The filtered inputs and the supervision settings (R107 to R109, R111, R116). A level at a pin changes the accepted state
only when it is accepted: a basin level at once with a debounce time of 0, else at DEBOUNCE_EXPIRY, the E-STOP level
at ESTOP_FILTER_EXPIRY; LOW-LOW and E-STOP carry their safe causes with them. SET SUPERVISION writes all seven
settings within the ranges of R116 and restarts the silence timer. That it accepts a level that has already waited for a
changed debounce time, and only then (log 14), and that waits are told by the model's clock of milliseconds (log 5), are
the model's choices. -/
def Obligations.InputsAndSettingsTakeEffect : Prop :=
  ∀ s : State,
    let lowLowFollows (accepted : State) (high : Bool) : State := if high then addCause .lowLow accepted else
      { accepted with sup := { accepted.sup with causes := accepted.sup.causes &&& ~~~SafeCause.lowLow.bit } }
    (∀ high : Bool,
      let moved (f : FilteredInput) : FilteredInput := if f.high = high then f else { f with high := high, since := s.now }
      exec (.estopInputChange high) s = .next { s with sup := { s.sup with estop := moved s.sup.estop } } ∧
      (s.sup.settings.debounceSteps ≠ 0 →
        exec (.levelInputChange .low high) s = .next { s with sup := { s.sup with low := moved s.sup.low } } ∧
        exec (.levelInputChange .lowLow high) s = .next { s with sup := { s.sup with lowLow := moved s.sup.lowLow } }) ∧
      (s.sup.settings.debounceSteps = 0 →
        exec (.levelInputChange .low high) s = .next { s with
          sup := { s.sup with low := { moved s.sup.low with active := high } } } ∧
        let accepted := { s with sup := { s.sup with lowLow := { moved s.sup.lowLow with active := high } } }
        exec (.levelInputChange .lowLow high) s =
          .next (if s.sup.lowLow.active = high then accepted else lowLowFollows accepted high))) ∧
    exec (.debounceExpiry .low) s = .next { s with sup := { s.sup with low := { s.sup.low with active := s.sup.low.high } } } ∧
    (
      let accepted := { s with sup := { s.sup with lowLow := { s.sup.lowLow with active := s.sup.lowLow.high } } }
      exec (.debounceExpiry .lowLow) s =
        .next (if s.sup.lowLow.active = s.sup.lowLow.high then s else lowLowFollows accepted s.sup.lowLow.high)) ∧
    (
      let accepted := { s with sup := { s.sup with estop := { s.sup.estop with active := !s.sup.estop.high } } }
      exec .estopFilterExpiry s = .next (
        if s.sup.estop.active = !s.sup.estop.high then s
        else if s.sup.estop.high = false then addCause .eStop accepted else
          { accepted with sup := { accepted.sup with causes := s.sup.causes &&& ~~~SafeCause.eStop.bit } })) ∧
    (LinkFree s → ∀ c : SupSettings, (Request.setSupervision c).wf = true →
      let inRange := c.silenceLimit ≤ 60 ∧ c.debounceSteps ≤ 255 ∧ c.levelCap ≤ 1000 ∧ 1 ≤ c.windScale ∧
        c.windScale ≤ 1000 ∧ c.lightSafeFade ≤ 10000 ∧ c.lightReturnFade ≤ 10000 ∧ c.audioSafeFade ≤ 10000
      let passed (f : FilteredInput) : Prop :=
        c.debounceSteps ≠ s.sup.settings.debounceSteps ∧ c.debounceSteps * 10 ≤ s.now - f.since
      let settled (f : FilteredInput) : FilteredInput := { f with active := if passed f then f.high else f.active }
      let written := { s with
        sup := { s.sup with settings := c, low := settled s.sup.low, lowLow := settled s.sup.lowLow }
        link := { linkWithAnswer (.setSupervision c) .done [] s with
          silenceSince := if c.silenceLimit = 0 then none else some s.now } }
      (¬inRange → exec (.setSupervision c) s = .next { s with
        link := linkWithAnswer (.setSupervision c) .outOfRange [] s }) ∧
      (inRange → exec (.setSupervision c) s = .next (
        if (settled s.sup.lowLow).active = s.sup.lowLow.active then written
        else lowLowFollows written s.sup.lowLow.high)))

/-- What a cause entering the cause set does, and the two causes that are latched (R109, R111 to R113, R38, R126, R149):
outside SAFE the part enters SAFE with the cause seen, the state it had as safe origin, a rising light fade and the
audio safe fade; in SAFE the cause joins both sets; a cause that is there changes nothing. The silence timer latches
LINK_SILENT where it runs and its limit has passed since it was last restarted, by the model's clock of milliseconds (log
5). A silence timer that is stopped, or that a request has restarted since (R115), does not expire; that such an event
then does nothing is the model's choice (log 6). -/
def Obligations.SafeStateIsEntered : Prop :=
  ∀ s : State,
    (∀ c : SafeCause,
      (c.memberOf s.sup.causes = true → addCause c s = s) ∧
      (c.memberOf s.sup.causes = false → s.clock.state = .safe → addCause c s = { s with
        sup := { s.sup with causes := s.sup.causes ||| c.bit, seen := s.sup.seen ||| c.bit } }) ∧
      (c.memberOf s.sup.causes = false → s.clock.state ≠ .safe → addCause c s = { s with
        clock := { s.clock with state := .safe, safeOrigin := s.clock.state }
        sup := { s.sup with causes := s.sup.causes ||| c.bit, seen := s.sup.causes ||| c.bit }
        lights := { s.lights with blend := { s.lights.blend with
          direction := .rising, b0 := s.lights.blend.value, fade := s.sup.settings.lightSafeFade, elapsed := 0 } }
        play := { s.play with
          v0 := if s.sup.settings.audioSafeFade = 0 then Voice.released else s.play.v0
          v1 := if s.sup.settings.audioSafeFade = 0 then Voice.released else s.play.v1
          multiplier := if s.sup.settings.audioSafeFade = 0 then 0 else 1000
          fadeCount := 0
          fadeLength := s.sup.settings.audioSafeFade }
        link := { s.link with pending := s.link.pending ||| Attention.safeEntered.bit } })) ∧
    (LinkFree s → exec .forceSafe s = .next { addCause .forced s with
      link := { linkWithAnswer .forceSafe .done [] s with pending := (addCause .forced s).link.pending } }) ∧
    (∀ t0, s.link.silenceSince = some t0 → exec .silenceTimerExpiry s = .next (
      if 1000 * s.sup.settings.silenceLimit ≤ s.now - t0 then
        addCause .linkSilent { s with link := { s.link with silenceSince := none } }
      else s)) ∧
    (s.link.silenceSince = none → exec .silenceTimerExpiry s = .next s)

/-- CLEAR SAFE in SAFE with no condition cause present (R114, R39): the latched causes leave, the clock is STOPPED or, from
RUNNING or PAUSED, PAUSED, return pending is set, the safe multiplier is 1000 again, and the answer carries the seen
set; otherwise it is refused WRONG STATE with the cause set. -/
def Obligations.ClearSafeEndsSafeWithoutConditions : Prop :=
  ∀ s : State, LinkFree s →
    let condition := ∃ c ∈ [SafeCause.eStop, .lowLow, .clockLost, .criticalLost], c.memberOf s.sup.causes = true
    (s.clock.state = .safe → ¬condition → exec .clearSafe s = .next { s with
      clock := { s.clock with
        state := if s.clock.safeOrigin = .stopped then .stopped else .paused
        returnPending := true }
      sup := { s.sup with
        causes := s.sup.causes &&& ~~~(SafeCause.linkSilent.bit ||| SafeCause.forced.bit) }
      play := { s.play with multiplier := 1000, fadeCount := 0 }
      link := linkWithAnswer .clearSafe .done [s.sup.seen.setWidth 8] s }) ∧
    (s.clock.state ≠ .safe ∨ condition → exec .clearSafe s = .next { s with
      link := linkWithAnswer .clearSafe .wrongState [s.sup.causes.setWidth 8] s })

/-! ### Light unit (chapter 7) -/

/-- SET OUTPUT SENSE gives a sense once and is refused SET ONCE with the sense in force after; SET HEAD writes a head
whose outputs are distinct and named by no other head, and is refused DUPLICATE otherwise; SET SAFE SCENE writes the
scene; SET MASTER clamps at 1000 and answers the value set. What is out of range, and a head enabled without an
assignment, is refused OUT OF RANGE before any other check (R120, R122, R123, R124). -/
def Obligations.LightRequestsWriteTheirRecords : Prop :=
  ∀ s : State, LinkFree s →
    let refused (i : Instr) (r : Request) : Prop := exec i s = .next { s with link := linkWithAnswer r .outOfRange [] s }
    (∀ o x : Nat, o < 256 → x < 256 → 64 ≤ o ∨ (x ≠ 1 ∧ x ≠ 2) → refused (.setOutputSense o x) (.setOutputSense o x)) ∧
    (∀ a : HeadArgs, (Request.setHead a).wf = true →
      let outputs := (a.outputs.map (fun o => [o.r, o.g, o.b] ++ o.w.toList)).getD []
      16 ≤ a.head ∨ 2 ≤ a.response ∨ (∃ o ∈ outputs, 64 ≤ o) ∨ (a.enabled = true ∧ a.outputs = none) →
      refused (.setHead a) (.setHead a)) ∧
    (∀ l : Levels, (Request.setSafeScene l).wf = true → (∃ v ∈ [l.r, l.g, l.b, l.w], 4095 < v) →
      refused (.setSafeScene l) (.setSafeScene l)) ∧
    (∀ (o : Fin 64) (x : Sense), x ≠ .unset →
      (s.lights.outputs[o].sense = .unset → exec (.setOutputSense o.val x.code) s = .next { s with
        lights := { s.lights with outputs := s.lights.outputs.set o { s.lights.outputs[o] with sense := x } }
        link := linkWithAnswer (.setOutputSense o.val x.code) .done [] s }) ∧
      (s.lights.outputs[o].sense ≠ .unset → exec (.setOutputSense o.val x.code) s = .next { s with
        link := linkWithAnswer (.setOutputSense o.val x.code) .setOnce (beBytes 1 s.lights.outputs[o].sense.code) s })) ∧
    (∀ (n : Fin 16) (enabled : Bool) (outputs : Option HeadOutputs) (response : Response),
      (enabled = true → outputs.isSome = true) →
      let args : HeadArgs :=
        { head := n.val, enabled := enabled, response := response.code,
          outputs := outputs.map (fun a => { r := a.r.val, g := a.g.val, b := a.b.val, w := a.w.map (·.val) }) }
      let distinct := ∀ a, outputs = some a → ([a.r, a.g, a.b] ++ a.w.toList).Nodup ∧
        ∀ k : Fin 16, k ≠ n → ∀ b, s.lights.heads[k].outputs = some b →
          ∀ o ∈ [a.r, a.g, a.b] ++ a.w.toList, o ∉ [b.r, b.g, b.b] ++ b.w.toList
      (distinct → exec (.setHead args) s = .next { s with
        lights := { s.lights with
          heads := s.lights.heads.set n { enabled := enabled, outputs := outputs, response := response } }
        link := linkWithAnswer (.setHead args) .done [] s }) ∧
      (¬distinct → exec (.setHead args) s = .next { s with link := linkWithAnswer (.setHead args) .duplicate [] s })) ∧
    (∀ l : Levels, l.r ≤ 4095 → l.g ≤ 4095 → l.b ≤ 4095 → l.w ≤ 4095 → exec (.setSafeScene l) s = .next { s with
      lights := { s.lights with scene := l }, link := linkWithAnswer (.setSafeScene l) .done [] s }) ∧
    ∀ m : Nat, m ≤ 65535 → exec (.setMaster m) s = .next { s with
      lights := { s.lights with master := if m ≤ 1000 then m else 1000 }
      link := linkWithAnswer (.setMaster m) .done (beBytes 2 (if m ≤ 1000 then m else 1000)) s }

/-- A light update (R125, R128, R129): the blend goes one millisecond on, and every output's buffered code is 0 where it
is UNSET or carries no colour of an enabled head, and otherwise the code of that colour's level, mixed from the cue
level under the master and the safe scene. That a millisecond of the model's clock passes is the model's choice
(log 5). -/
def Obligations.LightUpdateWritesEveryCode : Prop :=
  ∀ s : State, ∃ t, exec .lightUpdate s = .next t ∧
    let u := s.lights
    let b := u.blend
    let e := if b.elapsed = 10000 then b.elapsed else b.elapsed + 1
    let mix := match b.direction with
      | .rising => if b.fade ≤ e then 1000 else b.b0 + (1000 - b.b0) * e / b.fade
      | .falling => if b.fade ≤ e then 0 else b.b0 - b.b0 * e / b.fade
    let level (cue scene : Nat) := (cue * u.master / 1000 * (1000 - mix) + scene * mix) / 1000
    t = { s with lights := t.lights, now := s.now + 1 } ∧
    t.lights = { u with blend := { b with elapsed := e, value := mix }, outputs := t.lights.outputs } ∧
    ∀ o : Fin 64,
      t.lights.outputs[o] = { u.outputs[o] with buffered := t.lights.outputs[o].buffered } ∧
      (u.outputs[o].sense = .unset → t.lights.outputs[o].buffered = 0) ∧
      ((∀ (h : Fin 16) (a : HeadOutputs), u.heads[h].enabled = true → u.heads[h].outputs = some a →
        o ∉ [a.r, a.g, a.b] ++ a.w.toList) → t.lights.outputs[o].buffered = 0) ∧
      ((namedOutputs u).Nodup → u.outputs[o].sense ≠ .unset → ∀ (h : Fin 16) (a : HeadOutputs),
        u.heads[h].enabled = true → u.heads[h].outputs = some a →
        let cue := s.channels[headChannel h].valueAt s.clock.showTime
        let code (l : Nat) := match u.heads[h].response with
          | .linear => l
          | .square => l * l / 4095
        (a.r = o → t.lights.outputs[o].buffered = code (level cue.r u.scene.r)) ∧
        (a.g = o → t.lights.outputs[o].buffered = code (level cue.g u.scene.g)) ∧
        (a.b = o → t.lights.outputs[o].buffered = code (level cue.b u.scene.b)) ∧
        (a.w = some o → t.lights.outputs[o].buffered = code (level cue.w u.scene.w)))

/-- A PWM frame boundary commits all buffered codes together and drives every output whose sense is set (R120, R130). The
generator gives a driven output as many active counts in the 16 periods of 256 counts as its code says, in the
extra pattern of R132. -/
def Obligations.PwmFrameCommitsAndSpreadsCodes : Prop :=
  (∀ s : State, ∃ t, exec .pwmFrameBoundary s = .next t ∧
    t = { s with lights := { s.lights with outputs := t.lights.outputs } } ∧
    ∀ o : Fin 64, t.lights.outputs[o] = { s.lights.outputs[o] with
      committed := s.lights.outputs[o].buffered, driven := decide (s.lights.outputs[o].sense ≠ .unset) }) ∧
  (∀ code p : Nat, p < 16 → activeCounts code p = code / 16 +
    (if (code % 2 = 1 ∧ p = 7) ∨ (code / 2 % 2 = 1 ∧ p ∈ [3, 11]) ∨ (code / 4 % 2 = 1 ∧ p ∈ [1, 5, 9, 13]) ∨
      (code / 8 % 2 = 1 ∧ p ∈ [0, 2, 4, 6, 8, 10, 12, 14]) then 1 else 0)) ∧
  (∀ code : Nat, ((List.range 16).map (activeCounts code)).sum = code) ∧
  ∀ o : Output, o.committed ≤ 4095 →
    (o.driven = false → ∀ p count, pinLevel o p count = none) ∧
    (o.driven = true → o.sense ≠ .unset →
      ((List.range 16).map (fun p =>
        ((List.range 256).filter (fun count => pinLevel o p count == some (o.sense == .activeHigh))).length)).sum = o.committed)

/-- The sense of an output, once set, is kept until a pin reset; committed codes and driven pins change only at PWM frame
boundaries, buffered codes only at light updates, and all of them at a pin reset (R120, R129, R130). -/
def Obligations.LightOutputsChangeOnlyAtTheirEvents : Prop :=
  ∀ (i : Instr) (s t : State), exec i s = .next t → (∀ cause, i ≠ .pinReset cause) → ∀ o : Fin 64,
    (s.lights.outputs[o].sense ≠ .unset → t.lights.outputs[o].sense = s.lights.outputs[o].sense) ∧
    (i ≠ .pwmFrameBoundary → t.lights.outputs[o].committed = s.lights.outputs[o].committed ∧
      t.lights.outputs[o].driven = s.lights.outputs[o].driven) ∧
    (i ≠ .lightUpdate → t.lights.outputs[o].buffered = s.lights.outputs[o].buffered)

/-! ### Playback unit (chapter 8) -/

/-- DEFINE SEGMENT, REOPEN SEGMENT and DROP SEGMENT, with their ranges and then their checks in order (R136, R137,
R140). -/
def Obligations.SegmentRequestsKeepTheirChecks : Prop :=
  (∀ (s : State) (n first length : Nat) (loop : Option Nat), LinkFree s →
    let refused (i : Instr) (r : Request) : Prop := exec i s = .next { s with link := linkWithAnswer r .outOfRange [] s }
    ((Request.defineSegment n first length loop).wf = true →
      64 ≤ n ∨ 33554432 ≤ first ∨ length = 0 ∨ 33554432 < length ∨ (∃ l, loop = some l ∧ length ≤ l) →
      refused (.defineSegment n first length loop) (.defineSegment n first length loop)) ∧
    (64 ≤ n → n < 256 →
      refused (.reopenSegment n) (.reopenSegment n) ∧ refused (.dropSegment n) (.dropSegment n))) ∧
  ∀ (s : State) (k : Fin 64), LinkFree s →
    let g := s.play.segments[k]
    let written (r : Request) (x : Segment) : State := { s with
      play := { s.play with segments := s.play.segments.set k x }, link := linkWithAnswer r .done [] s }
    let refused (r : Request) (st : Status) : State := { s with link := linkWithAnswer r st [] s }
    let referenced := (∃ q ∈ s.store.timelines[programme], q.payload.segment? = some k) ∨
      ∃ v ∈ [s.play.v0, s.play.v1], v.state ≠ .idle ∧ v.segment = some k
    (∀ (first length : Nat) (loop : Option Nat), first < 33554432 → 1 ≤ length → length ≤ 33554432 →
      (∀ l, loop = some l → l < length) →
      let r := Request.defineSegment k.val first length loop
      exec (.defineSegment k.val first length loop) s = .next (
        if g.state ≠ .empty then refused r .wrongState
        else if 33554432 < first + length then refused r .outOfRange
        else if ∃ j : Fin 64, j ≠ k ∧ s.play.segments[j].state ≠ .empty ∧
            first < s.play.segments[j].first + s.play.segments[j].length ∧ s.play.segments[j].first < first + length then
          refused r .overlap
        else written r { state := .filling, first := first, length := length, loopStart := loop })) ∧
    (g.state = .empty → exec (.reopenSegment k.val) s = .next (refused (.reopenSegment k.val) .noSuch) ∧
      exec (.dropSegment k.val) s = .next (refused (.dropSegment k.val) .noSuch)) ∧
    (g.state ≠ .empty → referenced → exec (.reopenSegment k.val) s = .next (refused (.reopenSegment k.val) .referenced) ∧
      exec (.dropSegment k.val) s = .next (refused (.dropSegment k.val) .referenced)) ∧
    (g.state ≠ .empty → ¬referenced →
      exec (.reopenSegment k.val) s = .next (
        if g.state = .filling then refused (.reopenSegment k.val) .wrongState
        else written (.reopenSegment k.val) { g with state := .filling }) ∧
      exec (.dropSegment k.val) s = .next (written (.dropSegment k.val) Segment.emptyRecord))

/-- R139: FINISH SEGMENT. -/
def Obligations.FinishSegmentMakesItReady : Prop :=
  (∀ (n : Nat) (s : State), LinkFree s → 63 < n → n < 256 → exec (.finishSegment n) s = .next { s with
    link := linkWithAnswer (.finishSegment n) .outOfRange [] s }) ∧
  (∀ (k : Fin 64) (s : State), LinkFree s →
    (s.play.segments[k].state = .empty → exec (.finishSegment k.val) s = .next { s with
      link := linkWithAnswer (.finishSegment k.val) .noSuch [] s }) ∧
    (s.play.segments[k].state = .ready → exec (.finishSegment k.val) s = .next { s with
      link := linkWithAnswer (.finishSegment k.val) .wrongState [] s }) ∧
    (s.play.segments[k].state = .filling → exec (.finishSegment k.val) s = .next { s with
      play := { s.play with segments := s.play.segments.set k { s.play.segments[k] with state := .ready } }
      link := linkWithAnswer (.finishSegment k.val) .done [] s })) ∧
  ∀ (k : Fin 64) (s : State), LinkFree s → s.play.segments[k].state = .ready →
    (∀ (a : CueArgs) (gain : Nat) (t : State) (r : Answer), (Request.placeCue a).wf = true → a.channel = 48 →
      readPayload programme a.payload = some (.play k gain) → exec (.placeCue a) s = .next t → finishedAnswer t = some r →
      r.status ≠ .unready) ∧
    ∀ (offset count : Nat) (frames : List Frame), 1 ≤ count → count ≤ 256 → frames.length = count → offset < 33554432 →
      exec (.loadFrames k.val offset count frames) s = .next { s with
        link := linkWithAnswer (.loadFrames k.val offset count frames) .protected_ [] s }

/-- LOAD FRAMES into a FILLING segment with room begins to write at the segment's first frame plus the offset, without
an answer; at LOAD_FRAMES_WRITTEN the frames stand in sample memory in their order, every byte outside them is as it
was, and the DONE answer is placed (R138, R156, 11.6). A segment above 63, a count of 0 and an offset above 33,554,431
are refused OUT OF RANGE; a count above 256 does not fit the link's 1,040 bytes and is refused BAD LENGTH (R155,
R164). That a run of frames outside memory would stop the part is for
states that no run reaches (log 25). -/
def Obligations.LoadedFramesStandInMemory : Prop :=
  (∀ (n offset count : Nat) (frames : List Frame) (s : State), LinkFree s →
    let r := Request.loadFrames n offset count frames
    r.wf = true → 64 ≤ n ∨ count = 0 ∨ 33554432 ≤ offset →
    exec (.loadFrames n offset count frames) s = .next { s with link := linkWithAnswer r .outOfRange [] s }) ∧
  (∀ (rest : List Byte) (s : State), LinkFree s → 256 < field (rest.drop 2) 5 2 →
    ∃ t, exec (.sendFrame (0x39#8 :: rest)) s = .next t ∧
      finishedAnswer t = some { echo := 0x39#8, status := .badLength, data := [] }) ∧
  (∀ (k : Fin 64) (offset count : Nat) (frames : List Frame) (s : State), LinkFree s →
    1 ≤ count → count ≤ 256 → frames.length = count → offset < 33554432 →
    let g := s.play.segments[k]
    let r := Request.loadFrames k.val offset count frames
    exec (.loadFrames k.val offset count frames) s = .next { s with
      link :=
        if g.state = .empty then linkWithAnswer r .noSuch [] s
        else if g.state = .ready then linkWithAnswer r .protected_ [] s
        else if g.length < offset + count then linkWithAnswer r .outOfRange [] s
        else { linkWithRequest r s with state := .handling (.writing (g.first + offset) frames) } }) ∧
  ∀ (first : Nat) (frames : List Frame) (s : State), s.link.state = .handling (.writing first frames) →
    (first + frames.length ≤ 33554432 → ∃ t, exec .loadFramesWritten s = .next t ∧
      t = { s with
        play := { s.play with memory := t.play.memory }
        link := { s.link with
          state := .answerReady
          answer := some { echo := s.link.request.headD 0, status := .done, data := [] }
          rowDue := false } } ∧
      (∀ (j : Nat) (f : Frame), frames[j]? = some f → t.play.frameAt (first + j) = f) ∧
      ∀ a : Nat, a < 4 * first ∨ 4 * (first + frames.length) ≤ a → t.play.byteAt a = s.play.byteAt a) ∧
    (33554432 < first + frames.length → exec .loadFramesWritten s = .fault .noSuchFrame)

/-- SET AUDIO (R36, R151): in STOPPED a change to FOLLOW starts the word-clock loss timer and a change to MASTER stops it
and makes CLOCK_LOST false; in every other state a change of mode is refused WRONG STATE; the output format alone
changes in every state; a code of neither field is refused OUT OF RANGE. The two playback events that AUDIO_FRAME meets
itself (R147, R149): while the voices play, a voice whose position has reached the length of its segment loops or is
released, and a voice that is held is left alone; and the safe fade that has reached 0 releases both voices. What the
events do where AUDIO_FRAME has acted already, nothing, is the model's choice (log 4). -/
def Obligations.SetAudioAndPlaybackEndsAct : Prop :=
  (∀ (m : ClockMode) (f : OutputFormat) (s : State), LinkFree s →
    let answer (st : Status) := linkWithAnswer (.setAudio m.code f.code) st [] s
    (m = s.clock.mode → exec (.setAudio m.code f.code) s = .next { s with
      play := { s.play with format := f }, link := answer .done }) ∧
    (m ≠ s.clock.mode → s.clock.state ≠ .stopped → exec (.setAudio m.code f.code) s = .next { s with
      link := answer .wrongState }) ∧
    (m ≠ s.clock.mode → s.clock.state = .stopped → m = .follow → exec (.setAudio m.code f.code) s = .next { s with
      clock := { s.clock with mode := .follow, lossTimerRunning := true }
      play := { s.play with format := f }
      link := answer .done }) ∧
    (m ≠ s.clock.mode → s.clock.state = .stopped → m = .master → exec (.setAudio m.code f.code) s = .next { s with
      clock := { s.clock with mode := .master, lossTimerRunning := false }
      sup := { s.sup with causes := s.sup.causes &&& ~~~SafeCause.clockLost.bit }
      play := { s.play with format := f }
      link := answer .done })) ∧
  (∀ (m f : Nat) (s : State), LinkFree s → m < 256 → f < 256 → 2 ≤ m ∨ 2 ≤ f →
    exec (.setAudio m f) s = .next { s with link := linkWithAnswer (.setAudio m f) .outOfRange [] s }) ∧
  ∀ s : State,
    let ended := s.play.multiplier = 0 ∨ 1000 ≤ 1000 * s.play.fadeCount / (48 * s.play.fadeLength)
    let voicesPlay := s.clock.state = .running ∨ (s.clock.state = .safe ∧ ¬ended ∧ s.clock.safeOrigin ≠ .paused)
    (∀ (id : VoiceId) (k : Fin 64),
      let v := s.play.voice id
      let atEnd := voicesPlay ∧ v.state ≠ .idle ∧ s.play.segments[k].length ≤ v.position
      v.segment = some k →
      (atEnd → exec (.segmentEnd id) s = .next { s with
        play := s.play.setVoice id (match s.play.segments[k].loopStart with
          | some l => { v with position := l }
          | none => Voice.released) }) ∧
      (¬atEnd → exec (.segmentEnd id) s = .next s)) ∧
    (s.clock.state = .safe → ended → exec .safeFadeEnd s = .next { s with
      play := { s.play with v0 := Voice.released, v1 := Voice.released, multiplier := 0 } }) ∧
    (s.clock.state ≠ .safe ∨ ¬ended → exec .safeFadeEnd s = .next s)

/-- An audio frame (R26, R37, R142, R146, R147, R149, R151), in a state where R136 and R137 hold of voices and segments. The
frame phase counts it, the 48th making a tick due (that it waits is the model's choice, log 3). STOPPED and PAUSED
send silence and hold the voices; RUNNING mixes the two voices, and SAFE mixes them under the falling multiplier,
holds them with safe origin PAUSED, and releases them where the multiplier is 0. -/
def Obligations.AudioFrameMixesTheVoices : Prop :=
  ∀ s : State, PlaybackLaw s → ∃ t, exec .audioFrame s = .next t ∧
    let p := s.play
    let now := s.clock.showTime
    let full := s.clock.framePhase + 1 = 48
    let m := if p.multiplier = 0 then 0 else 1000 - 1000 * p.fadeCount / (48 * p.fadeLength)
    let released (v : Voice) : Prop := v.releaseAtZero = true ∧ v.gainAt now = 0
    let part (v : Voice) (side : Frame → Sample) (scale : Nat) : Int := match v.segment with
      | none => 0
      | some k => if v.state = .idle ∨ released v then 0 else
        Int.tdiv (Int.tdiv ((side (p.frameAt (p.segments[k].first + v.position))).toInt * v.gainAt now) 1000 * scale) 1000
    let mix (side : Frame → Sample) (scale : Nat) : Int :=
      max (-32768) (min 32767 (part p.v0 side scale + part p.v1 side scale))
    let mixed (scale : Nat) : Frame := match p.format with
      | .stereo => { left := BitVec.ofInt 16 (mix Frame.left scale), right := BitVec.ofInt 16 (mix Frame.right scale) }
      | .mono =>
        let both := BitVec.ofInt 16 (Int.tdiv (mix Frame.left scale + mix Frame.right scale) 2)
        { left := both, right := both }
    let next (v : Voice) : Voice := match v.segment with
      | none => v
      | some k =>
        if v.state = .idle then v
        else if released v then Voice.released
        else if v.position + 1 < p.segments[k].length then { v with position := v.position + 1 }
        else match p.segments[k].loopStart with
          | some l => { v with position := l }
          | none => Voice.released
    t = { s with clock := t.clock, sup := t.sup, play := t.play } ∧
    t.clock = { s.clock with
      framePhase := if full then 0 else s.clock.framePhase + 1
      ticksDue := if full then s.clock.ticksDue + 1 else s.clock.ticksDue
      lossTimerRunning := if s.clock.mode = .follow then true else s.clock.lossTimerRunning } ∧
    t.sup = (if s.clock.mode = .follow then { s.sup with causes := s.sup.causes &&& ~~~SafeCause.clockLost.bit } else s.sup) ∧
    t.play = match s.clock.state with
      | .stopped | .paused => { p with frameSent := Frame.silence }
      | .running => { p with frameSent := mixed 1000, v0 := next p.v0, v1 := next p.v1 }
      | .safe =>
        if m = 0 then { p with frameSent := Frame.silence, multiplier := 0, v0 := Voice.released, v1 := Voice.released }
        else if s.clock.safeOrigin = .paused then
          { p with frameSent := Frame.silence, multiplier := m, fadeCount := p.fadeCount + 1 }
        else
          { p with frameSent := mixed m, multiplier := m, fadeCount := p.fadeCount + 1, v0 := next p.v0, v1 := next p.v1 }

/-- What the field lines and the audio wires carry, bit by bit (R85, R148). A character is a start bit, its data least
significant bit first, its mark bit and a stop bit, and reads back as what was sent; an IDENTIFY order follows 20 low bits
and one idle character; the driver enable is asserted over every bit but that idle character's, where it is left free (log
30); after the last bit the transmit output stands at the idle level, high (log 33), with the driver enable inactive. Each half of an audio frame carries 0, then its side's sample most significant bit first, then 0, as far as the
half goes; in MASTER mode a half has 32 periods and the word clock is low for the left half and high for the right; with no
word clock from the rack the data wire holds 0. The part drives the bit clock in MASTER mode only, low and then high in each
of a frame's 64 periods, and the data wire goes to its next bit at each falling edge of the bit clock and stays at a rising
one. -/
def Obligations.WiresCarryTheirBits : Prop :=
  (∀ c : TxChar, c.bits.length = 11 ∧ c.bits[0]? = some false ∧ c.bits[9]? = some c.mark ∧ c.bits[10]? = some true ∧
    (∀ k : Nat, k < 8 → c.bits[k + 1]? = some (c.data.getLsbD k)) ∧
    RxChar.ofBits c.bits = { data := c.data, mark := c.mark, stopHigh := true }) ∧
  (∀ r : LineRec,
    let before := if r.sentBreak then 31 else 0
    r.sentBits.length = before + 11 * r.sentOrder.length ∧
    (r.sentBreak = true → ∀ k : Nat, k < 31 → r.sentBits[k]? = some (decide (20 ≤ k))) ∧
    (∀ (j k : Nat) (c : TxChar), r.sentOrder[j]? = some c → k < 11 → r.sentBits[before + 11 * j + k]? = c.bits[k]?) ∧
    r.driverEnable.length = r.sentBits.length ∧
    ∀ k : Nat, k < r.sentBits.length → ¬(r.sentBreak = true ∧ 20 ≤ k ∧ k < 31) → r.driverEnable[k]? = some true) ∧
  (∀ (r : LineRec) (k : Nat),
    (k < r.sentBits.length → r.sentBits[k]? = some (r.transmit k) ∧ r.driverEnable[k]? = some (r.driverActive k)) ∧
    (r.sentBits.length ≤ k → r.transmit k = true ∧ r.driverActive k = false)) ∧
  ∀ (s : State) (rack : Option (Nat × Nat)),
    let sample (x : Sample) (k : Nat) : Bool := if 1 ≤ k ∧ k ≤ 16 then x.getMsbD (k - 1) else false
    s.halfPeriods rack = (if s.clock.mode = .master then some (32, 32) else rack) ∧
    (∀ left right : Nat, s.halfPeriods rack = some (left, right) →
      (∀ k : Nat, k < left → s.dataWire rack k = sample s.play.frameSent.left k) ∧
      (∀ k : Nat, k < right → s.dataWire rack (left + k) = sample s.play.frameSent.right k)) ∧
    (s.halfPeriods rack = none → ∀ k : Nat, s.dataWire rack k = false) ∧
    (∀ k : Nat, s.wordClockDriven k = if s.clock.mode = .master then some (decide (32 ≤ k % 64)) else none) ∧
    (∀ k : Nat, s.bitClockDriven k = if s.clock.mode = .master then some (decide (k % 2 = 1)) else none) ∧
    s.dataWireAfter rack [] = s.dataWire rack 0 ∧
    (∀ (levels : List Bool) (a b : Bool),
      s.dataWireAfter rack (levels ++ [a, b]) =
        s.dataWire rack (fallingEdges (levels ++ [a]) + if a = true ∧ b = false then 1 else 0)) ∧
    ∀ k : Nat, k < 128 → s.dataWireAfter rack ((bitClockFrame 64).take (k + 1)) = s.dataWire rack (k / 2)

/-! ### RESTART and the pin reset (9.7) -/

/-- RESTART (R162, R7, R40, R42, R118): the show is emptied, the latched safe causes, the pending attention causes and show
time are cleared, and everything else is kept; the clock is STOPPED, out of SAFE with return pending set, or stays
in SAFE with safe origin STOPPED while a condition is present. That show ticks due are dropped (log 3) and that a
RESTART that ends SAFE keeps the safe origin (log 27) are the model's choices. -/
def Obligations.RestartEmptiesTheShow : Prop :=
  ∀ s : State, LinkFree s →
    let safe := s.clock.state = .safe
    let condition := ∃ c ∈ [SafeCause.eStop, .lowLow, .clockLost, .criticalLost], c.memberOf s.sup.causes = true
    exec .restart s = .next { s with
      store := { s.store with timelines := Vector.replicate 49 [] }
      clock := { s.clock with
        state := if safe ∧ condition then .safe else .stopped
        showTime := 0
        framePhase := 0
        ticksDue := 0
        safeOrigin := if safe ∧ condition then .stopped else s.clock.safeOrigin
        returnPending := if safe then true else s.clock.returnPending }
      channels := Vector.replicate 49 ChannelRec.reset
      sup := { s.sup with causes := s.sup.causes &&& ~~~(SafeCause.linkSilent.bit ||| SafeCause.forced.bit) }
      play := { s.play with
        v0 := Voice.released
        v1 := Voice.released
        multiplier := if safe ∧ ¬condition then 1000 else s.play.multiplier
        fadeCount := if safe ∧ ¬condition then 0 else s.play.fadeCount }
      link := { linkWithAnswer .restart .done [] s with pending := 0, lastReset := .restart } }

/-- A pin reset (R154, R118, 8.9): every record takes its reset value, the accepted input states are loaded from the
levels, both lines stand at the idle level with the driver enable inactive (R83), sample memory is kept by the RESET input
where no load is under way, and an E-STOP or LOW-LOW level found
active puts the part into SAFE with origin STOPPED. What power being applied makes of sample memory (log 8), that
input levels, the queue and the model's clock are kept (log 26), and the values of the model's own output latches
(log 28) are the model's choices. -/
def Obligations.PinResetRestoresEveryRecord : Prop :=
  ∀ (cause : PinResetCause) (s : State), ∃ t, exec (.pinReset cause) s = .next t ∧
    let stops := s.sup.estop.high = false
    let dry := s.sup.lowLow.high = true
    let causes := (if stops then SafeCause.eStop.bit else 0) ||| (if dry then SafeCause.lowLow.bit else 0)
    t.store = Store.reset ∧ t.channels = Vector.replicate 49 ChannelRec.reset ∧ t.water = Water.reset ∧
    t.fieldLines = FieldLines.reset ∧
    (∀ (l : Line) (k : Nat), (t.line l).transmit k = idleLevel ∧ (t.line l).driverActive k = false) ∧ t.now = s.now ∧ t.resets = s.resets + 1 ∧ t.pending = s.pending ∧
    t.clock = { Clock.reset with state := if stops ∨ dry then .safe else .stopped } ∧
    t.sup = { Supervision.reset with
      low := { high := s.sup.low.high, active := s.sup.low.high, since := s.now }
      lowLow := { high := s.sup.lowLow.high, active := s.sup.lowLow.high, since := s.now }
      estop := { high := s.sup.estop.high, active := !s.sup.estop.high, since := s.now }
      causes := causes
      seen := causes } ∧
    t.lights = { Lights.reset with
      blend := if stops ∨ dry then { direction := .rising, b0 := 0, fade := 2000, elapsed := 0, value := 0 } else Blend.reset } ∧
    t.play = { Playback.reset with
      memory := t.play.memory, memoryEpoch := t.play.memoryEpoch, fadeLength := if stops ∨ dry then 2000 else 0 } ∧
    (LinkFree s → cause = .resetLine → t.play.memory = s.play.memory ∧ t.play.memoryEpoch = s.play.memoryEpoch) ∧
    (cause = .powerOn → t.play.memory = [] ∧ t.play.memoryEpoch = s.play.memoryEpoch + 1) ∧
    t.link = { Link.reset with
      pending := if stops ∨ dry then Attention.safeEntered.bit else 0
      lastReset := match cause with
        | .powerOn => .powerOn
        | .resetLine => .resetLine }

/-! ### Laws that every step keeps -/

/-- SAFE ends only where a CLEAR SAFE or a RESTART is taken, as a row or in a SEND_FRAME, and at a pin reset; and it begins
only with a cause in the cause set and SAFE_ENTERED raised (R112, R114). That a row is the taking of its request is the
model's choice (log 1). -/
def Obligations.SafeBeginsAndEndsOnlyByRule : Prop :=
  ∀ (i : Instr) (s t : State), exec i s = .next t →
    (s.clock.state = .safe → t.clock.state ≠ .safe → MayEndSafe s i) ∧
    (s.clock.state ≠ .safe → t.clock.state = .safe →
      t.sup.causes ≠ 0 ∧ Attention.safeEntered.memberOf t.link.pending = true)

/-- The law of R25 and R27 on the clock record is kept by every step. -/
def Obligations.ClockLawKept : Prop :=
  ∀ s t : State, ClockLaw s.clock → step s = .next t → ClockLaw t.clock

/-- The laws of R5, R6 and R41 on the cue store and the channels are kept by every step. -/
def Obligations.StoreLawKept : Prop :=
  ∀ s t : State, StoreLaw s → step s = .next t → StoreLaw t

/-- The law of R111, R112 and R114 on the safe causes is kept by every step. -/
def Obligations.CauseLawKept : Prop :=
  ∀ s t : State, CauseLaw s → step s = .next t → CauseLaw t

/-- The laws of R80, R86 and R99 on nodes and bindings, with that of R88 and R100 on the nodes that exchanges serve, and
those of R61 to R65 on curves and speeds, are kept by every step. -/
def Obligations.BindingAndWaterLawsKept : Prop :=
  ∀ s t : State, step s = .next t → (BindingLaw s → BindingLaw t) ∧ (WaterLaw s → WaterLaw t)

/-- The laws of R119 and R121 on the lights, of R135 on sample memory, and of R155 and R157 on the link are each kept by
every step. -/
def Obligations.LightMemoryAndLinkLawsKept : Prop :=
  ∀ s t : State, step s = .next t →
    (LightLaw s.lights → LightLaw t.lights) ∧ (MemoryLaw s.play.memory → MemoryLaw t.play.memory) ∧ (LinkLaw s → LinkLaw t)

/-- Where the laws of R136, R137 and R141 hold and every waiting command is well formed (log 23), every step answers a next
state, in which the same holds again: no frame outside sample memory is read or written, and no command is refused. -/
def Obligations.PlaybackLawKeptWithoutFaults : Prop :=
  ∀ s : State, PlaybackLaw s → (∀ c ∈ s.pending, c.wf = true) →
    ∃ t, step s = .next t ∧ PlaybackLaw t ∧ ∀ c ∈ t.pending, c.wf = true

/-- The part right after a power-on reset meets every law. -/
def Obligations.ResetMeetsEveryLaw : Prop :=
  ClockLaw State.reset.clock ∧ StoreLaw State.reset ∧ CauseLaw State.reset ∧ BindingLaw State.reset ∧ WaterLaw State.reset ∧
    LightLaw State.reset.lights ∧ PlaybackLaw State.reset ∧ MemoryLaw State.reset.play.memory ∧ LinkLaw State.reset
end

