-- ==== Sys2Proof/Laws/Encode.lean ====
section
/-! SUPPORT. Reading back what the encoder writes: fields of the bytes of a request, and the request itself. -/

namespace Sys2Proof

@[simp] theorem length_beBytes (n v : Nat) : (beBytes n v).length = n := by
  induction n with
  | zero => rfl
  | succ n ih => simp [beBytes, ih]

theorem foldl_beValue (l : List Byte) (x : Nat) :
    l.foldl (fun v b => v * 256 + b.toNat) x = x * 256 ^ l.length + beValue l := by
  induction l generalizing x with
  | nil => simp [beValue]
  | cons a l ih =>
    simp only [List.foldl_cons, List.length_cons, beValue]
    rw [ih, ih (0 * 256 + a.toNat)]
    ring

/-- The value of the bytes of a value is the value, cut to their width. -/
theorem beValue_beBytes (n v : Nat) : beValue (beBytes n v) = v % 256 ^ n := by
  induction n with
  | zero => simp [beBytes, beValue, Nat.mod_one]
  | succ n ih =>
    rw [beBytes, beValue, List.foldl_cons, foldl_beValue, length_beBytes, ih, pow_succ, Nat.mod_mul]
    simp only [BitVec.toNat_ofNat, zero_mul, zero_add]
    rw [show (2 : Nat) ^ 8 = 256 by norm_num, Nat.mul_comm]
    omega

/-- The first field of a row of fields. -/
theorem field_here {n v : Nat} {post : List Byte} (h : v < 256 ^ n) : field (beBytes n v ++ post) 0 n = v := by
  unfold field
  rw [List.drop_zero, List.take_append_of_le_length (by simp), List.take_of_length_le (by simp), beValue_beBytes,
    Nat.mod_eq_of_lt h]

/-- The only field of a row of one. -/
theorem field_last {n v : Nat} (h : v < 256 ^ n) : field (beBytes n v) 0 n = v := by
  simpa using field_here (post := []) h

/-- A field past the first of a row. -/
theorem field_skip {n v k m : Nat} {post : List Byte} (h : n ≤ k) :
    field (beBytes n v ++ post) k m = field post (k - n) m := by
  unfold field
  rw [List.drop_append, List.drop_eq_nil_of_le (by rw [length_beBytes]; exact h), length_beBytes]
  rfl

theorem length_frameBytes (f : Frame) : f.bytes.length = 4 := by simp [Frame.bytes]

theorem length_flatMap_frameBytes (fs : List Frame) : (fs.flatMap Frame.bytes).length = 4 * fs.length := by
  induction fs with
  | nil => rfl
  | cons f rest ih => rw [List.flatMap_cons, List.length_append, ih, length_frameBytes, List.length_cons]; omega

theorem sampleBytes (x : Sample) : BitVec.ofNat 8 (x.toNat / 256) ++ BitVec.ofNat 8 x.toNat = x := by
  apply BitVec.eq_of_toNat_eq
  have h := x.isLt
  rw [BitVec.toNat_append, ← Nat.shiftLeft_add_eq_or_of_lt (by simp; omega), Nat.shiftLeft_eq]
  simp only [BitVec.toNat_ofNat]
  omega

/-- The frames of a LOAD FRAMES read back as they were sent. -/
theorem readFrames_flatMap (fs : List Frame) : readFrames (fs.flatMap Frame.bytes) = fs := by
  induction fs with
  | nil => rfl
  | cons f rest ih =>
    have h : f.bytes ++ rest.flatMap Frame.bytes =
        BitVec.ofNat 8 (f.left.toNat / 256) :: BitVec.ofNat 8 f.left.toNat ::
          BitVec.ofNat 8 (f.right.toNat / 256) :: BitVec.ofNat 8 f.right.toNat :: rest.flatMap Frame.bytes := by
      simp [Frame.bytes, beBytes]
    rw [List.flatMap_cons, h, readFrames, ih, sampleBytes, sampleBytes]

/-- The encoder writes as many parameter bytes as the request table asks for (11.2, R164). -/
theorem requiredLength_params (r : Request) (h : r.wf = true) :
    requiredLength r.code r.params = some r.params.length := by
  cases r <;>
    simp [Request.code, requiredLength, Request.params, CueArgs.bytes, RawPayload.bytes, AmendArgs.bytes, GroupArgs.bytes,
      curveBytes, CurvePoint.bytes, LineSettings.bytes, HeadArgs.bytes, headBytes, Levels.bytes, SupSettings.bytes]
  case loadFrames s o n fs =>
    simp only [Request.wf, fits, Bool.and_eq_true, decide_eq_true_eq] at h
    have hl := length_flatMap_frameBytes fs
    rw [List.length_flatMap] at hl
    rw [field_skip (by omega), field_skip (by omega), show 5 - 1 - 4 = 0 from rfl, field_here (by omega), hl, h.2]
    omega

/-! ### The whole request -/

/-- The two flags of a flags byte read back. -/
theorem flagBit_pair (a b : Bool) :
    flagBit (bitNat a + 2 * bitNat b) 0 = a ∧ flagBit (bitNat a + 2 * bitNat b) 1 = b := by
  cases a <;> cases b <;> decide

/-- An optional one-byte value reads back from its byte (R165). -/
theorem absentByte_optByte {o : Option Nat} (h : fitsOption o = true) : absentByte (optByte o) = o ∧ optByte o < 256 := by
  cases o with
  | none => exact ⟨rfl, by decide⟩
  | some v =>
    simp only [fitsOption, fitsPresent, decide_eq_true_eq] at h
    exact ⟨if_neg (show ¬ v = 255 by omega), by simp only [optByte]; omega⟩

theorem bitNat_pair_lt (a b : Bool) : bitNat a + 2 * bitNat b < 256 ^ 1 := by
  cases a <;> cases b <;> decide

/-- SET GROUP's parameters read back. -/
theorem readGroupArgs_bytes (g : GroupArgs) (h : g.wf = true) : readGroupArgs g.bytes = g := by
  obtain ⟨group, enabled, critical, pumpNode, valve, heightLimit, lead, upStep, downStep, safeDownStep, bypass,
    windClass, ratedPower⟩ := g
  simp only [GroupArgs.wf, fits, Bool.and_eq_true, decide_eq_true_eq] at h
  obtain ⟨⟨⟨⟨⟨⟨⟨⟨⟨⟨h1, h2⟩, h3⟩, h4⟩, h5⟩, h6⟩, h7⟩, h8⟩, h9⟩, h10⟩, h11⟩ := h
  have a2 := absentByte_optByte h2
  have a10 := absentByte_optByte h10
  have hb := bitNat_pair_lt enabled critical
  have hf := flagBit_pair enabled critical
  cases valve with
  | none =>
    have e : absentByte (optByte none) = none := rfl
    have e2 : optByte none < 256 := by decide
    simp (disch := omega) [readGroupArgs, GroupArgs.bytes, field_skip, field_here, field_last, hf.1, hf.2, a2.1, a10.1, e]
  | some v =>
    obtain ⟨node, output⟩ := v
    simp only [Option.all_some, ValveArgs.wf, fitsPresent, fits, Bool.and_eq_true, decide_eq_true_eq] at h3
    have e : absentByte (optByte (some node)) = some node := if_neg (show ¬ node = 255 by omega)
    have e2 : optByte (some node) = node := rfl
    have e3 : optByte (some output) = output := rfl
    rw [e2] at e
    simp (disch := omega) [readGroupArgs, GroupArgs.bytes, field_skip, field_here, field_last, hf.1, hf.2, a2.1, a10.1, e, e2, e3]

/-- SET HEAD's parameters read back. -/
theorem readHeadArgs_bytes (g : HeadArgs) (h : g.wf = true) : readHeadArgs g.bytes = g := by
  obtain ⟨head, enabled, outputs, response⟩ := g
  simp only [HeadArgs.wf, fits, Bool.and_eq_true, decide_eq_true_eq] at h
  obtain ⟨⟨h1, h2⟩, h3⟩ := h
  have hb := bitNat_pair_lt enabled outputs.isSome
  have hf := flagBit_pair enabled outputs.isSome
  cases outputs with
  | none =>
    simp at hb hf
    simp (disch := omega) [readHeadArgs, HeadArgs.bytes, headBytes, field_skip, field_here, field_last, hf.1, hf.2]
  | some v =>
    obtain ⟨r, g, b, w⟩ := v
    simp only [Option.all_some, HeadOutputArgs.wf, fits, Bool.and_eq_true, decide_eq_true_eq] at h2
    have a := absentByte_optByte h2.2
    have e (k : Nat) : optByte (some k) = k := rfl
    simp at hb hf
    simp (disch := omega) [readHeadArgs, HeadArgs.bytes, headBytes, field_skip, field_here, field_last, hf.1, hf.2, a.1, e]

/-- A height curve reads back. -/
theorem readCurve_bytes (n : Nat) (c : Vector CurvePoint 8) (h : c.toList.all CurvePoint.wf = true) :
    readCurve (beBytes 1 n ++ curveBytes c) = c := by
  obtain ⟨⟨l⟩, hl⟩ := c
  match l, hl with
  | [p0, p1, p2, p3, p4, p5, p6, p7], _ =>
    simp [CurvePoint.wf, fits] at h
    simp (disch := omega) [readCurve, readCurvePoint, curveBytes, CurvePoint.bytes, field_skip, field_here, field_last]

/-- Every well-formed request's parameters read back. -/
theorem readParams_params (r : Request) (h : r.wf = true) : readParams r.code r.params = some r := by
  cases r
  case setGroup g => simp only [Request.code, readParams, Request.params, readGroupArgs_bytes g (by simpa [Request.wf] using h)]
  case setHead g => simp only [Request.code, readParams, Request.params, readHeadArgs_bytes g (by simpa [Request.wf] using h)]
  case setCurve g c =>
    simp only [Request.wf, fits, Bool.and_eq_true, decide_eq_true_eq] at h
    simp only [Request.code, readParams, Request.params, readCurve_bytes g c h.2, field_here h.1]
  case retirePassed t c =>
    simp only [Request.wf, fits, Bool.and_eq_true, decide_eq_true_eq] at h
    have a := absentByte_optByte h.2
    simp (disch := omega) [Request.code, readParams, Request.params, field_here, field_skip, field_last, a.1]
  case defineSegment s f l p =>
    simp only [Request.wf, fits, Bool.and_eq_true, decide_eq_true_eq] at h
    have a : readLoopStart (loopStartNat p) = p ∧ loopStartNat p < 256 ^ 4 := by
      cases p with
      | none => exact ⟨rfl, by decide⟩
      | some v => 
        have := h.2
        simp at this
        exact ⟨if_neg (show ¬ v = 4294967295 by omega), by simp only [loopStartNat]; omega⟩
    simp (disch := omega) [Request.code, readParams, Request.params, field_here, field_skip, field_last, a.1]
  case loadFrames s o n fs =>
    simp only [Request.wf, fits, Bool.and_eq_true, decide_eq_true_eq] at h
    have hd : (beBytes 1 s ++ beBytes 4 o ++ beBytes 2 n ++ beBytes 6 0 ++ fs.flatMap Frame.bytes).drop 13 = fs.flatMap Frame.bytes := by
      rw [List.drop_append, List.drop_eq_nil_of_le (by simp)]
      simp
    simp only [Request.code, readParams, Request.params, hd, readFrames_flatMap]
    simp (disch := omega) [field_here, field_skip]
  all_goals
    simp only [Request.wf, CueArgs.wf, AmendArgs.wf, RawPayload.wf, LineSettings.wf, Levels.wf, SupSettings.wf, fits, Bool.and_eq_true, decide_eq_true_eq] at h
    simp (disch := omega) [Request.code, readParams, Request.params, CueArgs.bytes, readCueArgs, readRawPayload, AmendArgs.bytes, readAmendArgs,
      RawPayload.bytes, LineSettings.bytes, readLineSettings, Levels.bytes, readLevels, SupSettings.bytes, readSupSettings, field_here, field_skip, field_last]

/-- A well-formed request fits the largest request (R155). -/
theorem params_length_le (r : Request) (h : r.wf = true) : r.params.length ≤ 1037 := by
  cases r <;>
    simp [Request.params, CueArgs.bytes, RawPayload.bytes, AmendArgs.bytes, GroupArgs.bytes,
      curveBytes, CurvePoint.bytes, LineSettings.bytes, HeadArgs.bytes, headBytes, Levels.bytes, SupSettings.bytes]
  case loadFrames s o n fs =>
    simp only [Request.wf, fits, Bool.and_eq_true, decide_eq_true_eq] at h
    have hl := length_flatMap_frameBytes fs
    rw [List.length_flatMap] at hl
    omega

/-- The link reads a well-formed request back from the bytes the encoder writes (11.1 to 11.3). -/
theorem parseRequest_encodeRequest (r : Request) (h : r.wf = true) : parseRequest (encodeRequest r) = .ok r := by
  have h1 := params_length_le r h
  have hc : r.code < 256 ^ 1 := by cases r <;> simp [Request.code]
  have hcode : field (encodeRequest r) 0 1 = r.code := by
    rw [encodeRequest, List.append_assoc]; exact field_here hc
  have hlen : field (encodeRequest r) 1 2 = r.params.length := by
    rw [encodeRequest, List.append_assoc, field_skip (by omega)]; exact field_here (by omega)
  have hdrop : (encodeRequest r).drop 3 = r.params := by
    rw [encodeRequest, List.drop_append, List.drop_eq_nil_of_le (by simp)]; simp
  have hl : ¬ (encodeRequest r).length < 3 := by simp [encodeRequest]; omega
  simp only [parseRequest, hcode, hdrop, hlen, requiredLength_params r h, readParams_params r h, hl]
  simp

/-- A well-formed request is no longer than the request buffer (R155). -/
theorem length_encodeRequest_le (r : Request) (h : r.wf = true) : (encodeRequest r).length ≤ Config.largestRequest := by
  have := params_length_le r h
  simp only [encodeRequest, List.length_append, length_beBytes, Config.largestRequest]
  omega

end Sys2Proof
end

