-- ==== Sys2Proof/Laws/State.lean ====
section
/-! SUPPORT. What each update of one block leaves in each field of the state: one lemma per field per
update. -/

namespace Sys2Proof.Machine

@[simp] theorem State.setStore_store (s : State) (x : Store) : (s.setStore x).store = x := rfl
@[simp] theorem State.setStore_clock (s : State) (x : Store) : (s.setStore x).clock = s.clock := rfl
@[simp] theorem State.setStore_channels (s : State) (x : Store) : (s.setStore x).channels = s.channels := rfl
@[simp] theorem State.setStore_water (s : State) (x : Store) : (s.setStore x).water = s.water := rfl
@[simp] theorem State.setStore_fieldLines (s : State) (x : Store) : (s.setStore x).fieldLines = s.fieldLines := rfl
@[simp] theorem State.setStore_sup (s : State) (x : Store) : (s.setStore x).sup = s.sup := rfl
@[simp] theorem State.setStore_lights (s : State) (x : Store) : (s.setStore x).lights = s.lights := rfl
@[simp] theorem State.setStore_play (s : State) (x : Store) : (s.setStore x).play = s.play := rfl
@[simp] theorem State.setStore_link (s : State) (x : Store) : (s.setStore x).link = s.link := rfl
@[simp] theorem State.setStore_now (s : State) (x : Store) : (s.setStore x).now = s.now := rfl
@[simp] theorem State.setStore_resets (s : State) (x : Store) : (s.setStore x).resets = s.resets := rfl
@[simp] theorem State.setStore_pending (s : State) (x : Store) : (s.setStore x).pending = s.pending := rfl
@[simp] theorem State.setStore_setStore (s : State) (x y : Store) : (s.setStore x).setStore y = s.setStore y := rfl

@[simp] theorem State.setClock_store (s : State) (x : Clock) : (s.setClock x).store = s.store := rfl
@[simp] theorem State.setClock_clock (s : State) (x : Clock) : (s.setClock x).clock = x := rfl
@[simp] theorem State.setClock_channels (s : State) (x : Clock) : (s.setClock x).channels = s.channels := rfl
@[simp] theorem State.setClock_water (s : State) (x : Clock) : (s.setClock x).water = s.water := rfl
@[simp] theorem State.setClock_fieldLines (s : State) (x : Clock) : (s.setClock x).fieldLines = s.fieldLines := rfl
@[simp] theorem State.setClock_sup (s : State) (x : Clock) : (s.setClock x).sup = s.sup := rfl
@[simp] theorem State.setClock_lights (s : State) (x : Clock) : (s.setClock x).lights = s.lights := rfl
@[simp] theorem State.setClock_play (s : State) (x : Clock) : (s.setClock x).play = s.play := rfl
@[simp] theorem State.setClock_link (s : State) (x : Clock) : (s.setClock x).link = s.link := rfl
@[simp] theorem State.setClock_now (s : State) (x : Clock) : (s.setClock x).now = s.now := rfl
@[simp] theorem State.setClock_resets (s : State) (x : Clock) : (s.setClock x).resets = s.resets := rfl
@[simp] theorem State.setClock_pending (s : State) (x : Clock) : (s.setClock x).pending = s.pending := rfl
@[simp] theorem State.setClock_setClock (s : State) (x y : Clock) : (s.setClock x).setClock y = s.setClock y := rfl

@[simp] theorem State.setChannels_store (s : State) (x : Vector ChannelRec 49) : (s.setChannels x).store = s.store := rfl
@[simp] theorem State.setChannels_clock (s : State) (x : Vector ChannelRec 49) : (s.setChannels x).clock = s.clock := rfl
@[simp] theorem State.setChannels_channels (s : State) (x : Vector ChannelRec 49) : (s.setChannels x).channels = x := rfl
@[simp] theorem State.setChannels_water (s : State) (x : Vector ChannelRec 49) : (s.setChannels x).water = s.water := rfl
@[simp] theorem State.setChannels_fieldLines (s : State) (x : Vector ChannelRec 49) : (s.setChannels x).fieldLines = s.fieldLines := rfl
@[simp] theorem State.setChannels_sup (s : State) (x : Vector ChannelRec 49) : (s.setChannels x).sup = s.sup := rfl
@[simp] theorem State.setChannels_lights (s : State) (x : Vector ChannelRec 49) : (s.setChannels x).lights = s.lights := rfl
@[simp] theorem State.setChannels_play (s : State) (x : Vector ChannelRec 49) : (s.setChannels x).play = s.play := rfl
@[simp] theorem State.setChannels_link (s : State) (x : Vector ChannelRec 49) : (s.setChannels x).link = s.link := rfl
@[simp] theorem State.setChannels_now (s : State) (x : Vector ChannelRec 49) : (s.setChannels x).now = s.now := rfl
@[simp] theorem State.setChannels_resets (s : State) (x : Vector ChannelRec 49) : (s.setChannels x).resets = s.resets := rfl
@[simp] theorem State.setChannels_pending (s : State) (x : Vector ChannelRec 49) : (s.setChannels x).pending = s.pending := rfl
@[simp] theorem State.setChannels_setChannels (s : State) (x y : Vector ChannelRec 49) : (s.setChannels x).setChannels y = s.setChannels y := rfl

@[simp] theorem State.setWater_store (s : State) (x : Water) : (s.setWater x).store = s.store := rfl
@[simp] theorem State.setWater_clock (s : State) (x : Water) : (s.setWater x).clock = s.clock := rfl
@[simp] theorem State.setWater_channels (s : State) (x : Water) : (s.setWater x).channels = s.channels := rfl
@[simp] theorem State.setWater_water (s : State) (x : Water) : (s.setWater x).water = x := rfl
@[simp] theorem State.setWater_fieldLines (s : State) (x : Water) : (s.setWater x).fieldLines = s.fieldLines := rfl
@[simp] theorem State.setWater_sup (s : State) (x : Water) : (s.setWater x).sup = s.sup := rfl
@[simp] theorem State.setWater_lights (s : State) (x : Water) : (s.setWater x).lights = s.lights := rfl
@[simp] theorem State.setWater_play (s : State) (x : Water) : (s.setWater x).play = s.play := rfl
@[simp] theorem State.setWater_link (s : State) (x : Water) : (s.setWater x).link = s.link := rfl
@[simp] theorem State.setWater_now (s : State) (x : Water) : (s.setWater x).now = s.now := rfl
@[simp] theorem State.setWater_resets (s : State) (x : Water) : (s.setWater x).resets = s.resets := rfl
@[simp] theorem State.setWater_pending (s : State) (x : Water) : (s.setWater x).pending = s.pending := rfl
@[simp] theorem State.setWater_setWater (s : State) (x y : Water) : (s.setWater x).setWater y = s.setWater y := rfl

@[simp] theorem State.setFieldLines_store (s : State) (x : FieldLines) : (s.setFieldLines x).store = s.store := rfl
@[simp] theorem State.setFieldLines_clock (s : State) (x : FieldLines) : (s.setFieldLines x).clock = s.clock := rfl
@[simp] theorem State.setFieldLines_channels (s : State) (x : FieldLines) : (s.setFieldLines x).channels = s.channels := rfl
@[simp] theorem State.setFieldLines_water (s : State) (x : FieldLines) : (s.setFieldLines x).water = s.water := rfl
@[simp] theorem State.setFieldLines_fieldLines (s : State) (x : FieldLines) : (s.setFieldLines x).fieldLines = x := rfl
@[simp] theorem State.setFieldLines_sup (s : State) (x : FieldLines) : (s.setFieldLines x).sup = s.sup := rfl
@[simp] theorem State.setFieldLines_lights (s : State) (x : FieldLines) : (s.setFieldLines x).lights = s.lights := rfl
@[simp] theorem State.setFieldLines_play (s : State) (x : FieldLines) : (s.setFieldLines x).play = s.play := rfl
@[simp] theorem State.setFieldLines_link (s : State) (x : FieldLines) : (s.setFieldLines x).link = s.link := rfl
@[simp] theorem State.setFieldLines_now (s : State) (x : FieldLines) : (s.setFieldLines x).now = s.now := rfl
@[simp] theorem State.setFieldLines_resets (s : State) (x : FieldLines) : (s.setFieldLines x).resets = s.resets := rfl
@[simp] theorem State.setFieldLines_pending (s : State) (x : FieldLines) : (s.setFieldLines x).pending = s.pending := rfl
@[simp] theorem State.setFieldLines_setFieldLines (s : State) (x y : FieldLines) : (s.setFieldLines x).setFieldLines y = s.setFieldLines y := rfl

@[simp] theorem State.setSup_store (s : State) (x : Supervision) : (s.setSup x).store = s.store := rfl
@[simp] theorem State.setSup_clock (s : State) (x : Supervision) : (s.setSup x).clock = s.clock := rfl
@[simp] theorem State.setSup_channels (s : State) (x : Supervision) : (s.setSup x).channels = s.channels := rfl
@[simp] theorem State.setSup_water (s : State) (x : Supervision) : (s.setSup x).water = s.water := rfl
@[simp] theorem State.setSup_fieldLines (s : State) (x : Supervision) : (s.setSup x).fieldLines = s.fieldLines := rfl
@[simp] theorem State.setSup_sup (s : State) (x : Supervision) : (s.setSup x).sup = x := rfl
@[simp] theorem State.setSup_lights (s : State) (x : Supervision) : (s.setSup x).lights = s.lights := rfl
@[simp] theorem State.setSup_play (s : State) (x : Supervision) : (s.setSup x).play = s.play := rfl
@[simp] theorem State.setSup_link (s : State) (x : Supervision) : (s.setSup x).link = s.link := rfl
@[simp] theorem State.setSup_now (s : State) (x : Supervision) : (s.setSup x).now = s.now := rfl
@[simp] theorem State.setSup_resets (s : State) (x : Supervision) : (s.setSup x).resets = s.resets := rfl
@[simp] theorem State.setSup_pending (s : State) (x : Supervision) : (s.setSup x).pending = s.pending := rfl
@[simp] theorem State.setSup_setSup (s : State) (x y : Supervision) : (s.setSup x).setSup y = s.setSup y := rfl

@[simp] theorem State.setLights_store (s : State) (x : Lights) : (s.setLights x).store = s.store := rfl
@[simp] theorem State.setLights_clock (s : State) (x : Lights) : (s.setLights x).clock = s.clock := rfl
@[simp] theorem State.setLights_channels (s : State) (x : Lights) : (s.setLights x).channels = s.channels := rfl
@[simp] theorem State.setLights_water (s : State) (x : Lights) : (s.setLights x).water = s.water := rfl
@[simp] theorem State.setLights_fieldLines (s : State) (x : Lights) : (s.setLights x).fieldLines = s.fieldLines := rfl
@[simp] theorem State.setLights_sup (s : State) (x : Lights) : (s.setLights x).sup = s.sup := rfl
@[simp] theorem State.setLights_lights (s : State) (x : Lights) : (s.setLights x).lights = x := rfl
@[simp] theorem State.setLights_play (s : State) (x : Lights) : (s.setLights x).play = s.play := rfl
@[simp] theorem State.setLights_link (s : State) (x : Lights) : (s.setLights x).link = s.link := rfl
@[simp] theorem State.setLights_now (s : State) (x : Lights) : (s.setLights x).now = s.now := rfl
@[simp] theorem State.setLights_resets (s : State) (x : Lights) : (s.setLights x).resets = s.resets := rfl
@[simp] theorem State.setLights_pending (s : State) (x : Lights) : (s.setLights x).pending = s.pending := rfl
@[simp] theorem State.setLights_setLights (s : State) (x y : Lights) : (s.setLights x).setLights y = s.setLights y := rfl

@[simp] theorem State.setPlay_store (s : State) (x : Playback) : (s.setPlay x).store = s.store := rfl
@[simp] theorem State.setPlay_clock (s : State) (x : Playback) : (s.setPlay x).clock = s.clock := rfl
@[simp] theorem State.setPlay_channels (s : State) (x : Playback) : (s.setPlay x).channels = s.channels := rfl
@[simp] theorem State.setPlay_water (s : State) (x : Playback) : (s.setPlay x).water = s.water := rfl
@[simp] theorem State.setPlay_fieldLines (s : State) (x : Playback) : (s.setPlay x).fieldLines = s.fieldLines := rfl
@[simp] theorem State.setPlay_sup (s : State) (x : Playback) : (s.setPlay x).sup = s.sup := rfl
@[simp] theorem State.setPlay_lights (s : State) (x : Playback) : (s.setPlay x).lights = s.lights := rfl
@[simp] theorem State.setPlay_play (s : State) (x : Playback) : (s.setPlay x).play = x := rfl
@[simp] theorem State.setPlay_link (s : State) (x : Playback) : (s.setPlay x).link = s.link := rfl
@[simp] theorem State.setPlay_now (s : State) (x : Playback) : (s.setPlay x).now = s.now := rfl
@[simp] theorem State.setPlay_resets (s : State) (x : Playback) : (s.setPlay x).resets = s.resets := rfl
@[simp] theorem State.setPlay_pending (s : State) (x : Playback) : (s.setPlay x).pending = s.pending := rfl
@[simp] theorem State.setPlay_setPlay (s : State) (x y : Playback) : (s.setPlay x).setPlay y = s.setPlay y := rfl

@[simp] theorem State.setLink_store (s : State) (x : Link) : (s.setLink x).store = s.store := rfl
@[simp] theorem State.setLink_clock (s : State) (x : Link) : (s.setLink x).clock = s.clock := rfl
@[simp] theorem State.setLink_channels (s : State) (x : Link) : (s.setLink x).channels = s.channels := rfl
@[simp] theorem State.setLink_water (s : State) (x : Link) : (s.setLink x).water = s.water := rfl
@[simp] theorem State.setLink_fieldLines (s : State) (x : Link) : (s.setLink x).fieldLines = s.fieldLines := rfl
@[simp] theorem State.setLink_sup (s : State) (x : Link) : (s.setLink x).sup = s.sup := rfl
@[simp] theorem State.setLink_lights (s : State) (x : Link) : (s.setLink x).lights = s.lights := rfl
@[simp] theorem State.setLink_play (s : State) (x : Link) : (s.setLink x).play = s.play := rfl
@[simp] theorem State.setLink_link (s : State) (x : Link) : (s.setLink x).link = x := rfl
@[simp] theorem State.setLink_now (s : State) (x : Link) : (s.setLink x).now = s.now := rfl
@[simp] theorem State.setLink_resets (s : State) (x : Link) : (s.setLink x).resets = s.resets := rfl
@[simp] theorem State.setLink_pending (s : State) (x : Link) : (s.setLink x).pending = s.pending := rfl
@[simp] theorem State.setLink_setLink (s : State) (x y : Link) : (s.setLink x).setLink y = s.setLink y := rfl

@[simp] theorem State.setNow_store (s : State) (x : Nat) : (s.setNow x).store = s.store := rfl
@[simp] theorem State.setNow_clock (s : State) (x : Nat) : (s.setNow x).clock = s.clock := rfl
@[simp] theorem State.setNow_channels (s : State) (x : Nat) : (s.setNow x).channels = s.channels := rfl
@[simp] theorem State.setNow_water (s : State) (x : Nat) : (s.setNow x).water = s.water := rfl
@[simp] theorem State.setNow_fieldLines (s : State) (x : Nat) : (s.setNow x).fieldLines = s.fieldLines := rfl
@[simp] theorem State.setNow_sup (s : State) (x : Nat) : (s.setNow x).sup = s.sup := rfl
@[simp] theorem State.setNow_lights (s : State) (x : Nat) : (s.setNow x).lights = s.lights := rfl
@[simp] theorem State.setNow_play (s : State) (x : Nat) : (s.setNow x).play = s.play := rfl
@[simp] theorem State.setNow_link (s : State) (x : Nat) : (s.setNow x).link = s.link := rfl
@[simp] theorem State.setNow_now (s : State) (x : Nat) : (s.setNow x).now = x := rfl
@[simp] theorem State.setNow_resets (s : State) (x : Nat) : (s.setNow x).resets = s.resets := rfl
@[simp] theorem State.setNow_pending (s : State) (x : Nat) : (s.setNow x).pending = s.pending := rfl
@[simp] theorem State.setNow_setNow (s : State) (x y : Nat) : (s.setNow x).setNow y = s.setNow y := rfl

@[simp] theorem State.setResets_store (s : State) (x : Nat) : (s.setResets x).store = s.store := rfl
@[simp] theorem State.setResets_clock (s : State) (x : Nat) : (s.setResets x).clock = s.clock := rfl
@[simp] theorem State.setResets_channels (s : State) (x : Nat) : (s.setResets x).channels = s.channels := rfl
@[simp] theorem State.setResets_water (s : State) (x : Nat) : (s.setResets x).water = s.water := rfl
@[simp] theorem State.setResets_fieldLines (s : State) (x : Nat) : (s.setResets x).fieldLines = s.fieldLines := rfl
@[simp] theorem State.setResets_sup (s : State) (x : Nat) : (s.setResets x).sup = s.sup := rfl
@[simp] theorem State.setResets_lights (s : State) (x : Nat) : (s.setResets x).lights = s.lights := rfl
@[simp] theorem State.setResets_play (s : State) (x : Nat) : (s.setResets x).play = s.play := rfl
@[simp] theorem State.setResets_link (s : State) (x : Nat) : (s.setResets x).link = s.link := rfl
@[simp] theorem State.setResets_now (s : State) (x : Nat) : (s.setResets x).now = s.now := rfl
@[simp] theorem State.setResets_resets (s : State) (x : Nat) : (s.setResets x).resets = x := rfl
@[simp] theorem State.setResets_pending (s : State) (x : Nat) : (s.setResets x).pending = s.pending := rfl
@[simp] theorem State.setResets_setResets (s : State) (x y : Nat) : (s.setResets x).setResets y = s.setResets y := rfl

@[simp] theorem State.withQueue_store (s : State) (x : List Instr) : (s.withQueue x).store = s.store := rfl
@[simp] theorem State.withQueue_clock (s : State) (x : List Instr) : (s.withQueue x).clock = s.clock := rfl
@[simp] theorem State.withQueue_channels (s : State) (x : List Instr) : (s.withQueue x).channels = s.channels := rfl
@[simp] theorem State.withQueue_water (s : State) (x : List Instr) : (s.withQueue x).water = s.water := rfl
@[simp] theorem State.withQueue_fieldLines (s : State) (x : List Instr) : (s.withQueue x).fieldLines = s.fieldLines := rfl
@[simp] theorem State.withQueue_sup (s : State) (x : List Instr) : (s.withQueue x).sup = s.sup := rfl
@[simp] theorem State.withQueue_lights (s : State) (x : List Instr) : (s.withQueue x).lights = s.lights := rfl
@[simp] theorem State.withQueue_play (s : State) (x : List Instr) : (s.withQueue x).play = s.play := rfl
@[simp] theorem State.withQueue_link (s : State) (x : List Instr) : (s.withQueue x).link = s.link := rfl
@[simp] theorem State.withQueue_now (s : State) (x : List Instr) : (s.withQueue x).now = s.now := rfl
@[simp] theorem State.withQueue_resets (s : State) (x : List Instr) : (s.withQueue x).resets = s.resets := rfl
@[simp] theorem State.withQueue_pending (s : State) (x : List Instr) : (s.withQueue x).pending = x := rfl
@[simp] theorem State.withQueue_withQueue (s : State) (x y : List Instr) : (s.withQueue x).withQueue y = s.withQueue y := rfl

/-! ### Lines and nodes -/

@[simp] theorem FieldLines.line_setLine (f : FieldLines) (l m : Line) (r : LineRec) :
    (f.setLine l r).line m = if m = l then r else f.line m := by
  cases l <;> cases m <;> rfl

@[simp] theorem FieldLines.setLine_nodes (f : FieldLines) (l : Line) (r : LineRec) :
    (f.setLine l r).nodes = f.nodes := by
  cases l <;> rfl

@[simp] theorem State.line_setLineRec (s : State) (l m : Line) (r : LineRec) :
    (setLineRec l r s).line m = if m = l then r else s.line m := by
  simp [setLineRec, State.line]

@[simp] theorem State.node_setLineRec (s : State) (l : Line) (r : LineRec) (i : Fin 40) :
    (setLineRec l r s).node i = s.node i := by
  simp [setLineRec, State.node]

@[simp] theorem State.line_setNodeRec (s : State) (i : Fin 40) (n : Node) (l : Line) :
    (setNodeRec i n s).line l = s.line l := by
  cases l <;> rfl

@[simp] theorem State.node_setNodeRec (s : State) (i j : Fin 40) (n : Node) :
    (setNodeRec i n s).node j = if i = j then n else s.node j := by
  simp [setNodeRec, State.node, Vector.getElem_set, Fin.ext_iff]

@[simp] theorem setLineRec_store (l : Line) (r : LineRec) (s : State) : (setLineRec l r s).store = s.store := rfl
@[simp] theorem setLineRec_clock (l : Line) (r : LineRec) (s : State) : (setLineRec l r s).clock = s.clock := rfl
@[simp] theorem setLineRec_channels (l : Line) (r : LineRec) (s : State) : (setLineRec l r s).channels = s.channels := rfl
@[simp] theorem setLineRec_water (l : Line) (r : LineRec) (s : State) : (setLineRec l r s).water = s.water := rfl
@[simp] theorem setLineRec_sup (l : Line) (r : LineRec) (s : State) : (setLineRec l r s).sup = s.sup := rfl
@[simp] theorem setLineRec_lights (l : Line) (r : LineRec) (s : State) : (setLineRec l r s).lights = s.lights := rfl
@[simp] theorem setLineRec_play (l : Line) (r : LineRec) (s : State) : (setLineRec l r s).play = s.play := rfl
@[simp] theorem setLineRec_link (l : Line) (r : LineRec) (s : State) : (setLineRec l r s).link = s.link := rfl
@[simp] theorem setLineRec_now (l : Line) (r : LineRec) (s : State) : (setLineRec l r s).now = s.now := rfl
@[simp] theorem setLineRec_resets (l : Line) (r : LineRec) (s : State) : (setLineRec l r s).resets = s.resets := rfl
@[simp] theorem setLineRec_pending (l : Line) (r : LineRec) (s : State) : (setLineRec l r s).pending = s.pending := rfl

@[simp] theorem setNodeRec_store (i : Fin 40) (n : Node) (s : State) : (setNodeRec i n s).store = s.store := rfl
@[simp] theorem setNodeRec_clock (i : Fin 40) (n : Node) (s : State) : (setNodeRec i n s).clock = s.clock := rfl
@[simp] theorem setNodeRec_channels (i : Fin 40) (n : Node) (s : State) : (setNodeRec i n s).channels = s.channels := rfl
@[simp] theorem setNodeRec_water (i : Fin 40) (n : Node) (s : State) : (setNodeRec i n s).water = s.water := rfl
@[simp] theorem setNodeRec_sup (i : Fin 40) (n : Node) (s : State) : (setNodeRec i n s).sup = s.sup := rfl
@[simp] theorem setNodeRec_lights (i : Fin 40) (n : Node) (s : State) : (setNodeRec i n s).lights = s.lights := rfl
@[simp] theorem setNodeRec_play (i : Fin 40) (n : Node) (s : State) : (setNodeRec i n s).play = s.play := rfl
@[simp] theorem setNodeRec_link (i : Fin 40) (n : Node) (s : State) : (setNodeRec i n s).link = s.link := rfl
@[simp] theorem setNodeRec_now (i : Fin 40) (n : Node) (s : State) : (setNodeRec i n s).now = s.now := rfl
@[simp] theorem setNodeRec_resets (i : Fin 40) (n : Node) (s : State) : (setNodeRec i n s).resets = s.resets := rfl
@[simp] theorem setNodeRec_pending (i : Fin 40) (n : Node) (s : State) : (setNodeRec i n s).pending = s.pending := rfl

/-! ### Groups and segments -/

@[simp] theorem setGroupRec_groups (s : State) (m n : Fin 32) (g : Group) :
    (setGroupRec m g s).water.groups[n] = if m = n then g else s.water.groups[n] := by
  simp [setGroupRec, Vector.getElem_set, Fin.ext_iff]

@[simp] theorem setSegment_segments (s : State) (j k : Fin 64) (g : Segment) :
    (setSegment j g s).play.segments[k] = if j = k then g else s.play.segments[k] := by
  simp [setSegment, Vector.getElem_set, Fin.ext_iff]

@[simp] theorem setGroupRec_store (m : Fin 32) (g : Group) (s : State) : (setGroupRec m g s).store = s.store := rfl
@[simp] theorem setGroupRec_clock (m : Fin 32) (g : Group) (s : State) : (setGroupRec m g s).clock = s.clock := rfl
@[simp] theorem setGroupRec_channels (m : Fin 32) (g : Group) (s : State) : (setGroupRec m g s).channels = s.channels := rfl
@[simp] theorem setGroupRec_fieldLines (m : Fin 32) (g : Group) (s : State) : (setGroupRec m g s).fieldLines = s.fieldLines := rfl
@[simp] theorem setGroupRec_sup (m : Fin 32) (g : Group) (s : State) : (setGroupRec m g s).sup = s.sup := rfl
@[simp] theorem setGroupRec_lights (m : Fin 32) (g : Group) (s : State) : (setGroupRec m g s).lights = s.lights := rfl
@[simp] theorem setGroupRec_play (m : Fin 32) (g : Group) (s : State) : (setGroupRec m g s).play = s.play := rfl
@[simp] theorem setGroupRec_link (m : Fin 32) (g : Group) (s : State) : (setGroupRec m g s).link = s.link := rfl
@[simp] theorem setGroupRec_now (m : Fin 32) (g : Group) (s : State) : (setGroupRec m g s).now = s.now := rfl
@[simp] theorem setGroupRec_resets (m : Fin 32) (g : Group) (s : State) : (setGroupRec m g s).resets = s.resets := rfl
@[simp] theorem setGroupRec_pending (m : Fin 32) (g : Group) (s : State) : (setGroupRec m g s).pending = s.pending := rfl

@[simp] theorem setSegment_store (k : Fin 64) (g : Segment) (s : State) : (setSegment k g s).store = s.store := rfl
@[simp] theorem setSegment_clock (k : Fin 64) (g : Segment) (s : State) : (setSegment k g s).clock = s.clock := rfl
@[simp] theorem setSegment_channels (k : Fin 64) (g : Segment) (s : State) : (setSegment k g s).channels = s.channels := rfl
@[simp] theorem setSegment_water (k : Fin 64) (g : Segment) (s : State) : (setSegment k g s).water = s.water := rfl
@[simp] theorem setSegment_fieldLines (k : Fin 64) (g : Segment) (s : State) : (setSegment k g s).fieldLines = s.fieldLines := rfl
@[simp] theorem setSegment_sup (k : Fin 64) (g : Segment) (s : State) : (setSegment k g s).sup = s.sup := rfl
@[simp] theorem setSegment_lights (k : Fin 64) (g : Segment) (s : State) : (setSegment k g s).lights = s.lights := rfl
@[simp] theorem setSegment_link (k : Fin 64) (g : Segment) (s : State) : (setSegment k g s).link = s.link := rfl
@[simp] theorem setSegment_now (k : Fin 64) (g : Segment) (s : State) : (setSegment k g s).now = s.now := rfl
@[simp] theorem setSegment_resets (k : Fin 64) (g : Segment) (s : State) : (setSegment k g s).resets = s.resets := rfl
@[simp] theorem setSegment_pending (k : Fin 64) (g : Segment) (s : State) : (setSegment k g s).pending = s.pending := rfl

end Sys2Proof.Machine
end

