-- ==== Sys2Proof/Laws/Frames.lean ====
section
/-! SUPPORT. What each shared operation leaves alone: one lemma for every block it does not touch. -/

namespace Sys2Proof.Machine

@[simp] theorem setRowDue_store (b : Bool) (s : State) : (setRowDue b s).store = s.store := rfl
@[simp] theorem setRowDue_clock (b : Bool) (s : State) : (setRowDue b s).clock = s.clock := rfl
@[simp] theorem setRowDue_channels (b : Bool) (s : State) : (setRowDue b s).channels = s.channels := rfl
@[simp] theorem setRowDue_water (b : Bool) (s : State) : (setRowDue b s).water = s.water := rfl
@[simp] theorem setRowDue_fieldLines (b : Bool) (s : State) : (setRowDue b s).fieldLines = s.fieldLines := rfl
@[simp] theorem setRowDue_sup (b : Bool) (s : State) : (setRowDue b s).sup = s.sup := rfl
@[simp] theorem setRowDue_lights (b : Bool) (s : State) : (setRowDue b s).lights = s.lights := rfl
@[simp] theorem setRowDue_play (b : Bool) (s : State) : (setRowDue b s).play = s.play := rfl
@[simp] theorem setRowDue_now (b : Bool) (s : State) : (setRowDue b s).now = s.now := rfl
@[simp] theorem setRowDue_resets (b : Bool) (s : State) : (setRowDue b s).resets = s.resets := rfl
@[simp] theorem setRowDue_pending (b : Bool) (s : State) : (setRowDue b s).pending = s.pending := rfl

@[simp] theorem answerWith_store (a : Answer) (s : State) : (answerWith a s).store = s.store := rfl
@[simp] theorem answerWith_clock (a : Answer) (s : State) : (answerWith a s).clock = s.clock := rfl
@[simp] theorem answerWith_channels (a : Answer) (s : State) : (answerWith a s).channels = s.channels := rfl
@[simp] theorem answerWith_water (a : Answer) (s : State) : (answerWith a s).water = s.water := rfl
@[simp] theorem answerWith_fieldLines (a : Answer) (s : State) : (answerWith a s).fieldLines = s.fieldLines := rfl
@[simp] theorem answerWith_sup (a : Answer) (s : State) : (answerWith a s).sup = s.sup := rfl
@[simp] theorem answerWith_lights (a : Answer) (s : State) : (answerWith a s).lights = s.lights := rfl
@[simp] theorem answerWith_play (a : Answer) (s : State) : (answerWith a s).play = s.play := rfl
@[simp] theorem answerWith_now (a : Answer) (s : State) : (answerWith a s).now = s.now := rfl
@[simp] theorem answerWith_resets (a : Answer) (s : State) : (answerWith a s).resets = s.resets := rfl
@[simp] theorem answerWith_pending (a : Answer) (s : State) : (answerWith a s).pending = s.pending := rfl

@[simp] theorem raise_store (c : Attention) (s : State) : (raise c s).store = s.store := by
  simp [raise]
@[simp] theorem raise_clock (c : Attention) (s : State) : (raise c s).clock = s.clock := by
  simp [raise]
@[simp] theorem raise_channels (c : Attention) (s : State) : (raise c s).channels = s.channels := by
  simp [raise]
@[simp] theorem raise_water (c : Attention) (s : State) : (raise c s).water = s.water := by
  simp [raise]
@[simp] theorem raise_fieldLines (c : Attention) (s : State) : (raise c s).fieldLines = s.fieldLines := by
  simp [raise]
@[simp] theorem raise_sup (c : Attention) (s : State) : (raise c s).sup = s.sup := by
  simp [raise]
@[simp] theorem raise_lights (c : Attention) (s : State) : (raise c s).lights = s.lights := by
  simp [raise]
@[simp] theorem raise_play (c : Attention) (s : State) : (raise c s).play = s.play := by
  simp [raise]
@[simp] theorem raise_now (c : Attention) (s : State) : (raise c s).now = s.now := by
  simp [raise]
@[simp] theorem raise_resets (c : Attention) (s : State) : (raise c s).resets = s.resets := by
  simp [raise]
@[simp] theorem raise_pending (c : Attention) (s : State) : (raise c s).pending = s.pending := by
  simp [raise]

@[simp] theorem driveIdle_store (n : Nat) (s : State) : (driveIdle n s).store = s.store := by
  simp [driveIdle]
@[simp] theorem driveIdle_clock (n : Nat) (s : State) : (driveIdle n s).clock = s.clock := by
  simp [driveIdle]
@[simp] theorem driveIdle_channels (n : Nat) (s : State) : (driveIdle n s).channels = s.channels := by
  simp [driveIdle]
@[simp] theorem driveIdle_water (n : Nat) (s : State) : (driveIdle n s).water = s.water := by
  simp [driveIdle]
@[simp] theorem driveIdle_fieldLines (n : Nat) (s : State) : (driveIdle n s).fieldLines = s.fieldLines := by
  simp [driveIdle]
@[simp] theorem driveIdle_sup (n : Nat) (s : State) : (driveIdle n s).sup = s.sup := by
  simp [driveIdle]
@[simp] theorem driveIdle_lights (n : Nat) (s : State) : (driveIdle n s).lights = s.lights := by
  simp [driveIdle]
@[simp] theorem driveIdle_play (n : Nat) (s : State) : (driveIdle n s).play = s.play := by
  simp [driveIdle]
@[simp] theorem driveIdle_now (n : Nat) (s : State) : (driveIdle n s).now = s.now := by
  simp [driveIdle]
@[simp] theorem driveIdle_resets (n : Nat) (s : State) : (driveIdle n s).resets = s.resets := by
  simp [driveIdle]
@[simp] theorem driveIdle_pending (n : Nat) (s : State) : (driveIdle n s).pending = s.pending := by
  simp [driveIdle]

@[simp] theorem restartSilence_store (s : State) : (restartSilence s).store = s.store := by
  simp [restartSilence]
@[simp] theorem restartSilence_clock (s : State) : (restartSilence s).clock = s.clock := by
  simp [restartSilence]
@[simp] theorem restartSilence_channels (s : State) : (restartSilence s).channels = s.channels := by
  simp [restartSilence]
@[simp] theorem restartSilence_water (s : State) : (restartSilence s).water = s.water := by
  simp [restartSilence]
@[simp] theorem restartSilence_fieldLines (s : State) : (restartSilence s).fieldLines = s.fieldLines := by
  simp [restartSilence]
@[simp] theorem restartSilence_sup (s : State) : (restartSilence s).sup = s.sup := by
  simp [restartSilence]
@[simp] theorem restartSilence_lights (s : State) : (restartSilence s).lights = s.lights := by
  simp [restartSilence]
@[simp] theorem restartSilence_play (s : State) : (restartSilence s).play = s.play := by
  simp [restartSilence]
@[simp] theorem restartSilence_now (s : State) : (restartSilence s).now = s.now := by
  simp [restartSilence]
@[simp] theorem restartSilence_resets (s : State) : (restartSilence s).resets = s.resets := by
  simp [restartSilence]
@[simp] theorem restartSilence_pending (s : State) : (restartSilence s).pending = s.pending := by
  simp [restartSilence]

@[simp] theorem takeLink_store (b : List Byte) (w : Work) (s : State) : (takeLink b w s).store = s.store := by
  simp [takeLink]
@[simp] theorem takeLink_clock (b : List Byte) (w : Work) (s : State) : (takeLink b w s).clock = s.clock := by
  simp [takeLink]
@[simp] theorem takeLink_channels (b : List Byte) (w : Work) (s : State) : (takeLink b w s).channels = s.channels := by
  simp [takeLink]
@[simp] theorem takeLink_water (b : List Byte) (w : Work) (s : State) : (takeLink b w s).water = s.water := by
  simp [takeLink]
@[simp] theorem takeLink_fieldLines (b : List Byte) (w : Work) (s : State) : (takeLink b w s).fieldLines = s.fieldLines := by
  simp [takeLink]
@[simp] theorem takeLink_sup (b : List Byte) (w : Work) (s : State) : (takeLink b w s).sup = s.sup := by
  simp [takeLink]
@[simp] theorem takeLink_lights (b : List Byte) (w : Work) (s : State) : (takeLink b w s).lights = s.lights := by
  simp [takeLink]
@[simp] theorem takeLink_play (b : List Byte) (w : Work) (s : State) : (takeLink b w s).play = s.play := by
  simp [takeLink]
@[simp] theorem takeLink_now (b : List Byte) (w : Work) (s : State) : (takeLink b w s).now = s.now := by
  simp [takeLink]
@[simp] theorem takeLink_resets (b : List Byte) (w : Work) (s : State) : (takeLink b w s).resets = s.resets := by
  simp [takeLink]
@[simp] theorem takeLink_pending (b : List Byte) (w : Work) (s : State) : (takeLink b w s).pending = s.pending := by
  simp [takeLink]

@[simp] theorem emptyAtRestart_store (r : Request) (s : State) : (emptyAtRestart r s).store = s.store := by
  simp [emptyAtRestart]
@[simp] theorem emptyAtRestart_clock (r : Request) (s : State) : (emptyAtRestart r s).clock = s.clock := by
  simp [emptyAtRestart]
@[simp] theorem emptyAtRestart_channels (r : Request) (s : State) : (emptyAtRestart r s).channels = s.channels := by
  simp [emptyAtRestart]
@[simp] theorem emptyAtRestart_water (r : Request) (s : State) : (emptyAtRestart r s).water = s.water := by
  simp [emptyAtRestart]
@[simp] theorem emptyAtRestart_fieldLines (r : Request) (s : State) : (emptyAtRestart r s).fieldLines = s.fieldLines := by
  simp [emptyAtRestart]
@[simp] theorem emptyAtRestart_sup (r : Request) (s : State) : (emptyAtRestart r s).sup = s.sup := by
  simp [emptyAtRestart]
@[simp] theorem emptyAtRestart_lights (r : Request) (s : State) : (emptyAtRestart r s).lights = s.lights := by
  simp [emptyAtRestart]
@[simp] theorem emptyAtRestart_play (r : Request) (s : State) : (emptyAtRestart r s).play = s.play := by
  simp [emptyAtRestart]
@[simp] theorem emptyAtRestart_now (r : Request) (s : State) : (emptyAtRestart r s).now = s.now := by
  simp [emptyAtRestart]
@[simp] theorem emptyAtRestart_resets (r : Request) (s : State) : (emptyAtRestart r s).resets = s.resets := by
  simp [emptyAtRestart]
@[simp] theorem emptyAtRestart_pending (r : Request) (s : State) : (emptyAtRestart r s).pending = s.pending := by
  simp [emptyAtRestart]

@[simp] theorem placeAnswer_store (s : State) : (placeAnswer s).store = s.store := by
  unfold placeAnswer; split <;> rfl
@[simp] theorem placeAnswer_clock (s : State) : (placeAnswer s).clock = s.clock := by
  unfold placeAnswer; split <;> rfl
@[simp] theorem placeAnswer_channels (s : State) : (placeAnswer s).channels = s.channels := by
  unfold placeAnswer; split <;> rfl
@[simp] theorem placeAnswer_water (s : State) : (placeAnswer s).water = s.water := by
  unfold placeAnswer; split <;> rfl
@[simp] theorem placeAnswer_fieldLines (s : State) : (placeAnswer s).fieldLines = s.fieldLines := by
  unfold placeAnswer; split <;> rfl
@[simp] theorem placeAnswer_sup (s : State) : (placeAnswer s).sup = s.sup := by
  unfold placeAnswer; split <;> rfl
@[simp] theorem placeAnswer_lights (s : State) : (placeAnswer s).lights = s.lights := by
  unfold placeAnswer; split <;> rfl
@[simp] theorem placeAnswer_play (s : State) : (placeAnswer s).play = s.play := by
  unfold placeAnswer; split <;> rfl
@[simp] theorem placeAnswer_now (s : State) : (placeAnswer s).now = s.now := by
  unfold placeAnswer; split <;> rfl
@[simp] theorem placeAnswer_resets (s : State) : (placeAnswer s).resets = s.resets := by
  unfold placeAnswer; split <;> rfl
@[simp] theorem placeAnswer_pending (s : State) : (placeAnswer s).pending = s.pending := by
  unfold placeAnswer; split <;> rfl

@[simp] theorem dropCause_store (c : SafeCause) (s : State) : (dropCause c s).store = s.store := by
  simp [dropCause]
@[simp] theorem dropCause_clock (c : SafeCause) (s : State) : (dropCause c s).clock = s.clock := by
  simp [dropCause]
@[simp] theorem dropCause_channels (c : SafeCause) (s : State) : (dropCause c s).channels = s.channels := by
  simp [dropCause]
@[simp] theorem dropCause_water (c : SafeCause) (s : State) : (dropCause c s).water = s.water := by
  simp [dropCause]
@[simp] theorem dropCause_fieldLines (c : SafeCause) (s : State) : (dropCause c s).fieldLines = s.fieldLines := by
  simp [dropCause]
@[simp] theorem dropCause_lights (c : SafeCause) (s : State) : (dropCause c s).lights = s.lights := by
  simp [dropCause]
@[simp] theorem dropCause_play (c : SafeCause) (s : State) : (dropCause c s).play = s.play := by
  simp [dropCause]
@[simp] theorem dropCause_link (c : SafeCause) (s : State) : (dropCause c s).link = s.link := by
  simp [dropCause]
@[simp] theorem dropCause_now (c : SafeCause) (s : State) : (dropCause c s).now = s.now := by
  simp [dropCause]
@[simp] theorem dropCause_resets (c : SafeCause) (s : State) : (dropCause c s).resets = s.resets := by
  simp [dropCause]
@[simp] theorem dropCause_pending (c : SafeCause) (s : State) : (dropCause c s).pending = s.pending := by
  simp [dropCause]

@[simp] theorem enterSafe_store (s : State) : (enterSafe s).store = s.store := by
  simp [enterSafe]
@[simp] theorem enterSafe_channels (s : State) : (enterSafe s).channels = s.channels := by
  simp [enterSafe]
@[simp] theorem enterSafe_water (s : State) : (enterSafe s).water = s.water := by
  simp [enterSafe]
@[simp] theorem enterSafe_fieldLines (s : State) : (enterSafe s).fieldLines = s.fieldLines := by
  simp [enterSafe]
@[simp] theorem enterSafe_now (s : State) : (enterSafe s).now = s.now := by
  simp [enterSafe]
@[simp] theorem enterSafe_resets (s : State) : (enterSafe s).resets = s.resets := by
  simp [enterSafe]
@[simp] theorem enterSafe_pending (s : State) : (enterSafe s).pending = s.pending := by
  simp [enterSafe]

@[simp] theorem addCause_store (c : SafeCause) (s : State) : (addCause c s).store = s.store := by
  unfold addCause; dsimp only; split_ifs <;> simp
@[simp] theorem addCause_channels (c : SafeCause) (s : State) : (addCause c s).channels = s.channels := by
  unfold addCause; dsimp only; split_ifs <;> simp
@[simp] theorem addCause_water (c : SafeCause) (s : State) : (addCause c s).water = s.water := by
  unfold addCause; dsimp only; split_ifs <;> simp
@[simp] theorem addCause_fieldLines (c : SafeCause) (s : State) : (addCause c s).fieldLines = s.fieldLines := by
  unfold addCause; dsimp only; split_ifs <;> simp
@[simp] theorem addCause_now (c : SafeCause) (s : State) : (addCause c s).now = s.now := by
  unfold addCause; dsimp only; split_ifs <;> simp
@[simp] theorem addCause_resets (c : SafeCause) (s : State) : (addCause c s).resets = s.resets := by
  unfold addCause; dsimp only; split_ifs <;> simp
@[simp] theorem addCause_pending (c : SafeCause) (s : State) : (addCause c s).pending = s.pending := by
  unfold addCause; dsimp only; split_ifs <;> simp

@[simp] theorem setCondition_store (c : SafeCause) (b : Bool) (s : State) : (setCondition c b s).store = s.store := by
  unfold setCondition; split_ifs <;> simp
@[simp] theorem setCondition_channels (c : SafeCause) (b : Bool) (s : State) : (setCondition c b s).channels = s.channels := by
  unfold setCondition; split_ifs <;> simp
@[simp] theorem setCondition_water (c : SafeCause) (b : Bool) (s : State) : (setCondition c b s).water = s.water := by
  unfold setCondition; split_ifs <;> simp
@[simp] theorem setCondition_fieldLines (c : SafeCause) (b : Bool) (s : State) : (setCondition c b s).fieldLines = s.fieldLines := by
  unfold setCondition; split_ifs <;> simp
@[simp] theorem setCondition_now (c : SafeCause) (b : Bool) (s : State) : (setCondition c b s).now = s.now := by
  unfold setCondition; split_ifs <;> simp
@[simp] theorem setCondition_resets (c : SafeCause) (b : Bool) (s : State) : (setCondition c b s).resets = s.resets := by
  unfold setCondition; split_ifs <;> simp
@[simp] theorem setCondition_pending (c : SafeCause) (b : Bool) (s : State) : (setCondition c b s).pending = s.pending := by
  unfold setCondition; split_ifs <;> simp

@[simp] theorem leaveSafe_store (k : ClockState) (s : State) : (leaveSafe k s).store = s.store := by
  simp [leaveSafe]
@[simp] theorem leaveSafe_channels (k : ClockState) (s : State) : (leaveSafe k s).channels = s.channels := by
  simp [leaveSafe]
@[simp] theorem leaveSafe_water (k : ClockState) (s : State) : (leaveSafe k s).water = s.water := by
  simp [leaveSafe]
@[simp] theorem leaveSafe_fieldLines (k : ClockState) (s : State) : (leaveSafe k s).fieldLines = s.fieldLines := by
  simp [leaveSafe]
@[simp] theorem leaveSafe_sup (k : ClockState) (s : State) : (leaveSafe k s).sup = s.sup := by
  simp [leaveSafe]
@[simp] theorem leaveSafe_lights (k : ClockState) (s : State) : (leaveSafe k s).lights = s.lights := by
  simp [leaveSafe]
@[simp] theorem leaveSafe_link (k : ClockState) (s : State) : (leaveSafe k s).link = s.link := by
  simp [leaveSafe]
@[simp] theorem leaveSafe_now (k : ClockState) (s : State) : (leaveSafe k s).now = s.now := by
  simp [leaveSafe]
@[simp] theorem leaveSafe_resets (k : ClockState) (s : State) : (leaveSafe k s).resets = s.resets := by
  simp [leaveSafe]
@[simp] theorem leaveSafe_pending (k : ClockState) (s : State) : (leaveSafe k s).pending = s.pending := by
  simp [leaveSafe]

@[simp] theorem evalCritical_store (s : State) : (evalCritical s).store = s.store := by
  simp [evalCritical]
@[simp] theorem evalCritical_channels (s : State) : (evalCritical s).channels = s.channels := by
  simp [evalCritical]
@[simp] theorem evalCritical_water (s : State) : (evalCritical s).water = s.water := by
  simp [evalCritical]
@[simp] theorem evalCritical_fieldLines (s : State) : (evalCritical s).fieldLines = s.fieldLines := by
  simp [evalCritical]
@[simp] theorem evalCritical_now (s : State) : (evalCritical s).now = s.now := by
  simp [evalCritical]
@[simp] theorem evalCritical_resets (s : State) : (evalCritical s).resets = s.resets := by
  simp [evalCritical]
@[simp] theorem evalCritical_pending (s : State) : (evalCritical s).pending = s.pending := by
  simp [evalCritical]

@[simp] theorem handOverChase_store (t : Nat) (s : State) : (handOverChase t s).store = s.store := by
  simp [handOverChase]
@[simp] theorem handOverChase_clock (t : Nat) (s : State) : (handOverChase t s).clock = s.clock := by
  simp [handOverChase]
@[simp] theorem handOverChase_channels (t : Nat) (s : State) : (handOverChase t s).channels = s.channels := by
  simp [handOverChase]
@[simp] theorem handOverChase_water (t : Nat) (s : State) : (handOverChase t s).water = s.water := by
  simp [handOverChase]
@[simp] theorem handOverChase_fieldLines (t : Nat) (s : State) : (handOverChase t s).fieldLines = s.fieldLines := by
  simp [handOverChase]
@[simp] theorem handOverChase_sup (t : Nat) (s : State) : (handOverChase t s).sup = s.sup := by
  simp [handOverChase]
@[simp] theorem handOverChase_lights (t : Nat) (s : State) : (handOverChase t s).lights = s.lights := by
  simp [handOverChase]
@[simp] theorem handOverChase_link (t : Nat) (s : State) : (handOverChase t s).link = s.link := by
  simp [handOverChase]
@[simp] theorem handOverChase_now (t : Nat) (s : State) : (handOverChase t s).now = s.now := by
  simp [handOverChase]
@[simp] theorem handOverChase_resets (t : Nat) (s : State) : (handOverChase t s).resets = s.resets := by
  simp [handOverChase]
@[simp] theorem handOverChase_pending (t : Nat) (s : State) : (handOverChase t s).pending = s.pending := by
  simp [handOverChase]

@[simp] theorem chaseAll_clock (t u : Nat) (s : State) : (chaseAll t u s).clock = s.clock := by
  simp [chaseAll]
@[simp] theorem chaseAll_water (t u : Nat) (s : State) : (chaseAll t u s).water = s.water := by
  simp [chaseAll]
@[simp] theorem chaseAll_fieldLines (t u : Nat) (s : State) : (chaseAll t u s).fieldLines = s.fieldLines := by
  simp [chaseAll]
@[simp] theorem chaseAll_sup (t u : Nat) (s : State) : (chaseAll t u s).sup = s.sup := by
  simp [chaseAll]
@[simp] theorem chaseAll_lights (t u : Nat) (s : State) : (chaseAll t u s).lights = s.lights := by
  simp [chaseAll]
@[simp] theorem chaseAll_link (t u : Nat) (s : State) : (chaseAll t u s).link = s.link := by
  simp [chaseAll]
@[simp] theorem chaseAll_now (t u : Nat) (s : State) : (chaseAll t u s).now = s.now := by
  simp [chaseAll]
@[simp] theorem chaseAll_resets (t u : Nat) (s : State) : (chaseAll t u s).resets = s.resets := by
  simp [chaseAll]
@[simp] theorem chaseAll_pending (t u : Nat) (s : State) : (chaseAll t u s).pending = s.pending := by
  simp [chaseAll]

@[simp] theorem chaseProgramme_clock (t : Nat) (s : State) : (chaseProgramme t s).clock = s.clock := by
  simp [chaseProgramme]
@[simp] theorem chaseProgramme_water (t : Nat) (s : State) : (chaseProgramme t s).water = s.water := by
  simp [chaseProgramme]
@[simp] theorem chaseProgramme_fieldLines (t : Nat) (s : State) : (chaseProgramme t s).fieldLines = s.fieldLines := by
  simp [chaseProgramme]
@[simp] theorem chaseProgramme_sup (t : Nat) (s : State) : (chaseProgramme t s).sup = s.sup := by
  simp [chaseProgramme]
@[simp] theorem chaseProgramme_lights (t : Nat) (s : State) : (chaseProgramme t s).lights = s.lights := by
  simp [chaseProgramme]
@[simp] theorem chaseProgramme_link (t : Nat) (s : State) : (chaseProgramme t s).link = s.link := by
  simp [chaseProgramme]
@[simp] theorem chaseProgramme_now (t : Nat) (s : State) : (chaseProgramme t s).now = s.now := by
  simp [chaseProgramme]
@[simp] theorem chaseProgramme_resets (t : Nat) (s : State) : (chaseProgramme t s).resets = s.resets := by
  simp [chaseProgramme]
@[simp] theorem chaseProgramme_pending (t : Nat) (s : State) : (chaseProgramme t s).pending = s.pending := by
  simp [chaseProgramme]

@[simp] theorem clearShow_clock (s : State) : (clearShow s).clock = s.clock := by
  simp [clearShow]
@[simp] theorem clearShow_water (s : State) : (clearShow s).water = s.water := by
  simp [clearShow]
@[simp] theorem clearShow_fieldLines (s : State) : (clearShow s).fieldLines = s.fieldLines := by
  simp [clearShow]
@[simp] theorem clearShow_sup (s : State) : (clearShow s).sup = s.sup := by
  simp [clearShow]
@[simp] theorem clearShow_lights (s : State) : (clearShow s).lights = s.lights := by
  simp [clearShow]
@[simp] theorem clearShow_link (s : State) : (clearShow s).link = s.link := by
  simp [clearShow]
@[simp] theorem clearShow_now (s : State) : (clearShow s).now = s.now := by
  simp [clearShow]
@[simp] theorem clearShow_resets (s : State) : (clearShow s).resets = s.resets := by
  simp [clearShow]
@[simp] theorem clearShow_pending (s : State) : (clearShow s).pending = s.pending := by
  simp [clearShow]

@[simp] theorem recordCompletions_clock (t : Nat) (s : State) : (recordCompletions t s).clock = s.clock := by
  simp [recordCompletions]
@[simp] theorem recordCompletions_channels (t : Nat) (s : State) : (recordCompletions t s).channels = s.channels := by
  simp [recordCompletions]
@[simp] theorem recordCompletions_water (t : Nat) (s : State) : (recordCompletions t s).water = s.water := by
  simp [recordCompletions]
@[simp] theorem recordCompletions_fieldLines (t : Nat) (s : State) : (recordCompletions t s).fieldLines = s.fieldLines := by
  simp [recordCompletions]
@[simp] theorem recordCompletions_sup (t : Nat) (s : State) : (recordCompletions t s).sup = s.sup := by
  simp [recordCompletions]
@[simp] theorem recordCompletions_lights (t : Nat) (s : State) : (recordCompletions t s).lights = s.lights := by
  simp [recordCompletions]
@[simp] theorem recordCompletions_play (t : Nat) (s : State) : (recordCompletions t s).play = s.play := by
  simp [recordCompletions]
@[simp] theorem recordCompletions_link (t : Nat) (s : State) : (recordCompletions t s).link = s.link := by
  simp [recordCompletions]
@[simp] theorem recordCompletions_now (t : Nat) (s : State) : (recordCompletions t s).now = s.now := by
  simp [recordCompletions]
@[simp] theorem recordCompletions_resets (t : Nat) (s : State) : (recordCompletions t s).resets = s.resets := by
  simp [recordCompletions]
@[simp] theorem recordCompletions_pending (t : Nat) (s : State) : (recordCompletions t s).pending = s.pending := by
  simp [recordCompletions]

@[simp] theorem takeDue_clock (t : Nat) (s : State) : (takeDue t s).clock = s.clock := by
  unfold takeDue; dsimp only; (repeat' split) <;> simp
@[simp] theorem takeDue_water (t : Nat) (s : State) : (takeDue t s).water = s.water := by
  unfold takeDue; dsimp only; (repeat' split) <;> simp
@[simp] theorem takeDue_fieldLines (t : Nat) (s : State) : (takeDue t s).fieldLines = s.fieldLines := by
  unfold takeDue; dsimp only; (repeat' split) <;> simp
@[simp] theorem takeDue_sup (t : Nat) (s : State) : (takeDue t s).sup = s.sup := by
  unfold takeDue; dsimp only; (repeat' split) <;> simp
@[simp] theorem takeDue_lights (t : Nat) (s : State) : (takeDue t s).lights = s.lights := by
  unfold takeDue; dsimp only; (repeat' split) <;> simp
@[simp] theorem takeDue_now (t : Nat) (s : State) : (takeDue t s).now = s.now := by
  unfold takeDue; dsimp only; (repeat' split) <;> simp
@[simp] theorem takeDue_resets (t : Nat) (s : State) : (takeDue t s).resets = s.resets := by
  unfold takeDue; dsimp only; (repeat' split) <;> simp
@[simp] theorem takeDue_pending (t : Nat) (s : State) : (takeDue t s).pending = s.pending := by
  unfold takeDue; dsimp only; (repeat' split) <;> simp

@[simp] theorem doReturnWork_store (s : State) : (doReturnWork s).store = s.store := by
  unfold doReturnWork; split_ifs <;> rfl
@[simp] theorem doReturnWork_channels (s : State) : (doReturnWork s).channels = s.channels := by
  unfold doReturnWork; split_ifs <;> rfl
@[simp] theorem doReturnWork_water (s : State) : (doReturnWork s).water = s.water := by
  unfold doReturnWork; split_ifs <;> rfl
@[simp] theorem doReturnWork_fieldLines (s : State) : (doReturnWork s).fieldLines = s.fieldLines := by
  unfold doReturnWork; split_ifs <;> rfl
@[simp] theorem doReturnWork_sup (s : State) : (doReturnWork s).sup = s.sup := by
  unfold doReturnWork; split_ifs <;> rfl
@[simp] theorem doReturnWork_play (s : State) : (doReturnWork s).play = s.play := by
  unfold doReturnWork; split_ifs <;> rfl
@[simp] theorem doReturnWork_link (s : State) : (doReturnWork s).link = s.link := by
  unfold doReturnWork; split_ifs <;> rfl
@[simp] theorem doReturnWork_now (s : State) : (doReturnWork s).now = s.now := by
  unfold doReturnWork; split_ifs <;> rfl
@[simp] theorem doReturnWork_resets (s : State) : (doReturnWork s).resets = s.resets := by
  unfold doReturnWork; split_ifs <;> rfl
@[simp] theorem doReturnWork_pending (s : State) : (doReturnWork s).pending = s.pending := by
  unfold doReturnWork; split_ifs <;> rfl

@[simp] theorem setRunning_store (s : State) : (setRunning s).store = s.store := by
  rfl
@[simp] theorem setRunning_channels (s : State) : (setRunning s).channels = s.channels := by
  rfl
@[simp] theorem setRunning_water (s : State) : (setRunning s).water = s.water := by
  rfl
@[simp] theorem setRunning_fieldLines (s : State) : (setRunning s).fieldLines = s.fieldLines := by
  rfl
@[simp] theorem setRunning_sup (s : State) : (setRunning s).sup = s.sup := by
  rfl
@[simp] theorem setRunning_lights (s : State) : (setRunning s).lights = s.lights := by
  rfl
@[simp] theorem setRunning_play (s : State) : (setRunning s).play = s.play := by
  rfl
@[simp] theorem setRunning_link (s : State) : (setRunning s).link = s.link := by
  rfl
@[simp] theorem setRunning_now (s : State) : (setRunning s).now = s.now := by
  rfl
@[simp] theorem setRunning_resets (s : State) : (setRunning s).resets = s.resets := by
  rfl
@[simp] theorem setRunning_pending (s : State) : (setRunning s).pending = s.pending := by
  rfl

@[simp] theorem updateGroup_store (n : Fin 32) (f : Group → Group) (s : State) : (updateGroup n f s).store = s.store := by
  simp [updateGroup]
@[simp] theorem updateGroup_clock (n : Fin 32) (f : Group → Group) (s : State) : (updateGroup n f s).clock = s.clock := by
  simp [updateGroup]
@[simp] theorem updateGroup_channels (n : Fin 32) (f : Group → Group) (s : State) : (updateGroup n f s).channels = s.channels := by
  simp [updateGroup]
@[simp] theorem updateGroup_fieldLines (n : Fin 32) (f : Group → Group) (s : State) : (updateGroup n f s).fieldLines = s.fieldLines := by
  simp [updateGroup]
@[simp] theorem updateGroup_sup (n : Fin 32) (f : Group → Group) (s : State) : (updateGroup n f s).sup = s.sup := by
  simp [updateGroup]
@[simp] theorem updateGroup_lights (n : Fin 32) (f : Group → Group) (s : State) : (updateGroup n f s).lights = s.lights := by
  simp [updateGroup]
@[simp] theorem updateGroup_play (n : Fin 32) (f : Group → Group) (s : State) : (updateGroup n f s).play = s.play := by
  simp [updateGroup]
@[simp] theorem updateGroup_link (n : Fin 32) (f : Group → Group) (s : State) : (updateGroup n f s).link = s.link := by
  simp [updateGroup]
@[simp] theorem updateGroup_now (n : Fin 32) (f : Group → Group) (s : State) : (updateGroup n f s).now = s.now := by
  simp [updateGroup]
@[simp] theorem updateGroup_resets (n : Fin 32) (f : Group → Group) (s : State) : (updateGroup n f s).resets = s.resets := by
  simp [updateGroup]
@[simp] theorem updateGroup_pending (n : Fin 32) (f : Group → Group) (s : State) : (updateGroup n f s).pending = s.pending := by
  simp [updateGroup]

@[simp] theorem updatePumpGroup_store (i : Fin 40) (f : Group → Group) (s : State) : (updatePumpGroup i f s).store = s.store := by
  unfold updatePumpGroup; split <;> simp
@[simp] theorem updatePumpGroup_clock (i : Fin 40) (f : Group → Group) (s : State) : (updatePumpGroup i f s).clock = s.clock := by
  unfold updatePumpGroup; split <;> simp
@[simp] theorem updatePumpGroup_channels (i : Fin 40) (f : Group → Group) (s : State) : (updatePumpGroup i f s).channels = s.channels := by
  unfold updatePumpGroup; split <;> simp
@[simp] theorem updatePumpGroup_fieldLines (i : Fin 40) (f : Group → Group) (s : State) : (updatePumpGroup i f s).fieldLines = s.fieldLines := by
  unfold updatePumpGroup; split <;> simp
@[simp] theorem updatePumpGroup_sup (i : Fin 40) (f : Group → Group) (s : State) : (updatePumpGroup i f s).sup = s.sup := by
  unfold updatePumpGroup; split <;> simp
@[simp] theorem updatePumpGroup_lights (i : Fin 40) (f : Group → Group) (s : State) : (updatePumpGroup i f s).lights = s.lights := by
  unfold updatePumpGroup; split <;> simp
@[simp] theorem updatePumpGroup_play (i : Fin 40) (f : Group → Group) (s : State) : (updatePumpGroup i f s).play = s.play := by
  unfold updatePumpGroup; split <;> simp
@[simp] theorem updatePumpGroup_link (i : Fin 40) (f : Group → Group) (s : State) : (updatePumpGroup i f s).link = s.link := by
  unfold updatePumpGroup; split <;> simp
@[simp] theorem updatePumpGroup_now (i : Fin 40) (f : Group → Group) (s : State) : (updatePumpGroup i f s).now = s.now := by
  unfold updatePumpGroup; split <;> simp
@[simp] theorem updatePumpGroup_resets (i : Fin 40) (f : Group → Group) (s : State) : (updatePumpGroup i f s).resets = s.resets := by
  unfold updatePumpGroup; split <;> simp
@[simp] theorem updatePumpGroup_pending (i : Fin 40) (f : Group → Group) (s : State) : (updatePumpGroup i f s).pending = s.pending := by
  unfold updatePumpGroup; split <;> simp

@[simp] theorem followLost_store (i : Fin 40) (k : NodeState) (s : State) : (followLost i k s).store = s.store := by
  unfold followLost; split <;> simp
@[simp] theorem followLost_clock (i : Fin 40) (k : NodeState) (s : State) : (followLost i k s).clock = s.clock := by
  unfold followLost; split <;> simp
@[simp] theorem followLost_channels (i : Fin 40) (k : NodeState) (s : State) : (followLost i k s).channels = s.channels := by
  unfold followLost; split <;> simp
@[simp] theorem followLost_fieldLines (i : Fin 40) (k : NodeState) (s : State) : (followLost i k s).fieldLines = s.fieldLines := by
  unfold followLost; split <;> simp
@[simp] theorem followLost_sup (i : Fin 40) (k : NodeState) (s : State) : (followLost i k s).sup = s.sup := by
  unfold followLost; split <;> simp
@[simp] theorem followLost_lights (i : Fin 40) (k : NodeState) (s : State) : (followLost i k s).lights = s.lights := by
  unfold followLost; split <;> simp
@[simp] theorem followLost_play (i : Fin 40) (k : NodeState) (s : State) : (followLost i k s).play = s.play := by
  unfold followLost; split <;> simp
@[simp] theorem followLost_link (i : Fin 40) (k : NodeState) (s : State) : (followLost i k s).link = s.link := by
  unfold followLost; split <;> simp
@[simp] theorem followLost_now (i : Fin 40) (k : NodeState) (s : State) : (followLost i k s).now = s.now := by
  unfold followLost; split <;> simp
@[simp] theorem followLost_resets (i : Fin 40) (k : NodeState) (s : State) : (followLost i k s).resets = s.resets := by
  unfold followLost; split <;> simp
@[simp] theorem followLost_pending (i : Fin 40) (k : NodeState) (s : State) : (followLost i k s).pending = s.pending := by
  unfold followLost; split <;> simp

@[simp] theorem writeNode_store (i : Fin 40) (n : Node) (s : State) : (writeNode i n s).store = s.store := by
  unfold writeNode; dsimp only; split_ifs <;> simp
@[simp] theorem writeNode_channels (i : Fin 40) (n : Node) (s : State) : (writeNode i n s).channels = s.channels := by
  unfold writeNode; dsimp only; split_ifs <;> simp
@[simp] theorem writeNode_now (i : Fin 40) (n : Node) (s : State) : (writeNode i n s).now = s.now := by
  unfold writeNode; dsimp only; split_ifs <;> simp
@[simp] theorem writeNode_resets (i : Fin 40) (n : Node) (s : State) : (writeNode i n s).resets = s.resets := by
  unfold writeNode; dsimp only; split_ifs <;> simp
@[simp] theorem writeNode_pending (i : Fin 40) (n : Node) (s : State) : (writeNode i n s).pending = s.pending := by
  unfold writeNode; dsimp only; split_ifs <;> simp

@[simp] theorem compute_store (n : Fin 32) (s : State) : (compute n s).store = s.store := by
  unfold compute; dsimp only; split_ifs <;> simp
@[simp] theorem compute_clock (n : Fin 32) (s : State) : (compute n s).clock = s.clock := by
  unfold compute; dsimp only; split_ifs <;> simp
@[simp] theorem compute_channels (n : Fin 32) (s : State) : (compute n s).channels = s.channels := by
  unfold compute; dsimp only; split_ifs <;> simp
@[simp] theorem compute_fieldLines (n : Fin 32) (s : State) : (compute n s).fieldLines = s.fieldLines := by
  unfold compute; dsimp only; split_ifs <;> simp
@[simp] theorem compute_sup (n : Fin 32) (s : State) : (compute n s).sup = s.sup := by
  unfold compute; dsimp only; split_ifs <;> simp
@[simp] theorem compute_lights (n : Fin 32) (s : State) : (compute n s).lights = s.lights := by
  unfold compute; dsimp only; split_ifs <;> simp
@[simp] theorem compute_play (n : Fin 32) (s : State) : (compute n s).play = s.play := by
  unfold compute; dsimp only; split_ifs <;> simp
@[simp] theorem compute_now (n : Fin 32) (s : State) : (compute n s).now = s.now := by
  unfold compute; dsimp only; split_ifs <;> simp
@[simp] theorem compute_resets (n : Fin 32) (s : State) : (compute n s).resets = s.resets := by
  unfold compute; dsimp only; split_ifs <;> simp
@[simp] theorem compute_pending (n : Fin 32) (s : State) : (compute n s).pending = s.pending := by
  unfold compute; dsimp only; split_ifs <;> simp

@[simp] theorem beginTurn_store (l : Line) (i : Fin 40) (k : Turn) (s : State) : (beginTurn l i k s).store = s.store := by
  simp [beginTurn]
@[simp] theorem beginTurn_clock (l : Line) (i : Fin 40) (k : Turn) (s : State) : (beginTurn l i k s).clock = s.clock := by
  simp [beginTurn]
@[simp] theorem beginTurn_channels (l : Line) (i : Fin 40) (k : Turn) (s : State) : (beginTurn l i k s).channels = s.channels := by
  simp [beginTurn]
@[simp] theorem beginTurn_water (l : Line) (i : Fin 40) (k : Turn) (s : State) : (beginTurn l i k s).water = s.water := by
  simp [beginTurn]
@[simp] theorem beginTurn_sup (l : Line) (i : Fin 40) (k : Turn) (s : State) : (beginTurn l i k s).sup = s.sup := by
  simp [beginTurn]
@[simp] theorem beginTurn_lights (l : Line) (i : Fin 40) (k : Turn) (s : State) : (beginTurn l i k s).lights = s.lights := by
  simp [beginTurn]
@[simp] theorem beginTurn_play (l : Line) (i : Fin 40) (k : Turn) (s : State) : (beginTurn l i k s).play = s.play := by
  simp [beginTurn]
@[simp] theorem beginTurn_link (l : Line) (i : Fin 40) (k : Turn) (s : State) : (beginTurn l i k s).link = s.link := by
  simp [beginTurn]
@[simp] theorem beginTurn_now (l : Line) (i : Fin 40) (k : Turn) (s : State) : (beginTurn l i k s).now = s.now := by
  simp [beginTurn]
@[simp] theorem beginTurn_resets (l : Line) (i : Fin 40) (k : Turn) (s : State) : (beginTurn l i k s).resets = s.resets := by
  simp [beginTurn]
@[simp] theorem beginTurn_pending (l : Line) (i : Fin 40) (k : Turn) (s : State) : (beginTurn l i k s).pending = s.pending := by
  simp [beginTurn]

@[simp] theorem wordClockEdge_store (s : State) : (wordClockEdge s).store = s.store := by
  simp [wordClockEdge]
@[simp] theorem wordClockEdge_channels (s : State) : (wordClockEdge s).channels = s.channels := by
  simp [wordClockEdge]
@[simp] theorem wordClockEdge_water (s : State) : (wordClockEdge s).water = s.water := by
  simp [wordClockEdge]
@[simp] theorem wordClockEdge_fieldLines (s : State) : (wordClockEdge s).fieldLines = s.fieldLines := by
  simp [wordClockEdge]
@[simp] theorem wordClockEdge_lights (s : State) : (wordClockEdge s).lights = s.lights := by
  simp [wordClockEdge]
@[simp] theorem wordClockEdge_play (s : State) : (wordClockEdge s).play = s.play := by
  simp [wordClockEdge]
@[simp] theorem wordClockEdge_link (s : State) : (wordClockEdge s).link = s.link := by
  simp [wordClockEdge]
@[simp] theorem wordClockEdge_now (s : State) : (wordClockEdge s).now = s.now := by
  simp [wordClockEdge]
@[simp] theorem wordClockEdge_resets (s : State) : (wordClockEdge s).resets = s.resets := by
  simp [wordClockEdge]
@[simp] theorem wordClockEdge_pending (s : State) : (wordClockEdge s).pending = s.pending := by
  simp [wordClockEdge]

@[simp] theorem countFrame_store (s : State) : (countFrame s).store = s.store := by
  unfold countFrame; split_ifs <;> rfl
@[simp] theorem countFrame_channels (s : State) : (countFrame s).channels = s.channels := by
  unfold countFrame; split_ifs <;> rfl
@[simp] theorem countFrame_water (s : State) : (countFrame s).water = s.water := by
  unfold countFrame; split_ifs <;> rfl
@[simp] theorem countFrame_fieldLines (s : State) : (countFrame s).fieldLines = s.fieldLines := by
  unfold countFrame; split_ifs <;> rfl
@[simp] theorem countFrame_sup (s : State) : (countFrame s).sup = s.sup := by
  unfold countFrame; split_ifs <;> rfl
@[simp] theorem countFrame_lights (s : State) : (countFrame s).lights = s.lights := by
  unfold countFrame; split_ifs <;> rfl
@[simp] theorem countFrame_play (s : State) : (countFrame s).play = s.play := by
  unfold countFrame; split_ifs <;> rfl
@[simp] theorem countFrame_link (s : State) : (countFrame s).link = s.link := by
  unfold countFrame; split_ifs <;> rfl
@[simp] theorem countFrame_now (s : State) : (countFrame s).now = s.now := by
  unfold countFrame; split_ifs <;> rfl
@[simp] theorem countFrame_resets (s : State) : (countFrame s).resets = s.resets := by
  unfold countFrame; split_ifs <;> rfl
@[simp] theorem countFrame_pending (s : State) : (countFrame s).pending = s.pending := by
  unfold countFrame; split_ifs <;> rfl

@[simp] theorem buildFrame_store (s : State) : (buildFrame s).store = s.store := by
  unfold buildFrame; split <;> rfl
@[simp] theorem buildFrame_clock (s : State) : (buildFrame s).clock = s.clock := by
  unfold buildFrame; split <;> rfl
@[simp] theorem buildFrame_channels (s : State) : (buildFrame s).channels = s.channels := by
  unfold buildFrame; split <;> rfl
@[simp] theorem buildFrame_water (s : State) : (buildFrame s).water = s.water := by
  unfold buildFrame; split <;> rfl
@[simp] theorem buildFrame_fieldLines (s : State) : (buildFrame s).fieldLines = s.fieldLines := by
  unfold buildFrame; split <;> rfl
@[simp] theorem buildFrame_sup (s : State) : (buildFrame s).sup = s.sup := by
  unfold buildFrame; split <;> rfl
@[simp] theorem buildFrame_lights (s : State) : (buildFrame s).lights = s.lights := by
  unfold buildFrame; split <;> rfl
@[simp] theorem buildFrame_link (s : State) : (buildFrame s).link = s.link := by
  unfold buildFrame; split <;> rfl
@[simp] theorem buildFrame_now (s : State) : (buildFrame s).now = s.now := by
  unfold buildFrame; split <;> rfl
@[simp] theorem buildFrame_resets (s : State) : (buildFrame s).resets = s.resets := by
  unfold buildFrame; split <;> rfl
@[simp] theorem buildFrame_pending (s : State) : (buildFrame s).pending = s.pending := by
  unfold buildFrame; split <;> rfl

@[simp] theorem clearLatched_store (s : State) : (clearLatched s).store = s.store := by
  simp [clearLatched]
@[simp] theorem clearLatched_clock (s : State) : (clearLatched s).clock = s.clock := by
  simp [clearLatched]
@[simp] theorem clearLatched_channels (s : State) : (clearLatched s).channels = s.channels := by
  simp [clearLatched]
@[simp] theorem clearLatched_water (s : State) : (clearLatched s).water = s.water := by
  simp [clearLatched]
@[simp] theorem clearLatched_fieldLines (s : State) : (clearLatched s).fieldLines = s.fieldLines := by
  simp [clearLatched]
@[simp] theorem clearLatched_lights (s : State) : (clearLatched s).lights = s.lights := by
  simp [clearLatched]
@[simp] theorem clearLatched_play (s : State) : (clearLatched s).play = s.play := by
  simp [clearLatched]
@[simp] theorem clearLatched_link (s : State) : (clearLatched s).link = s.link := by
  simp [clearLatched]
@[simp] theorem clearLatched_now (s : State) : (clearLatched s).now = s.now := by
  simp [clearLatched]
@[simp] theorem clearLatched_resets (s : State) : (clearLatched s).resets = s.resets := by
  simp [clearLatched]
@[simp] theorem clearLatched_pending (s : State) : (clearLatched s).pending = s.pending := by
  simp [clearLatched]

@[simp] theorem emptyShow_clock (s : State) : (emptyShow s).clock = s.clock := by
  simp [emptyShow]
@[simp] theorem emptyShow_water (s : State) : (emptyShow s).water = s.water := by
  simp [emptyShow]
@[simp] theorem emptyShow_fieldLines (s : State) : (emptyShow s).fieldLines = s.fieldLines := by
  simp [emptyShow]
@[simp] theorem emptyShow_sup (s : State) : (emptyShow s).sup = s.sup := by
  simp [emptyShow]
@[simp] theorem emptyShow_lights (s : State) : (emptyShow s).lights = s.lights := by
  simp [emptyShow]
@[simp] theorem emptyShow_link (s : State) : (emptyShow s).link = s.link := by
  simp [emptyShow]
@[simp] theorem emptyShow_now (s : State) : (emptyShow s).now = s.now := by
  simp [emptyShow]
@[simp] theorem emptyShow_resets (s : State) : (emptyShow s).resets = s.resets := by
  simp [emptyShow]
@[simp] theorem emptyShow_pending (s : State) : (emptyShow s).pending = s.pending := by
  simp [emptyShow]

@[simp] theorem finishLoad_store (k : Nat) (fs : List Frame) (s : State) : (finishLoad k fs s).store = s.store := by
  simp [finishLoad]
@[simp] theorem finishLoad_clock (k : Nat) (fs : List Frame) (s : State) : (finishLoad k fs s).clock = s.clock := by
  simp [finishLoad]
@[simp] theorem finishLoad_channels (k : Nat) (fs : List Frame) (s : State) : (finishLoad k fs s).channels = s.channels := by
  simp [finishLoad]
@[simp] theorem finishLoad_water (k : Nat) (fs : List Frame) (s : State) : (finishLoad k fs s).water = s.water := by
  simp [finishLoad]
@[simp] theorem finishLoad_fieldLines (k : Nat) (fs : List Frame) (s : State) : (finishLoad k fs s).fieldLines = s.fieldLines := by
  simp [finishLoad]
@[simp] theorem finishLoad_sup (k : Nat) (fs : List Frame) (s : State) : (finishLoad k fs s).sup = s.sup := by
  simp [finishLoad]
@[simp] theorem finishLoad_lights (k : Nat) (fs : List Frame) (s : State) : (finishLoad k fs s).lights = s.lights := by
  simp [finishLoad]
@[simp] theorem finishLoad_now (k : Nat) (fs : List Frame) (s : State) : (finishLoad k fs s).now = s.now := by
  simp [finishLoad]
@[simp] theorem finishLoad_resets (k : Nat) (fs : List Frame) (s : State) : (finishLoad k fs s).resets = s.resets := by
  simp [finishLoad]
@[simp] theorem finishLoad_pending (k : Nat) (fs : List Frame) (s : State) : (finishLoad k fs s).pending = s.pending := by
  simp [finishLoad]

end Sys2Proof.Machine
end

