-- ==== Sys2Proof/Laws/Ops.lean ====
section
/-! SUPPORT. What each shared operation does: reading operands, attention, the safe causes, entering and
leaving SAFE, and how a request reaches its owner. -/

namespace Sys2Proof.Machine

open Sys2Proof.Safety

/-! ### Operands -/

theorem fin?_eq_some {n k : Nat} {i : Fin n} : fin? n k = some i ↔ k = i.val := by
  unfold fin?
  split_ifs with h
  · simp only [Option.some.injEq, Fin.ext_iff]
  · simp only [false_iff]
    rintro rfl
    exact h i.isLt

@[simp] theorem fin?_val {n : Nat} (i : Fin n) : fin? n i.val = some i := fin?_eq_some.2 rfl

theorem fin?_of_lt {n k : Nat} (h : k < n) : fin? n k = some ⟨k, h⟩ := by simp [fin?, h]

theorem fin?_eq_none {n k : Nat} : fin? n k = none ↔ n ≤ k := by
  unfold fin?
  split_ifs with h <;> simp <;> omega

theorem optFin?_eq_some {n : Nat} {o : Option Nat} {i : Option (Fin n)} :
    optFin? n o = some i ↔ o = i.map (·.val) := by
  cases o with
  | none => cases i <;> simp [optFin?]
  | some k =>
    cases i with
    | none => simp [optFin?]
    | some j => simp [optFin?, fin?_eq_some]

/-- What `insertCue` leaves: the cue and the timeline's cues, in some order. -/
theorem insertCue_perm (c : Cue) (tl : List Cue) : (insertCue c tl).Perm (c :: tl) := by
  induction tl with
  | nil => exact List.Perm.refl _
  | cons d rest ih =>
    simp only [insertCue]
    split_ifs
    · exact List.Perm.refl _
    · exact (List.Perm.cons d ih).trans (List.Perm.swap c d rest)

@[simp] theorem mem_insertCue {c d : Cue} {tl : List Cue} : d ∈ insertCue c tl ↔ d = c ∨ d ∈ tl := by
  rw [(insertCue_perm c tl).mem_iff, List.mem_cons]

@[simp] theorem length_insertCue (c : Cue) (tl : List Cue) : (insertCue c tl).length = tl.length + 1 := by
  rw [(insertCue_perm c tl).length_eq, List.length_cons]

/-- Inserting a cue whose start is new keeps a timeline in start order (R6). -/
theorem startsRise_insertCue {c : Cue} {tl : List Cue} (h : StartsRise tl) (hn : ∀ d ∈ tl, d.start ≠ c.start) :
    StartsRise (insertCue c tl) := by
  induction tl with
  | nil => simp [insertCue, StartsRise]
  | cons d rest ih =>
    rw [StartsRise, List.pairwise_cons] at h
    simp only [insertCue]
    split_ifs with hlt
    · refine List.pairwise_cons.2 ⟨?_, List.pairwise_cons.2 h⟩
      intro e he
      rcases List.mem_cons.1 he with rfl | he
      · exact hlt
      · exact Nat.lt_trans hlt (h.1 e he)
    · refine List.pairwise_cons.2 ⟨?_, ih h.2 fun e he => hn e (List.mem_cons_of_mem _ he)⟩
      intro e he
      rcases mem_insertCue.1 he with rfl | he
      · have := hn d List.mem_cons_self
        show d.start < _
        omega
      · exact h.1 e he

theorem removeCue_subset {number : Nat} {tl : List Cue} {c : Cue} (h : c ∈ removeCue number tl) : c ∈ tl :=
  (List.mem_filter.1 h).1

theorem startsRise_removeCue {tl : List Cue} (h : StartsRise tl) (number : Nat) : StartsRise (removeCue number tl) :=
  List.Pairwise.filter _ h

/-! ### Attention (R159) -/

@[simp] theorem raise_linkPending (c : Attention) (s : State) : (raise c s).link.pending = s.link.pending ||| c.bit := rfl
@[simp] theorem raise_linkState (c : Attention) (s : State) : (raise c s).link.state = s.link.state := rfl
@[simp] theorem raise_request (c : Attention) (s : State) : (raise c s).link.request = s.link.request := rfl
@[simp] theorem raise_answer (c : Attention) (s : State) : (raise c s).link.answer = s.link.answer := rfl
@[simp] theorem raise_mask (c : Attention) (s : State) : (raise c s).link.mask = s.link.mask := rfl
@[simp] theorem raise_lastReset (c : Attention) (s : State) : (raise c s).link.lastReset = s.link.lastReset := rfl
@[simp] theorem raise_silenceSince (c : Attention) (s : State) : (raise c s).link.silenceSince = s.link.silenceSince := rfl
@[simp] theorem raise_miso (c : Attention) (s : State) : (raise c s).link.miso = s.link.miso := rfl
@[simp] theorem raise_rowDue (c : Attention) (s : State) : (raise c s).link.rowDue = s.link.rowDue := rfl

theorem Attention.index_injective : Function.Injective Attention.index := by
  intro a b h
  cases a <;> cases b <;> first | rfl | exact absurd h (by decide)

/-- A raised cause is pending, and no other cause is pending that was not before. -/
theorem memberOf_raise (c d : Attention) (s : State) :
    d.memberOf (raise c s).link.pending = (d.memberOf s.link.pending || decide (d = c)) := by
  have h : d.memberOf c.bit = decide (d = c) := by cases c <;> cases d <;> decide
  rw [raise_linkPending, Attention.memberOf, BitVec.getLsbD_or, ← h]
  rfl

/-! ### Safe causes and SAFE (R111, R112, R39) -/

theorem SafeCause.or_bit_of_memberOf {c : SafeCause} {x : BitVec 6} (h : c.memberOf x = true) : x ||| c.bit = x := by
  revert h; revert x; cases c <;> decide

theorem SafeCause.memberOf_or_bit (c d : SafeCause) (x : BitVec 6) :
    d.memberOf (x ||| c.bit) = (d.memberOf x || decide (d = c)) := by
  have h : d.memberOf c.bit = decide (d = c) := by cases c <;> cases d <;> decide
  rw [SafeCause.memberOf, BitVec.getLsbD_or, ← h]
  rfl

theorem SafeCause.memberOf_and_not_bit (c d : SafeCause) (x : BitVec 6) :
    d.memberOf (x &&& ~~~c.bit) = (d.memberOf x && !decide (d = c)) := by
  revert x; cases c <;> cases d <;> decide

@[simp] theorem dropCause_causes (c : SafeCause) (s : State) : (dropCause c s).sup.causes = s.sup.causes &&& ~~~c.bit := rfl
@[simp] theorem dropCause_seen (c : SafeCause) (s : State) : (dropCause c s).sup.seen = s.sup.seen := rfl

/-- Everything that entering SAFE does (R112, R38, R126, R149). -/
theorem enterSafe_spec (s : State) :
    (enterSafe s).clock = { s.clock with safeOrigin := s.clock.state, state := .safe } ∧
      (enterSafe s).sup = { s.sup with seen := s.sup.causes } ∧
      (enterSafe s).lights = { s.lights with blend := s.lights.blend.begin .rising s.sup.settings.lightSafeFade } ∧
      (enterSafe s).play = s.play.beginSafeFade s.sup.settings.audioSafeFade ∧
      (enterSafe s).link = { s.link with pending := s.link.pending ||| Attention.safeEntered.bit } :=
  ⟨rfl, rfl, rfl, rfl, rfl⟩

/-- Everything that a cause entering the cause set can do (R111, R112): nothing where it is there; in SAFE it
joins both sets; outside, SAFE is entered with it. -/
theorem addCause_cases (c : SafeCause) (s : State) :
    (c.memberOf s.sup.causes = true ∧ addCause c s = s) ∨
      (c.memberOf s.sup.causes = false ∧ s.clock.state = .safe ∧
        addCause c s = s.setSup { s.sup with causes := s.sup.causes ||| c.bit, seen := s.sup.seen ||| c.bit }) ∨
      (c.memberOf s.sup.causes = false ∧ s.clock.state ≠ .safe ∧
        addCause c s = enterSafe (s.setSup { s.sup with causes := s.sup.causes ||| c.bit })) := by
  unfold addCause
  by_cases h : c.memberOf s.sup.causes = true
  · exact Or.inl ⟨h, by simp [h]⟩
  · have h' : c.memberOf s.sup.causes = false := by simpa using h
    by_cases hs : s.clock.state = .safe
    · exact Or.inr (Or.inl ⟨h', hs, by simp [h', hs]⟩)
    · exact Or.inr (Or.inr ⟨h', hs, by simp [h', hs]⟩)

/-- After a cause has entered, it is in the cause set with all that was there. -/
@[simp] theorem addCause_causes (c : SafeCause) (s : State) : (addCause c s).sup.causes = s.sup.causes ||| c.bit := by
  rcases addCause_cases c s with ⟨h, e⟩ | ⟨_, _, e⟩ | ⟨_, _, e⟩ <;> rw [e]
  · rw [SafeCause.or_bit_of_memberOf h]
  · rfl
  · rfl

/-- A cause that was not there leaves the part in SAFE. -/
theorem addCause_safe (c : SafeCause) (s : State) (h : c.memberOf s.sup.causes = false) :
    (addCause c s).clock.state = .safe := by
  rcases addCause_cases c s with ⟨h', _⟩ | ⟨_, hs, e⟩ | ⟨_, _, e⟩
  · simp [h] at h'
  · rw [e]; exact hs
  · rw [e]; rfl

/-- Everything that leaving SAFE does (R39, R149). -/
theorem leaveSafe_spec (k : ClockState) (s : State) :
    (leaveSafe k s).clock = { s.clock with state := k, returnPending := true } ∧
      (leaveSafe k s).play = { s.play with multiplier := 1000, fadeCount := 0 } :=
  ⟨rfl, rfl⟩

/-- SILENCE_TIMER_EXPIRY latches LINK_SILENT where the timer runs and its limit has passed, and does nothing else
(R109, R115). -/
theorem silenceTimerExpiry_cases (s : State) :
    (∃ t0, s.link.silenceSince = some t0 ∧ silencePassed s t0 = true ∧
      silenceTimerExpiry s = addCause .linkSilent (s.setLink { s.link with silenceSince := none })) ∨
    ((∀ t0, s.link.silenceSince = some t0 → silencePassed s t0 = false) ∧ silenceTimerExpiry s = s) := by
  cases h : s.link.silenceSince with
  | none => exact .inr ⟨by simp, by simp [silenceTimerExpiry, h]⟩
  | some t0 => cases hp : silencePassed s t0 <;> simp [silenceTimerExpiry, h, hp]

/-! ### Requests (R156, R158) -/

theorem encodeRequest_length_pos (r : Request) : 3 ≤ (encodeRequest r).length := by
  simp [encodeRequest, beBytes]

theorem encodeRequest_head (r : Request) : (encodeRequest r).headD 0 = BitVec.ofNat 8 r.code := by
  simp [encodeRequest, beBytes]

/-- Taking a RESTART empties the pending set and changes nothing else of the link (R162). -/
@[simp] theorem emptyAtRestart_link (r : Request) (s : State) :
    (emptyAtRestart r s).link = { s.link with pending := if r = .restart then 0 else s.link.pending } := rfl

/-- Taking a request whose bytes parse, from a link that is IDLE or ANSWER READY. -/
theorem sendOnPort_free {r : Request} {s : State} (hf : LinkFree s)
    (hl : (encodeRequest r).length ≤ Config.largestRequest) (hp : parseRequest (encodeRequest r) = .ok r) :
    sendOnPort (encodeRequest r) s = withRequest r s := by
  have ht : (encodeRequest r).take Config.largestRequest = encodeRequest r := List.take_of_length_le hl
  rcases hf with h | h <;>
    simp [sendOnPort, receive, driveIdle, h, takeRequest, ht, hp, restartSilence, takeLink, emptyAtRestart, withRequest,
      linkWithRequest, silenceRestarted]

/-- A SEND with a free link whose bytes parse: the request is taken and its owner acts in the same step (R156, log 1). -/
theorem carryOut_free {r : Request} {s : State} (own : State → Owned) (hf : LinkFree s)
    (hl : (encodeRequest r).length ≤ Config.largestRequest) (hp : parseRequest (encodeRequest r) = .ok r) :
    carryOut (encodeRequest r) own s = settle own (withRequest r s) := by
  have hs : (withRequest r s).link.state = .handling .taken := rfl
  unfold carryOut
  rw [sendOnPort_free hf hl hp]
  rcases hf with h | h <;> simp [h, hs]

/-- A SEND while another request is being handled is ignored with LINK_OVERRUN (R156). -/
theorem carryOut_busy {s : State} (bytes : List Byte) (own : State → Owned) {w : Work} (hw : s.link.state = .handling w) :
    carryOut bytes own s = raise .linkOverrun (driveIdle (bytes.length + 1) s) := by
  simp [carryOut, hw, sendOnPort, receive, driveIdle]

/-- No row follows where no request is being handled. -/
theorem rowFollows_free {r : Request} {s : State} (hf : LinkFree s) : rowFollows r s = false := by
  rcases hf with h | h <;> cases s.link.rowDue <;> simp [rowFollows, h]

/-- A request row with a free link: the request is taken and its owner acts on it (R156, log 1). -/
theorem issue_free {r : Request} {s : State} (own : State → Owned) (hf : LinkFree s)
    (hl : (encodeRequest r).length ≤ Config.largestRequest) (hp : parseRequest (encodeRequest r) = .ok r) :
    issue r own s = settle own (withRequest r s) := by
  simp [issue, rowFollows_free hf, carryOut_free own hf hl hp]

/-- A well-formed request row with a free link: its owner acts (R156, log 1). -/
theorem issue_wf {r : Request} {s : State} (own : State → Owned) (hf : LinkFree s) (hr : r.wf = true) :
    issue r own s = settle own (withRequest r s) :=
  issue_free own hf (length_encodeRequest_le r hr) (parseRequest_encodeRequest r hr)

/-- A request row while another request is being handled is ignored with LINK_OVERRUN (R156). -/
theorem issue_busy {r : Request} {s : State} (own : State → Owned) {w : Work} (hw : s.link.state = .handling w)
    (ha : rowFollows r s = false) :
    issue r own s = raise .linkOverrun (driveIdle ((encodeRequest r).length + 1) s) := by
  simp [issue, ha, carryOut_busy _ own hw]

/-- A request row whose request SEND_FRAME has brought adds nothing (log 1). -/
theorem issue_follows {r : Request} {s : State} (own : State → Owned) (ha : rowFollows r s = true) :
    issue r own s = setRowDue false s := by
  simp [issue, ha]

/-- The owner's part where it gives an answer. -/
theorem settle_answer {own : State → Owned} {s t : State} {r : Reply} (h : own s = (t, some r)) :
    settle own s = t.setLink { t.link with
      state := .handling (.finished { echo := t.link.request.headD 0, status := r.status, data := r.data }) } := by
  simp [settle, h]

/-- The owner's part where a LOAD FRAMES goes on writing. -/
theorem settle_writing {own : State → Owned} {s t : State} (h : own s = (t, none)) : settle own s = t := by
  simp [settle, h]

/-- An owner that answers and leaves the link record alone, from a free link: the state it leaves, with the
answer in the link. -/
theorem issue_answers {r : Request} {s t : State} {own : State → Owned} {st : Status} {data : List Byte}
    (hf : LinkFree s) (hl : (encodeRequest r).length ≤ Config.largestRequest)
    (hp : parseRequest (encodeRequest r) = .ok r)
    (h : own (withRequest r s) = (t, some { status := st, data := data })) (hk : t.link = linkWithRequest r s) :
    issue r own s = t.setLink (linkWithAnswer r st data s) := by
  rw [issue_free own hf hl hp, settle_answer h, hk]
  simp [linkWithAnswer, linkWithRequest, encodeRequest, beBytes]

/-- A well-formed request whose owner answers and leaves the link record alone, from a free link. -/
theorem issue_wf_answers {r : Request} {s t : State} {own : State → Owned} {st : Status} {data : List Byte}
    (hf : LinkFree s) (hr : r.wf = true) (h : own (withRequest r s) = (t, some { status := st, data := data }))
    (hk : t.link = linkWithRequest r s) :
    issue r own s = t.setLink (linkWithAnswer r st data s) :=
  issue_answers hf (length_encodeRequest_le r hr) (parseRequest_encodeRequest r hr) h hk

/-- Placing a finished answer (R156). -/
theorem placeAnswer_finished {s : State} {a : Answer} (h : s.link.state = .handling (.finished a)) :
    placeAnswer s = s.setLink { s.link with state := .answerReady, answer := some a, rowDue := false } := by
  simp [placeAnswer, answerWith, h]

end Sys2Proof.Machine
end

