-- ==== Sys2Proof/Laws/Field.lean ====
section
/-! SUPPORT. What the field line controller's shared operations do to the line and node records: writing a
node, reaching an index, and running a round on to its next turn. -/

namespace Sys2Proof.Machine

theorem fieldLines_evalCritical (s : State) : (evalCritical s).fieldLines = s.fieldLines := by simp

theorem fieldLines_followLost (i : Fin 40) (k : NodeState) (s : State) : (followLost i k s).fieldLines = s.fieldLines := by simp

/-- Writing a node's record writes that record and no other of the controller (R94, R110). -/
theorem fieldLines_writeNode (i : Fin 40) (n : Node) (s : State) :
    (writeNode i n s).fieldLines = (setNodeRec i n s).fieldLines := by
  unfold writeNode
  simp only
  split_ifs
  · rfl
  · rw [fieldLines_evalCritical, fieldLines_followLost]

@[simp] theorem line_writeNode (i : Fin 40) (n : Node) (s : State) (l : Line) : (writeNode i n s).line l = s.line l := by
  unfold State.line
  rw [fieldLines_writeNode]
  rfl

theorem node_writeNode (i j : Fin 40) (n : Node) (s : State) : (writeNode i n s).node j = if i = j then n else s.node j := by
  rw [← State.node_setNodeRec]
  unfold State.node
  rw [fieldLines_writeNode]

@[simp] theorem line_beginTurn (l m : Line) (i : Fin 40) (k : Turn) (s : State) :
    (beginTurn l i k s).line m = if m = l then
      { s.line l with
        round := .underWay i,
        exchange := some { index := i, turn := k, order := [], group := none, further := 0, discard := false, phase := .ready } }
    else s.line m := State.line_setLineRec _ _ _ _

/-- Reaching an index leaves every other node's record as it was (R88). -/
theorem node_visit {l : Line} {i j : Fin 40} {s : State} (h : j ≠ i) : (visit l i s).1.node j = s.node j := by
  unfold visit beginTurn
  simp only
  split_ifs <;> (try split) <;> simp [node_writeNode, h.symm]

/-- Reaching an index leaves the other line's record as it was (R88). -/
theorem line_visit {l m : Line} {i : Fin 40} {s : State} (h : m ≠ l) : (visit l i s).1.line m = s.line m := by
  unfold visit
  simp only
  split_ifs <;> (try split) <;> simp [h]

@[simp] theorem followLost_joining (i : Fin 40) (s : State) : followLost i .joining s = s := rfl

@[simp] theorem followLost_suspect (i : Fin 40) (s : State) : followLost i .suspect s = s := rfl

@[simp] theorem followLost_absent (i : Fin 40) (s : State) : followLost i .absent s = s := rfl

/-- A node that does not enter LOST or ONLINE leaves the group records alone (R77, R79). -/
theorem water_writeNode {i : Fin 40} {n : Node} {s : State} (h : n.state ≠ .lost ∧ n.state ≠ .online ∨ n.state = (s.node i).state) :
    (writeNode i n s).water = s.water := by
  unfold writeNode
  simp only
  split_ifs with he
  · rfl
  · rcases h with ⟨hl, ho⟩ | h
    · cases hn : n.state <;> simp_all [setNodeRec]
    · exact absurd h he

/-- Reaching an index leaves the group records alone (R88). -/
theorem water_visit (l : Line) (i : Fin 40) (s : State) : (visit l i s).1.water = s.water := by
  have hr : ∀ n : Node, n.state = .joining → (writeNode i n s).water = s.water := fun n hn =>
    water_writeNode (.inl ⟨by simp [hn], by simp [hn]⟩)
  unfold visit
  simp only
  split_ifs <;> (try split) <;> simp [hr, rejoinedNode, retriedNode, setNodeRec]

/-- A round's run to its next turn leaves the group records alone. -/
theorem water_visitAll (l : Line) (is : List (Fin 40)) (s : State) : (visitAll l is s).1.water = s.water := by
  induction is generalizing s with
  | nil => rfl
  | cons i rest ih =>
    have hv := water_visit l i s
    unfold visitAll
    split
    · rename_i s1 e; rw [e] at hv; exact hv
    · rename_i s1 e; rw [e] at hv; rw [ih s1]; exact hv

/-- A round's run to its next turn changes only the nodes that it reaches. -/
theorem node_visitAll {l : Line} {is : List (Fin 40)} {j : Fin 40} (s : State) (h : j ∉ is) :
    (visitAll l is s).1.node j = s.node j := by
  induction is generalizing s with
  | nil => rfl
  | cons i rest ih =>
    simp only [List.mem_cons, not_or] at h
    have hv := node_visit (l := l) (s := s) h.1
    unfold visitAll
    split
    · rename_i s1 e; rw [e] at hv; exact hv
    · rename_i s1 e; rw [e] at hv; rw [ih s1 h.2]; exact hv

/-- A round's run to its next turn leaves the other line's record as it was. -/
theorem line_visitAll {l m : Line} (is : List (Fin 40)) (s : State) (h : m ≠ l) : (visitAll l is s).1.line m = s.line m := by
  induction is generalizing s with
  | nil => rfl
  | cons i rest ih =>
    have hv := line_visit (i := i) (s := s) h
    unfold visitAll
    split
    · rename_i s1 e; rw [e] at hv; exact hv
    · rename_i s1 e; rw [e] at hv; rw [ih s1]; exact hv

/-! ### What a drop leaves (R100, R103) -/

/-- A dropped node's turn that is on the wire stays, marked to be discarded, with the order it sends (R103). -/
theorem dropNode_onWire {i : Fin 40} {s : State} {x : Exchange} (hx : (s.line (s.node i).line).exchange = some x)
    (hi : x.index = i) (hb : x.betweenAttempts = false) :
    dropNode i s = setLineRec (s.node i).line
      { s.line (s.node i).line with exchange := some { builtExchange (s.node i).line x s with discard := true } }
      (writeNode i Node.absentRecord s) := by
  simp [dropNode, hx, hi, hb]

/-- Between two attempts of a dropped node's turn the round goes on at once (log 15). -/
theorem dropNode_between {i : Fin 40} {s : State} {x : Exchange} (hx : (s.line (s.node i).line).exchange = some x)
    (hi : x.index = i) (hb : x.betweenAttempts = true) :
    dropNode i s = continueRound (s.node i).line i (writeNode i Node.absentRecord s) := by
  simp [dropNode, hx, hi, hb]

/-- A node that no exchange serves is dropped with nothing else changed (R100). -/
theorem dropNode_unserved {i : Fin 40} {s : State} (h : ∀ x, (s.line (s.node i).line).exchange = some x → x.index ≠ i) :
    dropNode i s = writeNode i Node.absentRecord s := by
  unfold dropNode
  cases hx : (s.line (s.node i).line).exchange with
  | none => simp [hx]
  | some x => simp [hx, h x hx]

/-! ### The bits of an order (R85) -/

@[simp] theorem TxChar.length_bits (c : TxChar) : c.bits.length = 11 := by simp [TxChar.bits]

@[simp] theorem length_flatMap_bits (order : List TxChar) : (order.flatMap TxChar.bits).length = 11 * order.length := by
  induction order with
  | nil => rfl
  | cons c rest ih => simp [List.flatMap_cons, ih]; omega

/-- The bits of a line's latest order: a break and an idle character where it has them, and 11 for each character. -/
theorem length_sentBits (r : LineRec) : r.sentBits.length = (if r.sentBreak then 31 else 0) + 11 * r.sentOrder.length := by
  cases h : r.sentBreak <;> simp [LineRec.sentBits, h, breakBits, idleCharacter] <;> omega

@[simp] theorem length_driverEnable (r : LineRec) : r.driverEnable.length = r.sentBits.length := by
  cases h : r.sentBreak <;> simp [LineRec.driverEnable, LineRec.sentBits, h, breakBits, idleCharacter] <;> omega

/-- After its last stop bit the line stands at the idle level (R83, R85). -/
theorem transmit_of_le {r : LineRec} {bit : Nat} (h : r.sentBits.length ≤ bit) : r.transmit bit = idleLevel := by
  simp [LineRec.transmit, List.getD_eq_getElem?_getD, h]

/-- After its last stop bit the driver enable is inactive (R85). -/
theorem driverActive_of_le {r : LineRec} {bit : Nat} (h : r.sentBits.length ≤ bit) : r.driverActive bit = false := by
  simp [LineRec.driverActive, List.getD_eq_getElem?_getD, h]

/-- A pin reset leaves the line at its idle level with the driver enable inactive (R83). -/
@[simp] theorem transmit_reset (bit : Nat) : LineRec.reset.transmit bit = idleLevel := transmit_of_le (Nat.zero_le bit)

@[simp] theorem driverActive_reset (bit : Nat) : LineRec.reset.driverActive bit = false := driverActive_of_le (Nat.zero_le bit)

end Sys2Proof.Machine
end

