-- ==== Sys2Proof/Laws/Timeline.lean ====
section
/-! SUPPORT. What the timeline unit's shared operations do: finding a cue, taking the due cues, chase. -/

namespace Sys2Proof.Machine

open Sys2Proof.Safety

/-! ### The number map (R5) -/

/-- A number that names a cue names one that stands in its channel's timeline under that number. -/
theorem Store.find_some {st : Store} {n : Nat} {c : Fin 49} {q : Cue} (h : st.find n = some (c, q)) :
    q ∈ st.timelines[c] ∧ q.number = n := by
  obtain ⟨d, -, hd⟩ := List.exists_of_findSome?_eq_some h
  simp only [Option.map_eq_some_iff, Prod.mk.injEq] at hd
  obtain ⟨p, hp, rfl, rfl⟩ := hd
  exact ⟨List.mem_of_find?_eq_some hp, by simpa using List.find?_some hp⟩

/-- A number that names no cue is the number of none. -/
theorem Store.find_none {st : Store} {n : Nat} (h : st.find n = none) (c : Fin 49) : ∀ q ∈ st.timelines[c], q.number ≠ n := by
  intro q hq hn
  have h1 := List.findSome?_eq_none_iff.1 h c (List.mem_finRange c)
  simp only [Option.map_eq_none_iff, List.find?_eq_none] at h1
  exact h1 q hq (by simpa using hn)

/-! ### Taking at a show tick (R48 to R51) -/

theorem actingCue_some {t : Nat} {tl : List Cue} {a : Cue} (h : actingCue t tl = some a) : a ∈ tl ∧ dueAt t a = true :=
  List.mem_filter.1 (List.mem_of_getLast? h)

theorem actingCue_none {t : Nat} {tl : List Cue} : actingCue t tl = none ↔ ∀ q ∈ tl, dueAt t q = false := by
  simp [actingCue]

@[simp] theorem takeCue_number (t : Nat) (a : Cue) (k : CueState) (c : Cue) : (takeCue t a k c).number = c.number := by
  unfold takeCue; split_ifs <;> rfl

@[simp] theorem takeCue_start (t : Nat) (a : Cue) (k : CueState) (c : Cue) : (takeCue t a k c).start = c.start := by
  unfold takeCue; split_ifs <;> rfl

@[simp] theorem takeCue_payload (t : Nat) (a : Cue) (k : CueState) (c : Cue) : (takeCue t a k c).payload = c.payload := by
  unfold takeCue; split_ifs <;> rfl

/-- A take leaves the numbers, the starts and the payloads of a timeline as they were. -/
theorem tickTimeline_fields (t : Nat) (tl : List Cue) (rec : ChannelRec) :
    (tickTimeline t tl rec).map (fun c => (c.number, c.start, c.payload)) = tl.map (fun c => (c.number, c.start, c.payload)) := by
  unfold tickTimeline
  split
  · rw [recordCompletion, List.map_map]
    exact List.map_congr_left fun c _ => by simp only [Function.comp]; split_ifs <;> rfl
  · rw [List.map_map]
    exact List.map_congr_left fun c _ => by simp [Function.comp]

/-- After a take no WAITING cue is due (R48). -/
theorem tickTimeline_noneDue (t : Nat) (tl : List Cue) (rec : ChannelRec) :
    ∀ q ∈ tickTimeline t tl rec, dueAt t q = false := by
  intro q hq
  unfold tickTimeline at hq
  split at hq
  · rename_i hn
    obtain ⟨p, hp, rfl⟩ := List.mem_map.1 hq
    split_ifs
    · simp [dueAt]
    · exact actingCue_none.1 hn p hp
  · rename_i a ha
    obtain ⟨p, hp, rfl⟩ := List.mem_map.1 hq
    unfold takeCue takenState
    split_ifs with h1 <;> simp_all [dueAt]

/-! ### Chase (R53 to R55) -/

/-- The chased cue stands where the timeline divides: its dispatch time has come, and that of no cue after it. -/
theorem chasedCue_some {t : Nat} {tl before after : List Cue} {x : Cue} (h : chasedCue t tl = some (before, x, after)) :
    tl = before ++ x :: after ∧ x.dispatch ≤ t ∧ ∀ q ∈ after, t < q.dispatch := by
  induction tl generalizing before with
  | nil => simp [chasedCue] at h
  | cons c rest ih =>
    simp only [chasedCue] at h
    split at h
    · rename_i b y a hr
      simp only [Option.some.injEq, Prod.mk.injEq] at h
      obtain ⟨rfl, rfl, rfl⟩ := h
      obtain ⟨e, h1, h2⟩ := ih hr
      exact ⟨by rw [e]; rfl, h1, h2⟩
    · rename_i hr
      split_ifs at h with hc
      simp only [Option.some.injEq, Prod.mk.injEq] at h
      obtain ⟨rfl, rfl, rfl⟩ := h
      refine ⟨rfl, hc, fun q hq => ?_⟩
      clear ih
      induction rest with
      | nil => simp at hq
      | cons d more ih2 =>
        simp only [chasedCue] at hr
        split at hr
        · simp at hr
        · rename_i hm
          split_ifs at hr with hd
          rcases List.mem_cons.1 hq with rfl | hq
          · omega
          · exact ih2 hm hq

theorem chasedCue_none {t : Nat} {tl : List Cue} : chasedCue t tl = none ↔ ∀ q ∈ tl, t < q.dispatch := by
  induction tl with
  | nil => simp [chasedCue]
  | cons c rest ih =>
    simp only [chasedCue, List.forall_mem_cons]
    split
    · rename_i b x a hr
      simp only [reduceCtorEq, false_iff, not_and]
      intro _ hall
      rw [ih.2 hall] at hr
      exact absurd hr (by simp)
    · rename_i hr
      split_ifs with hc
      · simp only [false_iff, not_and]
        intro h; omega
      · simp only [true_iff]
        exact ⟨by omega, ih.1 hr⟩

/-- The last cue whose dispatch time has come is the chased one. -/
theorem chasedCue_append {t : Nat} {before after : List Cue} {x : Cue} (hx : x.dispatch ≤ t)
    (ha : ∀ q ∈ after, t < q.dispatch) : chasedCue t (before ++ x :: after) = some (before, x, after) := by
  induction before with
  | nil => simp [chasedCue, chasedCue_none.2 ha, hx]
  | cons c rest ih => simp [chasedCue, ih]

/-- A chase leaves the numbers, the starts and the payloads of a timeline as they were. -/
theorem chaseTimeline_fields (t t0 : Nat) (tl : List Cue) (rec : ChannelRec) :
    (chaseTimeline t t0 tl rec).map (fun c => (c.number, c.start, c.payload)) = tl.map (fun c => (c.number, c.start, c.payload)) := by
  unfold chaseTimeline
  split
  · rename_i b x a h
    rw [(chasedCue_some h).1]
    simp [Cue.toPassed, Cue.toWaiting, Function.comp_def]
  · simp [Cue.toWaiting, Function.comp_def]

/-- After a chase no WAITING cue is due (R53). -/
theorem chaseTimeline_noneDue (t t0 : Nat) (tl : List Cue) (rec : ChannelRec) :
    ∀ q ∈ chaseTimeline t t0 tl rec, dueAt t q = false := by
  intro q hq
  unfold chaseTimeline at hq
  split at hq
  · rename_i b x a h
    obtain ⟨-, -, ha⟩ := chasedCue_some h
    rcases List.mem_append.1 hq with hq | hq
    · obtain ⟨p, -, rfl⟩ := List.mem_map.1 hq
      simp [dueAt, Cue.toPassed]
    · rcases List.mem_cons.1 hq with rfl | hq
      · unfold takenState
        split_ifs <;> simp [dueAt]
      · obtain ⟨p, hp, rfl⟩ := List.mem_map.1 hq
        exact Bool.and_eq_false_iff.2 (Or.inr (decide_eq_false (Nat.not_le_of_lt (ha p hp))))
  · rename_i h
    obtain ⟨p, hp, rfl⟩ := List.mem_map.1 hq
    exact Bool.and_eq_false_iff.2 (Or.inr (decide_eq_false (Nat.not_le_of_lt (chasedCue_none.1 h p hp))))

end Sys2Proof.Machine
end

