-- ==== Sys2Proof/Laws/Link.lean ====
section
/-! SUPPORT. What the owners of the requests leave alone in the link record: the request and answer buffers, what MISO
read, and the mark that a row may follow. -/

namespace Sys2Proof.Machine

/-- The fields of the link record that no owner of a request writes. -/
def State.linkHeld (s : State) : List Byte × Option Answer × List Byte × Bool :=
  (s.link.request, s.link.answer, s.link.miso, s.link.rowDue)

theorem linkHeld_eq_of_link {s t : State} (h : t.link = s.link) : t.linkHeld = s.linkHeld := by
  simp only [State.linkHeld, h]

@[simp] theorem raise_linkHeld (c : Attention) (s : State) : (raise c s).linkHeld = s.linkHeld := rfl

@[simp] theorem enterSafe_linkHeld (s : State) : (enterSafe s).linkHeld = s.linkHeld := rfl

@[simp] theorem addCause_linkHeld (c : SafeCause) (s : State) : (addCause c s).linkHeld = s.linkHeld := by
  unfold addCause
  dsimp only
  split_ifs <;> rfl

@[simp] theorem dropCause_linkHeld (c : SafeCause) (s : State) : (dropCause c s).linkHeld = s.linkHeld := rfl

@[simp] theorem setCondition_linkHeld (c : SafeCause) (b : Bool) (s : State) : (setCondition c b s).linkHeld = s.linkHeld := by
  unfold setCondition
  split_ifs <;> simp

@[simp] theorem evalCritical_linkHeld (s : State) : (evalCritical s).linkHeld = s.linkHeld := by
  simp [evalCritical]

@[simp] theorem followLost_linkHeld (i : Fin 40) (k : NodeState) (s : State) : (followLost i k s).linkHeld = s.linkHeld :=
  linkHeld_eq_of_link (by simp)

@[simp] theorem writeNode_linkHeld (i : Fin 40) (n : Node) (s : State) : (writeNode i n s).linkHeld = s.linkHeld := by
  unfold writeNode
  dsimp only
  split_ifs
  · rfl
  · rw [evalCritical_linkHeld, followLost_linkHeld]
    rfl

@[simp] theorem restartSilence_linkHeld (s : State) : (restartSilence s).linkHeld = s.linkHeld := rfl

@[simp] theorem compute_linkHeld (n : Fin 32) (s : State) : (compute n s).linkHeld = s.linkHeld := by
  unfold compute
  dsimp only
  split_ifs <;> rfl

@[simp] theorem acceptLevel_linkHeld (i : LevelInput) (s : State) : (acceptLevel i s).linkHeld = s.linkHeld := by
  unfold acceptLevel
  dsimp only
  split_ifs
  · cases i
    · rfl
    · simp only [setCondition_linkHeld]
      rfl
  · rfl

@[simp] theorem acceptIfPassed_linkHeld (i : LevelInput) (s : State) : (acceptIfPassed i s).linkHeld = s.linkHeld := by
  unfold acceptIfPassed
  split_ifs <;> simp

@[simp] theorem applySupervision_linkHeld (c : SupSettings) (s : State) : (applySupervision c s).linkHeld = s.linkHeld := by
  unfold applySupervision
  dsimp only
  split_ifs
  · simp only [acceptIfPassed_linkHeld, restartSilence_linkHeld]
    rfl
  · rfl

@[simp] theorem changeMode_linkHeld (m : ClockMode) (s : State) : (changeMode m s).linkHeld = s.linkHeld := by
  cases m <;> rfl

@[simp] theorem placeOn_linkHeld (c : Fin 49) (q : Cue) (s : State) : (placeOn c q s).linkHeld = s.linkHeld := by
  unfold placeOn noticeLow
  split_ifs <;> rfl

@[simp] theorem amendTaken_linkHeld (c : Fin 49) (q r : Cue) (s : State) : (amendTaken c q r s).linkHeld = s.linkHeld := by
  unfold amendTaken
  dsimp only
  split_ifs <;> rfl

@[simp] theorem amendWaiting_linkHeld (a : AmendArgs) (c : Fin 49) (q r : Cue) (s : State) :
    (amendWaiting a c q r s).linkHeld = s.linkHeld := by
  unfold amendWaiting
  dsimp only
  split_ifs <;> rfl

@[simp] theorem retireOn_linkHeld (c : Fin 49) (q : Cue) (s : State) : (retireOn c q s).linkHeld = s.linkHeld := by
  unfold retireOn
  dsimp only
  split_ifs <;> rfl

@[simp] theorem retirePassedOn_linkHeld (t : Nat) (c : Option (Fin 49)) (s : State) :
    (retirePassedOn t c s).linkHeld = s.linkHeld := by
  unfold retirePassedOn
  exact linkHeld_eq_of_link (State.setStore_link ..)

@[simp] theorem acceptGroup_linkHeld (n : Fin 32) (g : Group) (s : State) : (acceptGroup n g s).linkHeld = s.linkHeld := by
  unfold acceptGroup
  dsimp only
  split_ifs <;> (try rw [evalCritical_linkHeld]) <;> rfl

@[simp] theorem restartClock_linkHeld (s : State) : (restartClock s).linkHeld = s.linkHeld := by
  unfold restartClock
  split_ifs <;> rfl

/-! ### Rounds -/

@[simp] theorem setLineRec_linkHeld (l : Line) (r : LineRec) (s : State) : (setLineRec l r s).linkHeld = s.linkHeld := by
  cases l <;> rfl

@[simp] theorem setNodeRec_linkHeld (i : Fin 40) (n : Node) (s : State) : (setNodeRec i n s).linkHeld = s.linkHeld := rfl

@[simp] theorem visit_linkHeld (l : Line) (i : Fin 40) (s : State) : (visit l i s).1.linkHeld = s.linkHeld := by
  unfold visit beginTurn
  dsimp only
  split_ifs <;> (try split) <;> simp

@[simp] theorem visitAll_linkHeld (l : Line) (is : List (Fin 40)) (s : State) : (visitAll l is s).1.linkHeld = s.linkHeld := by
  induction is generalizing s with
  | nil => rfl
  | cons i rest ih =>
    have hv := visit_linkHeld l i s
    unfold visitAll
    split <;> rename_i h <;> rw [h] at hv
    · exact hv
    · rw [ih]
      exact hv

@[simp] theorem startRound_linkHeld (l : Line) (s : State) : (startRound l s).linkHeld = s.linkHeld := by
  have hv := visitAll_linkHeld l (List.finRange 40) (beginRound l s)
  unfold startRound
  split <;> rename_i h <;> rw [h] at hv <;> simpa [beginRound, setRoundIdle] using hv

@[simp] theorem continueRound_linkHeld (l : Line) (i : Fin 40) (s : State) : (continueRound l i s).linkHeld = s.linkHeld := by
  have hv := visitAll_linkHeld l ((List.finRange 40).drop (i.val + 1)) (setLineRec l { s.line l with exchange := none } s)
  unfold continueRound
  dsimp only
  split <;> rename_i h <;> rw [h] at hv
  · simpa using hv
  · unfold endRound
    split_ifs <;> simpa [setRoundIdle] using hv

@[simp] theorem dropNode_linkHeld (i : Fin 40) (s : State) : (dropNode i s).linkHeld = s.linkHeld := by
  unfold dropNode
  dsimp only
  split
  · simp
  · split_ifs <;> simp

/-! ### Owners -/

@[simp] theorem done_fst (data : List Byte) (s : State) : (done data s).1 = s := rfl

@[simp] theorem refuse_fst (st : Status) (s : State) : (refuse st s).1 = s := rfl

theorem ownStart_linkHeld (s : State) :
    (ownStart s).1.linkHeld = s.linkHeld := by
  unfold ownStart
  split_ifs
  · exact linkHeld_eq_of_link (by simp)
  · rfl

theorem ownPause_linkHeld (s : State) :
    (ownPause s).1.linkHeld = s.linkHeld := by
  unfold ownPause
  split_ifs <;> rfl

theorem ownResume_linkHeld (s : State) :
    (ownResume s).1.linkHeld = s.linkHeld := by
  unfold ownResume
  dsimp only
  repeat' split
  all_goals exact linkHeld_eq_of_link (by simp)

theorem ownStop_linkHeld (s : State) :
    (ownStop s).1.linkHeld = s.linkHeld := by
  unfold ownStop
  split_ifs
  · exact linkHeld_eq_of_link (by simp)
  · rfl

theorem ownSeek_linkHeld (time : Nat) (s : State) :
    (ownSeek time s).1.linkHeld = s.linkHeld := by
  unfold ownSeek
  dsimp only
  repeat' split
  all_goals exact linkHeld_eq_of_link (by simp)

theorem ownSetShowLength_linkHeld (length : Nat) (s : State) :
    (ownSetShowLength length s).1.linkHeld = s.linkHeld := by
  unfold ownSetShowLength
  repeat' split
  all_goals rfl

theorem ownReadClock_linkHeld (s : State) :
    (ownReadClock s).1.linkHeld = s.linkHeld := by
  rfl

theorem ownPlaceCue_linkHeld (a : CueArgs) (s : State) :
    (ownPlaceCue a s).1.linkHeld = s.linkHeld := by
  unfold ownPlaceCue
  repeat' split
  all_goals simp

theorem ownAmendCue_linkHeld (a : AmendArgs) (s : State) :
    (ownAmendCue a s).1.linkHeld = s.linkHeld := by
  unfold ownAmendCue
  repeat' (first | split | (dsimp only; split))
  all_goals simp

theorem ownRetireCue_linkHeld (number : Nat) (s : State) :
    (ownRetireCue number s).1.linkHeld = s.linkHeld := by
  unfold ownRetireCue
  repeat' split
  all_goals simp

theorem ownRetirePassed_linkHeld (t : Nat) (channel : Option Nat) (s : State) :
    (ownRetirePassed t channel s).1.linkHeld = s.linkHeld := by
  unfold ownRetirePassed
  split
  · rfl
  · dsimp only
    split_ifs
    · rw [refuse_fst]
    · rw [done_fst, retirePassedOn_linkHeld]

theorem ownReadCue_linkHeld (number : Nat) (s : State) :
    (ownReadCue number s).1.linkHeld = s.linkHeld := by
  unfold ownReadCue
  repeat' split
  all_goals rfl

theorem ownReadChannel_linkHeld (channel : Nat) (s : State) :
    (ownReadChannel channel s).1.linkHeld = s.linkHeld := by
  unfold ownReadChannel
  split <;> rfl

theorem ownReadStore_linkHeld (s : State) :
    (ownReadStore s).1.linkHeld = s.linkHeld := by
  rfl

theorem ownSetStoreThreshold_linkHeld (threshold : Nat) (s : State) :
    (ownSetStoreThreshold threshold s).1.linkHeld = s.linkHeld := by
  unfold ownSetStoreThreshold
  split_ifs <;> rfl

theorem ownSetGroup_linkHeld (a : GroupArgs) (s : State) :
    (ownSetGroup a s).1.linkHeld = s.linkHeld := by
  unfold ownSetGroup
  repeat' (first | split | (dsimp only; split))
  all_goals simp

theorem ownSetCurve_linkHeld (group : Nat) (curve : Vector CurvePoint 8) (s : State) :
    (ownSetCurve group curve s).1.linkHeld = s.linkHeld := by
  unfold ownSetCurve
  repeat' split
  all_goals rfl

theorem ownSetWindClass_linkHeld (windClass lo hi floor : Nat) (s : State) :
    (ownSetWindClass windClass lo hi floor s).1.linkHeld = s.linkHeld := by
  unfold ownSetWindClass
  repeat' split
  all_goals rfl

theorem ownSetBudget_linkHeld (budget : Nat) (s : State) :
    (ownSetBudget budget s).1.linkHeld = s.linkHeld := by
  unfold ownSetBudget
  split_ifs <;> rfl

theorem ownReadGroup_linkHeld (group : Nat) (s : State) :
    (ownReadGroup group s).1.linkHeld = s.linkHeld := by
  unfold ownReadGroup
  split <;> rfl

theorem ownSetLine_linkHeld (line : Nat) (c : LineSettings) (s : State) :
    (ownSetLine line c s).1.linkHeld = s.linkHeld := by
  unfold ownSetLine
  repeat' split
  all_goals rfl

theorem ownSetNode_linkHeld (node line address kind : Nat) (s : State) :
    (ownSetNode node line address kind s).1.linkHeld = s.linkHeld := by
  unfold ownSetNode
  repeat' split
  all_goals simp

theorem ownDropNode_linkHeld (node : Nat) (s : State) :
    (ownDropNode node s).1.linkHeld = s.linkHeld := by
  unfold ownDropNode
  repeat' split
  all_goals simp

theorem ownRejoinNode_linkHeld (node : Nat) (s : State) :
    (ownRejoinNode node s).1.linkHeld = s.linkHeld := by
  unfold ownRejoinNode
  repeat' split
  all_goals rfl

theorem ownReadNode_linkHeld (node : Nat) (s : State) :
    (ownReadNode node s).1.linkHeld = s.linkHeld := by
  unfold ownReadNode
  split <;> rfl

theorem ownReadLine_linkHeld (line : Nat) (s : State) :
    (ownReadLine line s).1.linkHeld = s.linkHeld := by
  unfold ownReadLine
  split <;> rfl

theorem ownSetOutputSense_linkHeld (output sense : Nat) (s : State) :
    (ownSetOutputSense output sense s).1.linkHeld = s.linkHeld := by
  unfold ownSetOutputSense
  repeat' split
  all_goals rfl

theorem ownSetHead_linkHeld (a : HeadArgs) (s : State) :
    (ownSetHead a s).1.linkHeld = s.linkHeld := by
  unfold ownSetHead
  repeat' split
  all_goals rfl

theorem ownSetSafeScene_linkHeld (scene : Levels) (s : State) :
    (ownSetSafeScene scene s).1.linkHeld = s.linkHeld := by
  unfold ownSetSafeScene
  split_ifs <;> rfl

theorem ownSetMaster_linkHeld (value : Nat) (s : State) :
    (ownSetMaster value s).1.linkHeld = s.linkHeld := by
  rfl

theorem ownReadHead_linkHeld (head : Nat) (s : State) :
    (ownReadHead head s).1.linkHeld = s.linkHeld := by
  unfold ownReadHead
  split <;> rfl

theorem ownDefineSegment_linkHeld (segment first length : Nat) (loopStart : Option Nat) (s : State) :
    (ownDefineSegment segment first length loopStart s).1.linkHeld = s.linkHeld := by
  unfold ownDefineSegment
  repeat' split
  all_goals rfl

theorem ownLoadFrames_linkHeld (segment offset count : Nat) (frames : List Frame) (s : State) :
    (ownLoadFrames segment offset count frames s).1.linkHeld = s.linkHeld := by
  unfold ownLoadFrames
  split
  · rfl
  · dsimp only
    split
    · rfl
    · split <;> (try split) <;> rfl

theorem ownFinishSegment_linkHeld (segment : Nat) (s : State) :
    (ownFinishSegment segment s).1.linkHeld = s.linkHeld := by
  unfold ownFinishSegment
  repeat' split
  all_goals rfl

theorem ownReopenSegment_linkHeld (segment : Nat) (s : State) :
    (ownReopenSegment segment s).1.linkHeld = s.linkHeld := by
  unfold ownReopenSegment
  repeat' split
  all_goals rfl

theorem ownDropSegment_linkHeld (segment : Nat) (s : State) :
    (ownDropSegment segment s).1.linkHeld = s.linkHeld := by
  unfold ownDropSegment
  repeat' split
  all_goals rfl

theorem ownSetAudio_linkHeld (mode format : Nat) (s : State) :
    (ownSetAudio mode format s).1.linkHeld = s.linkHeld := by
  unfold ownSetAudio
  split
  · dsimp only
    split_ifs
    · rfl
    · rfl
    · exact changeMode_linkHeld ..
  · rfl

theorem ownReadPlayback_linkHeld (segment : Nat) (s : State) :
    (ownReadPlayback segment s).1.linkHeld = s.linkHeld := by
  unfold ownReadPlayback
  split <;> rfl

theorem ownSetSupervision_linkHeld (c : SupSettings) (s : State) :
    (ownSetSupervision c s).1.linkHeld = s.linkHeld := by
  unfold ownSetSupervision
  repeat' split
  all_goals simp

theorem ownForceSafe_linkHeld (s : State) :
    (ownForceSafe s).1.linkHeld = s.linkHeld := by
  simp [ownForceSafe]

theorem ownClearSafe_linkHeld (s : State) :
    (ownClearSafe s).1.linkHeld = s.linkHeld := by
  unfold ownClearSafe
  split_ifs <;> rfl

theorem ownReadSupervision_linkHeld (s : State) :
    (ownReadSupervision s).1.linkHeld = s.linkHeld := by
  rfl

theorem ownReadAttention_linkHeld (s : State) :
    (ownReadAttention s).1.linkHeld = s.linkHeld := by
  rfl

theorem ownClearAttention_linkHeld (causes : Nat) (s : State) :
    (ownClearAttention causes s).1.linkHeld = s.linkHeld := by
  rfl

theorem ownSetAttentionMask_linkHeld (causes : Nat) (s : State) :
    (ownSetAttentionMask causes s).1.linkHeld = s.linkHeld := by
  rfl

theorem ownIdentify_linkHeld (s : State) :
    (ownIdentify s).1.linkHeld = s.linkHeld := by
  rfl

theorem ownRestart_linkHeld (s : State) :
    (ownRestart s).1.linkHeld = s.linkHeld := by
  unfold ownRestart
  rw [done_fst, restartClock_linkHeld]
  rfl

/-- No owner writes the buffers, what MISO read, or the mark that a row may follow (R156). -/
theorem handle_linkHeld (r : Request) (s : State) : (handle r s).1.linkHeld = s.linkHeld := by
  cases r
  · exact ownStart_linkHeld ..
  · exact ownPause_linkHeld ..
  · exact ownResume_linkHeld ..
  · exact ownStop_linkHeld ..
  · exact ownSeek_linkHeld ..
  · exact ownSetShowLength_linkHeld ..
  · exact ownReadClock_linkHeld ..
  · exact ownPlaceCue_linkHeld ..
  · exact ownAmendCue_linkHeld ..
  · exact ownRetireCue_linkHeld ..
  · exact ownRetirePassed_linkHeld ..
  · exact ownReadCue_linkHeld ..
  · exact ownReadChannel_linkHeld ..
  · exact ownReadStore_linkHeld ..
  · exact ownSetStoreThreshold_linkHeld ..
  · exact ownSetGroup_linkHeld ..
  · exact ownSetCurve_linkHeld ..
  · exact ownSetWindClass_linkHeld ..
  · exact ownSetBudget_linkHeld ..
  · exact ownReadGroup_linkHeld ..
  · exact ownSetLine_linkHeld ..
  · exact ownSetNode_linkHeld ..
  · exact ownDropNode_linkHeld ..
  · exact ownRejoinNode_linkHeld ..
  · exact ownReadNode_linkHeld ..
  · exact ownReadLine_linkHeld ..
  · exact ownSetOutputSense_linkHeld ..
  · exact ownSetHead_linkHeld ..
  · exact ownSetSafeScene_linkHeld ..
  · exact ownSetMaster_linkHeld ..
  · exact ownReadHead_linkHeld ..
  · exact ownDefineSegment_linkHeld ..
  · exact ownLoadFrames_linkHeld ..
  · exact ownFinishSegment_linkHeld ..
  · exact ownReopenSegment_linkHeld ..
  · exact ownDropSegment_linkHeld ..
  · exact ownSetAudio_linkHeld ..
  · exact ownReadPlayback_linkHeld ..
  · exact ownSetSupervision_linkHeld ..
  · exact ownForceSafe_linkHeld ..
  · exact ownClearSafe_linkHeld ..
  · exact ownReadSupervision_linkHeld ..
  · exact ownReadAttention_linkHeld ..
  · exact ownClearAttention_linkHeld ..
  · exact ownSetAttentionMask_linkHeld ..
  · exact ownIdentify_linkHeld ..
  · exact ownRestart_linkHeld ..

/-! ### A SEND frame and the owner's action -/

theorem handle_request (r : Request) (s : State) : (handle r s).1.link.request = s.link.request :=
  congrArg (·.1) (handle_linkHeld r s)

theorem handle_miso (r : Request) (s : State) : (handle r s).1.link.miso = s.link.miso :=
  congrArg (·.2.2.1) (handle_linkHeld r s)

/-- The owner of a request that SEND_FRAME brings leaves what it would leave, with the mark that its row may follow. -/
theorem handleSent_eq (r : Request) (s : State) : handleSent r s = (setRowDue true (handle r s).1, (handle r s).2) := rfl

/-- What the owner's action leaves is what it gives, with the answer in the link; the mark that a row may follow is kept. -/
theorem settle_handleSent (r : Request) (s : State) :
    settle (handleSent r) s = setRowDue true (settle (handle r) s) := by
  unfold settle
  rw [handleSent_eq]
  rcases handle r s with ⟨t, _ | _⟩ <;> rfl

theorem settle_miso {own : State → Owned} {s : State} (h : (own s).1.link.miso = s.link.miso) :
    (settle own s).link.miso = s.link.miso := by
  unfold settle
  rcases ho : own s with ⟨t, _ | _⟩ <;> rw [ho] at h <;> exact h

/-- A SEND that the link takes, its bytes read as a request: the owner acts in the same step (R156, log 1). -/
theorem sendFrame_taken {b : Byte} {rest : List Byte} {r : Request} {s : State} (hf : Safety.LinkFree s)
    (hr : sentRequest (b :: rest) = some r) :
    sendFrame (b :: rest) s = setRowDue true (settle (handle r) (sendOnPort (b :: rest) s)) := by
  have hp : parseRequest ((b :: rest).take Config.largestRequest) = .ok r := by
    unfold sentRequest at hr
    split at hr <;> simp_all
  have ht : (sendOnPort (b :: rest) s).link.state = .handling .taken := by
    rcases hf with h | h <;> simp [sendOnPort, receive, driveIdle, h, takeRequest, hp, restartSilence, takeLink]
  rw [← settle_handleSent]
  unfold sendFrame
  rw [hr]
  unfold carryOut
  rcases hf with h | h <;> simp [h, ht]

/-- A SEND while a request is being handled is ignored with LINK_OVERRUN (R156). -/
theorem sendFrame_busy {b : Byte} {rest : List Byte} {s : State} {w : Work} (hw : s.link.state = .handling w) :
    sendFrame (b :: rest) s = raise .linkOverrun (driveIdle (rest.length + 2) s) := by
  unfold sendFrame
  split
  · contradiction
  · rename_i h _
    rw [carryOut_busy _ _ hw, ← h]
    rfl
  · rename_i h _
    rw [← h]
    simp [sendOnPort, receive, driveIdle, hw]

end Sys2Proof.Machine
end

