-- ==== Sys2Proof/Laws/Memory.lean ====
section
/-! SUPPORT. What the operations on sample memory do: reading after writing, the canonical form, and the
addresses written. -/

namespace Sys2Proof.Machine

/-- Reading after writing one byte: the byte at its address, and every other address as before. -/
theorem memRead_memWrite (m : Memory) (a x : Nat) (b : Byte) :
    memRead (memWrite m a b) x = if x = a then some b else memRead m x := by
  induction m with
  | nil =>
    by_cases h : x = a
    · simp [memWrite, memRead, h]
    · by_cases h2 : x < a <;> simp [memWrite, memRead, h]
  | cons p rest ih =>
    obtain ⟨k, v⟩ := p
    simp only [memWrite]
    split_ifs with h1 h2 <;> simp only [memRead] <;> split_ifs <;> first | rfl | omega | simp_all

theorem mem_memWrite {m : Memory} {a : Nat} {b : Byte} {x : Host.Cell} (h : x ∈ memWrite m a b) :
    x = (a, b) ∨ x ∈ m := by
  induction m with
  | nil => simpa [memWrite] using h
  | cons p rest ih =>
    obtain ⟨k, v⟩ := p
    simp only [memWrite] at h
    split_ifs at h <;> simp only [List.mem_cons] at h ⊢ <;> tauto

/-- Writing a byte keeps the canonical form. -/
theorem memWf_memWrite {m : Memory} (h : memWf m) (a : Nat) (b : Byte) : memWf (memWrite m a b) := by
  induction m with
  | nil => simp [memWrite]
  | cons p rest ih =>
    obtain ⟨k, v⟩ := p
    rw [memWf, List.pairwise_cons] at h
    simp only [memWrite]
    split_ifs with h1 h2
    · subst h1; exact List.pairwise_cons.2 ⟨h.1, h.2⟩
    · refine List.pairwise_cons.2 ⟨?_, List.pairwise_cons.2 ⟨h.1, h.2⟩⟩
      intro y hy
      rcases List.mem_cons.1 hy with rfl | hy
      · exact h2
      · exact Nat.lt_trans h2 (h.1 y hy)
    · refine List.pairwise_cons.2 ⟨?_, ih h.2⟩
      intro y hy
      rcases mem_memWrite hy with rfl | hy
      · show k < a
        omega
      · exact h.1 y hy

theorem memWf_memWriteFrame {m : Memory} (h : memWf m) (k : Nat) (f : Frame) : memWf (memWriteFrame m k f) :=
  memWf_memWrite (memWf_memWrite (memWf_memWrite (memWf_memWrite h _ _) _ _) _ _) _ _

/-- Writing frames keeps the canonical form. -/
theorem memWf_memWriteFrames {m : Memory} (h : memWf m) (k : Nat) (fs : List Frame) :
    memWf (memWriteFrames m k fs) := by
  induction fs generalizing m k with
  | nil => exact h
  | cons f rest ih => exact ih (memWf_memWriteFrame h k f) (k + 1)

/-- The byte of a frame at one of its four places in memory (11.6). -/
def frameByte (f : Frame) (place : Nat) : Byte :=
  if place = 0 then f.left.extractLsb' 0 8
  else if place = 1 then f.left.extractLsb' 8 8
  else if place = 2 then f.right.extractLsb' 0 8
  else f.right.extractLsb' 8 8

/-- Reading after writing one frame. -/
theorem memRead_memWriteFrame (m : Memory) (k x : Nat) (f : Frame) :
    memRead (memWriteFrame m k f) x = if x / 4 = k then some (frameByte f (x % 4)) else memRead m x := by
  simp only [memWriteFrame, memRead_memWrite, frameByte]
  split_ifs <;> first | rfl | omega

/-- Reading after writing frames from frame index `k` on: inside, the frame's byte; outside, as before. -/
theorem memRead_memWriteFrames (m : Memory) (k x : Nat) (fs : List Frame) :
    memRead (memWriteFrames m k fs) x =
      match fs[x / 4 - k]? with
      | some f => if k ≤ x / 4 then some (frameByte f (x % 4)) else memRead m x
      | none => memRead m x := by
  induction fs generalizing m k with
  | nil => simp [memWriteFrames]
  | cons f rest ih =>
    rw [memWriteFrames, ih, memRead_memWriteFrame]
    rcases Nat.lt_trichotomy (x / 4) k with h | h | h
    · have h0 : x / 4 - (k + 1) = 0 := by omega
      have h1 : x / 4 - k = 0 := by omega
      rw [h0, h1]
      cases rest with
      | nil => simp [Nat.ne_of_lt h, Nat.not_le.2 h]
      | cons g gs => simp [Nat.ne_of_lt h, Nat.not_le.2 h, show ¬ k + 1 ≤ x / 4 by omega]
    · have h0 : x / 4 - (k + 1) = 0 := by omega
      have h1 : x / 4 - k = 0 := by omega
      rw [h0, h1]
      cases rest with
      | nil => simp [h]
      | cons g gs => simp [h]
    · obtain ⟨d, hd⟩ : ∃ d, x / 4 - k = d + 1 := ⟨x / 4 - k - 1, by omega⟩
      have h0 : x / 4 - (k + 1) = d := by omega
      rw [h0, hd, List.getElem?_cons_succ]
      cases rest[d]? with
      | none => simp [Nat.ne_of_gt h]
      | some g => simp [show k + 1 ≤ x / 4 by omega, show k ≤ x / 4 by omega]

/-- The cells after writing frames are cells from before or lie among the frames' bytes. -/
theorem mem_memWriteFrames {m : Memory} {k : Nat} {fs : List Frame} {x : Host.Cell}
    (h : x ∈ memWriteFrames m k fs) : x ∈ m ∨ (4 * k ≤ x.1 ∧ x.1 < 4 * (k + fs.length)) := by
  induction fs generalizing m k with
  | nil => exact Or.inl h
  | cons f rest ih =>
    rcases ih h with h | h
    · simp only [memWriteFrame] at h
      rcases mem_memWrite h with rfl | h
      · exact Or.inr ⟨by dsimp only; omega, by simp only [List.length_cons]; omega⟩
      rcases mem_memWrite h with rfl | h
      · exact Or.inr ⟨by dsimp only; omega, by simp only [List.length_cons]; omega⟩
      rcases mem_memWrite h with rfl | h
      · exact Or.inr ⟨by dsimp only; omega, by simp only [List.length_cons]; omega⟩
      rcases mem_memWrite h with rfl | h
      · exact Or.inr ⟨by dsimp only; omega, by simp only [List.length_cons]; omega⟩
      · exact Or.inl h
    · right
      simp only [List.length_cons]
      omega

/-- The memory after reset is in canonical form. -/
theorem reset_memWf : memWf State.reset.play.memory := List.Pairwise.nil

end Sys2Proof.Machine
end

