-- ==== Sys2Proof/Laws/Playback.lean ====
section
/-! SUPPORT. What the playback unit's events do to the voices, and the length of what it sends. -/

namespace Sys2Proof.Machine

/-- SEGMENT_END acts on a voice that reads frames and has reached the end of its segment, and on nothing else (R147). -/
theorem segmentEnd_cases (i : VoiceId) (s : State) :
    (∃ k, (s.play.voice i).segment = some k ∧ voicesRead s = true ∧ (s.play.voice i).sounding = true ∧
      s.play.segments[k].length ≤ (s.play.voice i).position ∧
      segmentEnd i s = s.setPlay (s.play.setVoice i ((s.play.voice i).atSegmentEnd s.play.segments[k]))) ∨
    segmentEnd i s = s := by
  unfold segmentEnd
  simp only
  split
  · exact .inr rfl
  · rename_i k hk
    split_ifs with h
    · exact .inl ⟨k, hk, h.1, h.2.1, h.2.2, rfl⟩
    · exact .inr rfl

/-- A voice past its last frame stands at the loop start, or is released where there is none (R147). -/
@[simp] theorem Voice.atSegmentEnd_loop {v : Voice} {g : Segment} {l : Nat} (h : g.loopStart = some l) :
    v.atSegmentEnd g = { v with position := l } := by
  simp [Voice.atSegmentEnd, h]

@[simp] theorem Voice.atSegmentEnd_plain {v : Voice} {g : Segment} (h : g.loopStart = none) :
    v.atSegmentEnd g = Voice.released := by
  simp [Voice.atSegmentEnd, h]

/-! ### The serial audio output (R148) -/

@[simp] theorem length_serialHalf (x : Sample) (n : Nat) : (serialHalf x n).length = n := by simp [serialHalf]

@[simp] theorem length_serialFrame (f : Frame) (l r : Nat) : (serialFrame f l r).length = l + r := by simp [serialFrame]

/-- A period of a half carries a bit of the sample after the first, and 0 beyond the sixteenth (R148). -/
theorem getElem?_serialHalf (x : Sample) {n k : Nat} (h : k < n) :
    (serialHalf x n)[k]? = some (if 1 ≤ k ∧ k ≤ 16 then x.getMsbD (k - 1) else false) := by
  simp [serialHalf, h]

end Sys2Proof.Machine
end

