-- ==== Sys2Proof/Laws/Port.lean ====
section
/-! SUPPORT. The port bit by bit (R155): its bits and its bytes agree, every frame is a well-formed command, and the pin
MISO carries the bytes that the commands leave in the link record. -/

namespace Sys2Proof.Machine

/-! ### Bits and bytes -/

theorem portByte_bits (b : Byte) : portByte ((List.range 8).map (fun k => b.getMsbD k)) = b := by
  revert b
  decide

@[simp] theorem portBits_cons (b : Byte) (bytes : List Byte) :
    portBits (b :: bytes) = (List.range 8).map (fun k => b.getMsbD k) ++ portBits bytes := rfl

@[simp] theorem length_portBits (bytes : List Byte) : (portBits bytes).length = 8 * bytes.length := by
  induction bytes with
  | nil => rfl
  | cons b bytes ih => simp [ih]; omega

/-- Fewer than eight bits make no whole byte (R155). -/
theorem wholeBytes_cut {cut : List Bool} (h : cut.length < 8) : wholeBytes cut = [] := by
  unfold wholeBytes
  split
  · simp at h; omega
  · rfl

/-- Bytes sent bit by bit arrive as they were sent, and a byte cut short after them is not stored (R155). -/
theorem wholeBytes_portBits (bytes : List Byte) {cut : List Bool} (h : cut.length < 8) :
    wholeBytes (portBits bytes ++ cut) = bytes := by
  induction bytes with
  | nil => exact wholeBytes_cut h
  | cons b bytes ih =>
    have hb := portByte_bits b
    simp only [List.range, List.range.loop, List.map] at hb
    simp [List.range, List.range.loop, wholeBytes, hb, ih]

/-- The prefix is known once it has arrived: later bits leave it. -/
theorem head_wholeBytes_take {mosi : List Bool} {n : Nat} (hn : 8 ≤ n) :
    (wholeBytes (mosi.take n)).head? = (wholeBytes mosi).head? := by
  obtain ⟨m, rfl⟩ := Nat.exists_eq_add_of_le' hn
  by_cases h : mosi.length < 8
  · rw [List.take_of_length_le (by omega)]
  · rcases mosi with _ | ⟨_, _ | ⟨_, _ | ⟨_, _ | ⟨_, _ | ⟨_, _ | ⟨_, _ | ⟨_, _ | ⟨_, rest⟩⟩⟩⟩⟩⟩⟩⟩ <;>
      first | (simp at h; done) | simp [wholeBytes]

/-! ### The command that a frame is -/

theorem portCommand_wf (mosi : List Bool) : (portCommand mosi).wf = true := by
  unfold portCommand
  split
  · rfl
  · rename_i p rest _
    split_ifs with h1 h2
    · rfl
    · simp [Instr.wf, Instr.request?, Instr.eventWf, h2.2]
    · by_cases h3 : p = 0xA5#8 <;> simp_all [Instr.wf, Instr.request?, Instr.eventWf, disregarded]

theorem portCommand_send {bytes : List Byte} (h : bytes ≠ []) : portCommand (portBits (0xA5#8 :: bytes)) = .sendFrame bytes := by
  have := wholeBytes_portBits (0xA5#8 :: bytes) (cut := []) (by simp)
  rw [List.append_nil] at this
  simp only [portCommand, this]
  simp [h]

theorem portCommand_fetch (bytes : List Byte) : portCommand (portBits (0x5A#8 :: bytes)) = .fetchFrame bytes.length := by
  have := wholeBytes_portBits (0x5A#8 :: bytes) (cut := []) (by simp)
  rw [List.append_nil] at this
  simp only [portCommand, this]
  simp

/-! ### MISO -/

/-- While CS is high MISO is not driven (R155). -/
@[simp] theorem misoPin_csHigh (s : State) (mosi : List Bool) (falls : Nat) : s.misoPin true mosi falls = none := rfl

@[simp] theorem drivenByte_prefix (arrived : List Byte) (s : State) : drivenByte arrived s 0 = 0xFF#8 := rfl

/-- Outside a FETCH the part drives 0xFF in every place (R155). -/
theorem drivenByte_of_not_fetch {arrived : List Byte} (s : State) (place : Nat) (h : arrived.head? ≠ some 0x5A#8) :
    drivenByte arrived s place = 0xFF#8 := by
  unfold drivenByte
  split <;> simp [h]

/-- A FETCH that finds no answer ready reads 0xFF in every place (R157). -/
theorem drivenByte_of_not_ready (arrived : List Byte) {s : State} (place : Nat) (h : s.link.state ≠ .answerReady) :
    drivenByte arrived s place = 0xFF#8 := by
  unfold drivenByte
  split
  · contradiction
  · rfl

@[simp] theorem receive_miso (bytes : List Byte) (s : State) : (receive bytes s).link.miso = s.link.miso := by
  unfold receive takeRequest
  split
  · rfl
  all_goals (dsimp only; split <;> simp [restartSilence, takeLink])

@[simp] theorem driveIdle_miso (n : Nat) (s : State) : (driveIdle n s).link.miso = List.replicate n 0xFF#8 := by
  simp [driveIdle]

/-- What MISO read in a SEND frame: 0xFF throughout (R155). -/
theorem sendFrame_miso (bytes : List Byte) (s : State) :
    (sendFrame bytes s).link.miso = List.replicate (bytes.length + 1) 0xFF#8 := by
  have hport : (sendOnPort bytes s).link.miso = List.replicate (bytes.length + 1) 0xFF#8 := by simp [sendOnPort]
  unfold sendFrame
  split
  · exact driveIdle_miso ..
  · rename_i r _
    have hs := (settle_miso (own := handleSent r) (handle_miso r _)).trans hport
    unfold carryOut
    split
    · exact hport
    all_goals
      dsimp only
      split_ifs
      · exact hs
      · exact hport
  · exact hport

/-- What MISO read in a FETCH frame (R157). -/
theorem fetchFrame_miso_getD {count place : Nat} {s : State} {arrived : List Byte} (hp : arrived.head? = some 0x5A#8)
    (h : place < count + 1) : (fetchFrame count s).link.miso.getD place 0 = drivenByte arrived s place := by
  unfold fetchFrame
  split
  · rename_i a hs ha
    cases place with
    | zero => simp only [drivenByte_prefix]; split_ifs <;> simp
    | succ k =>
      have hk : k < count := by omega
      have hm : (fetchedBytes a.bytes count).getD k 0 = a.bytes.getD k 0xFF#8 := by
        unfold fetchedBytes
        by_cases hl : k < a.bytes.length
        · simp [List.getD_eq_getElem?_getD, List.getElem?_append, hl, hk]
        · simp [List.getD_eq_getElem?_getD, List.getElem?_append, hl, hk, List.getElem?_replicate]
          rw [if_pos (by omega)]
          rfl
      have hd : drivenByte arrived s (k + 1) = a.bytes.getD k 0xFF#8 := by simp [drivenByte, hs, ha, hp]
      rw [hd, ← hm]
      split_ifs <;> simp
  · rename_i hno
    have hd : drivenByte arrived s place = 0xFF#8 := by
      unfold drivenByte
      split
      · rename_i a hs ha
        exact absurd ha (hno a hs)
      · rfl
    simp [hd, List.getD_eq_getElem?_getD, h]

/-- The pin MISO over a frame of the port carries, bit by bit, the bytes that the frame's command leaves as what MISO read
(R155, R157). -/
theorem misoPin_eq_miso_of_exec {mosi : List Bool} {s t : State} {falls : Nat} (ht : exec (portCommand mosi) s = .next t)
    (hf : falls < 8 * (wholeBytes mosi).length) :
    s.misoPin false (mosi.take falls) falls = some ((t.link.miso.getD (falls / 8) 0).getMsbD (falls % 8)) := by
  have hk : falls / 8 < (wholeBytes mosi).length := by omega
  have hd : drivenByte (wholeBytes (mosi.take falls)) s (falls / 8) = drivenByte (wholeBytes mosi) s (falls / 8) := by
    by_cases h8 : 8 ≤ falls
    · simp only [drivenByte, head_wholeBytes_take h8]
    · rw [Nat.div_eq_of_lt (by omega), drivenByte_prefix, drivenByte_prefix]
  suffices hm : t.link.miso.getD (falls / 8) 0 = drivenByte (wholeBytes mosi) s (falls / 8) by
    rw [hm]; simp [State.misoPin, hd]
  unfold portCommand at ht
  revert ht hk
  generalize falls / 8 = place
  cases wholeBytes mosi with
  | nil => simp
  | cons p rest =>
    intro ht hk
    simp only [List.length_cons] at hk
    dsimp only at ht
    split_ifs at ht with h1 h2
    · obtain rfl : fetchFrame rest.length s = t := by simpa [exec, execFetchFrame] using ht
      exact fetchFrame_miso_getD (by simp [h1]) hk
    · obtain rfl : sendFrame rest s = t := by simpa [exec, execSendFrame] using ht
      rw [drivenByte_of_not_fetch s place (by simp [h1])]
      simp [sendFrame_miso, List.getD_eq_getElem?_getD, List.getElem?_replicate] at hk ⊢
      simp [hk]
    · obtain rfl : driveIdle (p :: rest).length s = t := by simpa [exec, execDisregardedFrame] using ht
      rw [drivenByte_of_not_fetch s place (by simp [h1])]
      simp [List.getD_eq_getElem?_getD, hk]

end Sys2Proof.Machine
end

