-- ==== Sys2Proof/Tests/Slice0.lean ====
section
/-! SUPPORT. The model's own tests: ill-formed commands, bytes written out from chapter 11, the manual's
worked examples, one or two checks of a command, and for every statement with hypotheses a concrete state
that meets them. -/

namespace Sys2Proof.Tests

open Sys2Proof Sys2Proof.Machine Sys2Proof.Safety

/-! ### WellFormed -/

def cueArgs : CueArgs :=
  { number := 7, channel := 0, start := 5000, ramp := 1200, shape := 1, payload := { w0 := 3600, w1 := 0, w2 := 0, w3 := 0 } }

def amendArgs : AmendArgs :=
  { number := 7, selection := 2, start := 0, ramp := 900, shape := 0, payload := { w0 := 0, w1 := 0, w2 := 0, w3 := 0 } }

def groupArgs : GroupArgs :=
  { group := 0, enabled := true, critical := false, pumpNode := some 0, valve := some { node := 1, output := 0 },
    heightLimit := 6000, lead := 0, upStep := 10, downStep := 10, safeDownStep := 50, bypass := 200, windClass := some 0,
    ratedPower := 1500 }

def lineArgs : LineSettings :=
  { prescale := 8, divisor := 4095, roundPeriod := 250, retryLimit := 7, lostLimit := 15, replyWait := 50 }

def headArgs : HeadArgs :=
  { head := 15, enabled := true, outputs := some { r := 60, g := 61, b := 62, w := some 63 }, response := 1 }

def supArgs : SupSettings :=
  { silenceLimit := 60, debounceSteps := 255, levelCap := 1000, windScale := 1000, lightSafeFade := 10000,
    lightReturnFade := 10000, audioSafeFade := 10000 }

/-- The curve of the manual's worked group 17 (4.12). -/
def curve17 : Vector CurvePoint 8 :=
  #v[{ height := 0, speed := 200 }, { height := 500, speed := 320 }, { height := 1000, speed := 430 },
     { height := 2000, speed := 600 }, { height := 3000, speed := 740 }, { height := 4000, speed := 850 },
     { height := 5000, speed := 940 }, { height := 6000, speed := 1000 }]

theorem test_wf_accepts : [Instr.placeCue cueArgs, .amendCue amendArgs, .setGroup groupArgs, .setCurve 17 curve17,
    .setLine 0 lineArgs, .setHead headArgs, .setSupervision supArgs, .sendFrame [0], .disregardedFrame [0xA5],
    .fetchFrame 0].all Instr.wf = true := by decide

theorem test_wf_field_of_four_bytes : (Instr.seek 4294967296).wf = false := by decide
theorem test_wf_field_of_two_bytes : (Instr.setBudget 65536).wf = false := by decide
theorem test_wf_field_of_one_byte : (Instr.readGroup 256).wf = false := by decide
theorem test_wf_absent_code_is_no_value : (Instr.retirePassed 0 (some 255)).wf = false := by decide
theorem test_wf_cue_number : (Instr.placeCue { cueArgs with number := 65536 }).wf = false := by decide
theorem test_wf_cue_payload :
    (Instr.placeCue { cueArgs with payload := { w0 := 65536, w1 := 0, w2 := 0, w3 := 0 } }).wf = false := by decide
theorem test_wf_amend_selection : (Instr.amendCue { amendArgs with selection := 256 }).wf = false := by decide
theorem test_wf_pump_node : (Instr.setGroup { groupArgs with pumpNode := some 255 }).wf = false := by decide
theorem test_wf_valve : (Instr.setGroup { groupArgs with valve := some { node := 255, output := 0 } }).wf = false := by decide
theorem test_wf_curve :
    (Instr.setCurve 0 (curve17.set 7 { height := 65536, speed := 0 })).wf = false := by decide
theorem test_wf_line_divisor : (Instr.setLine 0 { lineArgs with divisor := 65536 }).wf = false := by decide
theorem test_wf_head_output :
    (Instr.setHead { headArgs with outputs := some { r := 0, g := 1, b := 2, w := some 255 } }).wf = false := by decide
theorem test_wf_levels : (Instr.setSafeScene { r := 0, g := 0, b := 0, w := 65536 }).wf = false := by decide
theorem test_wf_settings : (Instr.setSupervision { supArgs with levelCap := 65536 }).wf = false := by decide
theorem test_wf_loop_start : (Instr.defineSegment 0 0 1 (some 4294967295)).wf = false := by decide
theorem test_wf_frame_count : (Instr.loadFrames 0 0 2 [Frame.silence]).wf = false := by decide
theorem test_wf_frame_limit : (Instr.loadFrames 0 0 257 (List.replicate 257 Frame.silence)).wf = false :=
    by decide +kernel
theorem test_wf_empty_send : (Instr.sendFrame []).wf = false := by decide
theorem test_wf_send_is_not_disregarded : (Instr.disregardedFrame [0xA5, 0x01]).wf = false := by decide
theorem test_wf_answer_has_a_character : (Instr.answerEnd .a []).wf = false := by decide
theorem test_wf_answer_limit :
    (Instr.answerEnd .a (List.replicate 260 { data := 0, mark := false, stopHigh := true })).wf = false := by
  decide +kernel

/-! ### Bytes from chapter 11 -/

/-- 11.2: SEEK is 0x05 with a 4-byte show time; 90,000 is 0x00015F90. -/
theorem test_bytes_seek : parseRequest [0x05, 0x00, 0x04, 0x00, 0x01, 0x5F, 0x90] = .ok (.seek 90000) := by decide

/-- 11.2, 11.3: PLACE CUE of cue 7 on J0 at 5,000 ms, ramp 1,200, SMOOTH, height 3,600. -/
theorem test_bytes_placeCue : parseRequest
    [0x10, 0x00, 0x12, 0x00, 0x07, 0x00, 0x00, 0x00, 0x13, 0x88, 0x04, 0xB0, 0x01, 0x0E, 0x10, 0, 0, 0, 0, 0, 0] =
      .ok (.placeCue cueArgs) := by decide

/-- 11.2: SET GROUP of group 0, enabled, pump node 0, valve output 0 of node 1. -/
theorem test_bytes_setGroup : parseRequest
    [0x20, 0x00, 0x11, 0x00, 0x01, 0x00, 0x01, 0x00, 0x17, 0x70, 0x00, 0x00, 0x0A, 0x0A, 0x32, 0x00, 0xC8, 0x00, 0x05,
     0xDC] = .ok (.setGroup groupArgs) := by decide

/-- R165: the valve output is not read while the valve node is 0xFF, and the flag bits above bit 1 are ignored. -/
theorem test_bytes_setGroup_ignores : parseRequest
    [0x20, 0x00, 0x11, 0x00, 0xFD, 0x00, 0xFF, 0x55, 0x17, 0x70, 0x00, 0x00, 0x0A, 0x0A, 0x32, 0x00, 0xC8, 0x00, 0x05,
     0xDC] = .ok (.setGroup { groupArgs with valve := none }) := by decide

/-- 11.2: SET NODE of node 39 as a VALVE at address 20 of line B. -/
theorem test_bytes_setNode : parseRequest [0x29, 0x00, 0x04, 0x27, 0x01, 0x14, 0x02] = .ok (.setNode 39 1 20 2) := by decide

/-- 11.2: SET HEAD of head 15, enabled and assigned, outputs 60 to 63, SQUARE. -/
theorem test_bytes_setHead : parseRequest [0x31, 0x00, 0x07, 0x0F, 0x03, 0x3C, 0x3D, 0x3E, 0x3F, 0x01] =
    .ok (.setHead headArgs) := by decide

/-- 11.2, 11.6: LOAD FRAMES of one frame, left 0x1234 and right −2, most significant byte first after 6 pad
bytes. -/
theorem test_bytes_loadFrames : parseRequest
    [0x39, 0x00, 0x11, 0x02, 0x00, 0x00, 0x00, 0x05, 0x00, 0x01, 9, 9, 9, 9, 9, 9, 0x12, 0x34, 0xFF, 0xFE] =
      .ok (.loadFrames 2 5 1 [{ left := 0x1234, right := 0xFFFE }]) := by decide

/-- 11.2: DEFINE SEGMENT with loop start 0xFFFFFFFF has no loop. -/
theorem test_bytes_defineSegment : parseRequest
    [0x38, 0x00, 0x0D, 0x01, 0x00, 0x00, 0x01, 0x00, 0x00, 0x00, 0x02, 0x00, 0xFF, 0xFF, 0xFF, 0xFF] =
      .ok (.defineSegment 1 256 512 none) := by decide

/-- 11.2: SET SUPERVISION at its greatest values. -/
theorem test_bytes_setSupervision : parseRequest
    [0x40, 0x00, 0x0C, 0x3C, 0xFF, 0x03, 0xE8, 0x03, 0xE8, 0x27, 0x10, 0x27, 0x10, 0x27, 0x10] =
      .ok (.setSupervision supArgs) := by decide

/-- 11.2: SET ATTENTION MASK of the causes LINK_OVERRUN and SAFE_ENTERED. -/
theorem test_bytes_setAttentionMask : parseRequest [0x4A, 0x00, 0x02, 0x02, 0x01] = .ok (.setAttentionMask 513) := by decide

/-- R164: a code outside the table is UNKNOWN, whatever follows. -/
theorem test_bytes_unknown : parseRequest [0x08, 0x00] = .error .unknown := by decide

/-- R164: fewer than 3 bytes, a length that is not the rest's, and a length that is not the table's. -/
theorem test_bytes_bad_length :
    [[0x01, 0x00], [0x01, 0x00, 0x01], [0x12, 0x00, 0x01, 0x07]].all
      (fun b => parseRequest b == .error .badLength) = true := by decide

/-- R164: LOAD FRAMES with count 0 passes with L = 13, and with count 1 it needs 17. -/
theorem test_bytes_loadFrames_length :
    parseRequest [0x39, 0x00, 0x0D, 2, 0, 0, 0, 5, 0, 0, 0, 0, 0, 0, 0, 0] = .ok (.loadFrames 2 5 0 []) ∧
    parseRequest [0x39, 0x00, 0x0D, 2, 0, 0, 0, 5, 0, 1, 0, 0, 0, 0, 0, 0] = .error .badLength := by decide

/-- The host's word question: no row of the opcode table has bits (log 24). -/
theorem test_no_word_spells_a_command : decodeTableWord 8 1 = none := by decide

/-! ### A state in the middle of a show -/

/-- The state after a command that answers a next state. -/
def after (c : Instr) (s : State) : State :=
  match exec c s with
  | .next t => t
  | _ => s

/-- The status and data of the answer that a request leaves in the link. -/
def answerOf (s : State) : Option (Status × List Byte) := (finishedAnswer s).map (fun a => (a.status, a.data))

def jetCue (number start ramp : Nat) (shape : Shape) (height dispatch : Nat) (state : CueState) : Cue :=
  { number := number, start := start, ramp := ramp, shape := shape, payload := .jet height, state := state,
    skipped := false, dispatch := dispatch }

def playCue (number start ramp : Nat) (segment : Fin 64) (gain : Nat) (state : CueState) : Cue :=
  { number := number, start := start, ramp := ramp, shape := .linear, payload := .play segment gain, state := state,
    skipped := false, dispatch := start }

/-- Cues 201 to 204 of the worked timeline (3.10) on J0, whose lead is 1200 ms; cues 401 and 402 of the worked crossfade
(8.10) on P, the second moved to 5300. -/
def sampleStore : Store :=
  { timelines := ((Vector.replicate 49 []).set 0
      [jetCue 201 1000 0 .linear 500 0 .passed, jetCue 202 6000 2000 .smooth 3000 4800 .live,
       jetCue 203 6500 1000 .linear 2000 5300 .waiting, jetCue 204 12000 3000 .linear 1000 10800 .waiting]).set 48
      [playCue 401 100 0 4 900 .standing, playCue 402 5300 2000 5 700 .waiting],
    threshold := 4090 }

/-- One tick before cue 203 is due. -/
def sampleClock : Clock := { Clock.reset with state := .running, showTime := 5299, showLength := 100000, ticksDue := 1 }

def held (v : Levels) : ChannelRec := { ChannelRec.reset with fromVal := v, toVal := v }

def sampleChannels : Vector ChannelRec 49 :=
  (((Vector.replicate 49 ChannelRec.reset).set 0
    { taken := some 202, fromVal := scalar 500, toVal := scalar 3000, origin := 4800, duration := 2000,
      shape := .smooth }).set 32 (held { r := 2000, g := 0, b := 0, w := 0 })).set 48
    { held (scalar 900) with taken := some 401, origin := 100 }

/-- The group of the worked computation (4.12), here with a valve. -/
def sampleGroup : Group :=
  { Group.reset with
    enabled := true, pumpNode := some 0, valve := some { node := 1, output := 0 }, heightLimit := 5000, lead := 1200,
    upStep := 30, downStep := 40, bypass := 150, windClass := some 1, ratedPower := 750, curve := curve17, issued := 760,
    delivered := 760, valveOpen := true }

def sampleWater : Water :=
  { groups := Water.reset.groups.set 0 sampleGroup,
    windClasses := Water.reset.windClasses.set 1 { lo := 400, hi := 1200, floor := 400 }, budget := 2000 }

def nodeOf (state : NodeState) (line : Line) (address : Nat) (kind : NodeKind) : Node :=
  { Node.absentRecord with state := state, line := line, address := address, kind := kind }

/-- A pump and a valve ONLINE, a LOST pump and a JOINING pump on line A; a SUSPECT valve on line B. -/
def sampleNodes : Vector Node 40 :=
  (((((Vector.replicate 40 Node.absentRecord).set 0 (nodeOf .online .a 1 .pump)).set 1
    { nodeOf .online .a 2 .valve with confirmedOpen := 1 }).set 2 { nodeOf .lost .a 3 .pump with countdown := 2 }).set 3
    { nodeOf .joining .a 4 .pump with stage := .zero }).set 4 { nodeOf .suspect .b 1 .valve with failedRounds := 1 }

def exchangeOf (index : Fin 40) (turn : Turn) (order : List TxChar) (phase : AttemptPhase) : Exchange :=
  { index := index, turn := turn, order := order, group := none, further := 0, discard := false, phase := phase }

def sampleFieldLines : FieldLines := { a := LineRec.reset, b := LineRec.reset, nodes := sampleNodes }

/-- Line A with an exchange under way. -/
def onLineA (x : Exchange) (s : State) : State :=
  setLineRec .a { s.line .a with round := .underWay x.index, exchange := some x } s

def sampleSup : Supervision :=
  { Supervision.reset with smoothedWind := 700, settings := { SupSettings.reset with silenceLimit := 5 } }

/-- The head of the worked level (7.10), one update before the blend is 250. -/
def sampleLights : Lights :=
  { Lights.reset with
    outputs := (((Lights.reset.outputs.set 0 { sense := .activeHigh, buffered := 0, committed := 0, driven := false }).set 1
      { sense := .activeLow, buffered := 2611, committed := 513, driven := true }).set 2
      { sense := .activeHigh, buffered := 0, committed := 0, driven := true }),
    heads := Lights.reset.heads.set 0
      { enabled := true, outputs := some { r := 0, g := 1, b := 2, w := some 3 }, response := .square },
    master := 900, scene := { r := 400, g := 0, b := 0, w := 0 },
    blend := { direction := .rising, b0 := 0, fade := 2000, elapsed := 499, value := 249 } }

def segmentOf (state : SegmentState) (first length : Nat) (loopStart : Option Nat) : Segment :=
  { state := state, first := first, length := length, loopStart := loopStart }

def frontVoice : Voice :=
  { Voice.released with state := .front, segment := some 4, position := 10, fromGain := 900, toGain := 900, origin := 100,
                        governing := some 401 }

/-- S4 and S5 are READY and named by cues, S6 is FILLING, S7 is READY with a loop and not referenced. -/
def samplePlay : Playback :=
  { Playback.reset with
    segments := (((Playback.reset.segments.set 4 (segmentOf .ready 0 480000 none)).set 5
      (segmentOf .ready 480000 480000 none)).set 6 (segmentOf .filling 960000 100 (some 50))).set 7
      (segmentOf .ready 970000 96000 (some 48000)),
    memory := [(40, 0x20), (41, 0x4E), (42, 0x00), (43, 0x80)], v0 := frontVoice }

def sample : State :=
  { State.reset with
    store := sampleStore, clock := sampleClock, channels := sampleChannels, water := sampleWater,
    fieldLines := sampleFieldLines, sup := sampleSup, lights := sampleLights, play := samplePlay }

def inClock (state : ClockState) (s : State) : State := s.setClock { s.clock with state := state }

/-- The sample in STOPPED, with nothing taken and no voice sounding. -/
def stopped : State := clearShow (inClock .stopped sample)

/-- The sample in PAUSED at show time 5299, with return pending. -/
def paused : State := sample.setClock { sample.clock with state := .paused, returnPending := true }

/-- The sample in SAFE from RUNNING, the latched cause FORCED alone. -/
def safe : State := addCause .forced sample

/-- The sample in SAFE with the condition E_STOP present. -/
def stoppedByHand : State := after .estopFilterExpiry (after (.estopInputChange false) sample)

/-- A link that handles a request, in whatever phase. -/
def handling (w : Work) (s : State) : State :=
  s.setLink { s.link with state := .handling w, request := [0x07, 0, 0], rowDue := true }

/-! ### Worked examples of the manual -/

/-- 3.10 step 3: 500 → 3000, SMOOTH, 500 ms into 2000, stands at 890. -/
theorem test_ramp_smooth : ramp .smooth 4800 2000 5300 500 3000 = 890 := by decide

/-- 3.10 steps 6, 9 and 10. -/
theorem test_ramp_linear : ramp .linear 6800 1000 7001 2000 2500 = 2100 ∧ ramp .linear 10800 3000 11799 2500 1000 = 2001 ∧
    ramp .linear 5300 1000 6000 3000 2000 = 2300 := by decide

/-- 3.10 step 3: the tick takes cue 203 from 890 to 2000, and cue 202 is PASSED. -/
theorem test_showTick_takes : (after .showTick sample).channels[0].fromVal.r = 890 ∧
    (after .showTick sample).channels[0].taken = some 203 ∧
    (after .showTick sample).store.timelines[0].map (·.state) = [.passed, .passed, .live, .waiting] := by decide

/-- 8.10: the take of cue 402 sends voice 0 FADING over its ramp and starts voice 1 on S5. -/
theorem test_showTick_crossfades : (after .showTick sample).play.v0.state = .fading ∧
    (after .showTick sample).play.v0.toGain = 0 ∧ (after .showTick sample).play.v1.segment = some 5 ∧
    (after .showTick sample).play.v1.toGain = 700 := by decide

/-- 3.10 step 10: a chase at 6000 takes cue 203 from cue 202's target, 3000. -/
theorem test_seek_chases : (after (.seek 6000) paused).channels[0].fromVal.r = 3000 ∧
    (after (.seek 6000) paused).store.timelines[0].map (·.state) = [.passed, .passed, .live, .waiting] := by decide

/-- 4.12: the worked computation issues 790 with SLEW set, from a demand of 3600. -/
theorem test_compute_group17 :
    let g := computedGroup (sample.setChannels (sample.channels.set 0 (held (scalar 3600)))) 0
    (g.demanded, g.capped, g.target, g.issued, g.flags.slew, g.flags.budget) = (3600, 3600, 806, 790, true, false) := by decide

/-- 4.12, the second case: at 1000 cm/s the cap is 2750 with WIND set, and 720 is issued. -/
theorem test_compute_group17_wind :
    let s := sample.setSup { sample.sup with smoothedWind := 1000 }
    let g := computedGroup (s.setChannels (s.channels.set 0 (held (scalar 3600)))) 0
    (g.capped, g.target, g.issued, g.flags.wind) = (2750, 705, 720, true) := by decide

/-- 4.12: 790³ × 750 gives 369, and 760³ × 750 gives 329. -/
theorem test_powerEstimate : powerEstimate sample sampleGroup 790 = 369 ∧ powerEstimate sample sampleGroup 760 = 329 := by decide

/-- 4.13, rounds 1, 6 and 10: the unconfirmed valve holds the target at bypass; the valve closes at or below it. -/
theorem test_valve_stages :
    valveLimited (sample.setFieldLines FieldLines.reset) sampleGroup 430 = 150 ∧ valveLimited sample sampleGroup 430 = 430 ∧
    valveCommand { sampleGroup with delivered := 430 } 0 = true ∧ valveCommand { sampleGroup with delivered := 110 } 0 = false := by
  decide

/-- 5.5: the check byte of the order 85 02 00 64 is 92. -/
theorem test_check_byte : (orderChars 5 0 true [0x00, 0x64]).map (·.data) = [0x85, 0x02, 0x00, 0x64, 0x92] := by
  decide +kernel

/-- 7.10: at b = 250 the level is 1450 and the code 513. -/
theorem test_lightUpdate_code : (after .lightUpdate sample).lights.blend.value = 250 ∧
    (after .lightUpdate sample).lights.outputs[0].buffered = 513 := by decide

/-- 7.11: codes 791, 375, 225 and 39. -/
theorem test_level_codes : [0, 400, 600, 1000].map (fun b => Response.square.codeOf (blendedLevel 900 b 2000 400)) =
    [791, 375, 225, 39] := by decide

/-- R132, worked patterns: code 2611 has 164 counts in periods 3, 7 and 11; code 1450 has 91 in ten periods. -/
theorem test_pwm_patterns : (List.range 16).filter (fun p => activeCounts 2611 p == 164) = [3, 7, 11] ∧
    (List.range 16).filter (fun p => activeCounts 1450 p == 91) = [0, 2, 3, 4, 6, 8, 10, 11, 12, 14] := by decide

/-- 8.10: the mixed left side is 12,140; a sum of 50,000 is saturated. -/
theorem test_mix : mixSide 20000 (-7777) 675 175 1000 = 12140 ∧ mixSide 32000 30000 1000 600 1000 = 32767 := by decide

/-- 8.11: m after 24,000, 30,000, 95,999 and 96,000 frames of a 2000 ms fade. -/
theorem test_safe_multiplier : [24000, 30000, 95999, 96000].map (fun n => safeMultiplier n 2000) = [750, 688, 1, 0] := by decide

/-- R105, R106: at a scale of 75, pulse counts 8, 12, 20, 6, 2, 0, 0 (6.3). -/
theorem test_wind_gates : [8, 12, 20, 6, 2, 0, 0].foldl (fun (ws : List Nat) p =>
    ws ++ [smoothedWindOf (ws.getLast?.getD 0) (rawWindOf p 75)]) [] = [600, 900, 1500, 1368, 1215, 1063, 930] := by decide

/-- R148: the data wire is 0 in the first period of each half, then the sample's bits, then 0. -/
theorem test_serial_half : serialHalf 0x8001 32 = [false, true] ++ List.replicate 14 false ++ [true] ++ List.replicate 15 false := by
  decide

/-! ### Commands -/

/-- R6, R9, R11: cue 300 of J0 at 6200 stands between 202 and 203, its dispatch is 5000, and the free count falls from
4090 to 4089, below the threshold. -/
theorem test_placeCue_accepted :
    let t := after (.placeCue { cueArgs with number := 300, start := 6200 }) sample
    answerOf t = some (.done, [0, 0, 0x13, 0x88]) ∧ t.store.timelines[0].map (·.number) = [201, 202, 300, 203, 204] ∧
      Attention.storeLow.memberOf t.link.pending = true := by decide

/-- R9 check 4: a start earlier than that of the LIVE cue 202. -/
theorem test_placeCue_tooLate :
    answerOf (after (.placeCue { cueArgs with number := 300, start := 5900 }) sample) = some (.tooLate, []) := by decide

/-- R14: a new start gives cue 204 a new dispatch time, 6400 − 1200. -/
theorem test_amendCue_waiting :
    answerOf (after (.amendCue { amendArgs with number := 204, selection := 1, start := 6400 }) sample) =
      some (.done, [0, 0, 0x14, 0x50]) := by decide

/-- R16: the start of a taken cue is refused IN USE. -/
theorem test_amendCue_inUse :
    answerOf (after (.amendCue { amendArgs with number := 202, selection := 1, start := 6400 }) sample) =
      some (.inUse, []) := by decide

/-- R17, R18: the LIVE cue is removed, answered as LIVE, and its channel frozen. -/
theorem test_retireCue_live :
    let t := after (.retireCue 202) sample
    answerOf t = some (.done, [1]) ∧ t.channels[0].taken = none ∧ t.channels[0].duration = 0 := by decide

/-- R19: the one PASSED cue before 6000 is removed. -/
theorem test_retirePassed_counts : answerOf (after (.retirePassed 6000 none) sample) = some (.done, [0, 1]) := by decide

/-- R34, 11.4: RUNNING at 5299 (0x14B3) of 100,000 (0x0186A0). -/
theorem test_readClock_layout : answerOf (after .readClock sample) =
    some (.done, [1, 0, 0, 0x14, 0xB3, 0, 1, 0x86, 0xA0, 0, 0, 0]) := by decide

/-- R57: STOP releases the voices and makes every cue WAITING. -/
theorem test_stop_clears : (after .stop sample).store.timelines[0].all (fun c => c.state == .waiting) = true ∧
    (after .stop sample).play.v0.state = .idle := by decide

/-- R27: the tick that reaches the show length takes no cue. -/
theorem test_showTick_ends_show :
    let t := after .showTick (sample.setClock { sampleClock with showLength := 5300 })
    t.clock.state = .paused ∧ t.channels[0].taken = some 202 := by decide

/-- R80 check 4: a pump with a claimed speed is not removed from its group. -/
theorem test_setGroup_inUse :
    answerOf (after (.setGroup { groupArgs with enabled := false, pumpNode := none }) sample) = some (.inUse, []) := by decide

/-- R63: a curve whose first height is not 0 is refused. -/
theorem test_setCurve_refused :
    answerOf (after (.setCurve 1 (curve17.set 0 { height := 1, speed := 200 })) sample) = some (.outOfRange, []) := by decide

/-- R87, R88: the round begins with the SET turn of node 0. -/
theorem test_round_begins : ((after (.roundTimerExpiry .a) sample).line .a).round = .underWay 0 ∧
    ((after (.roundTimerExpiry .a) sample).line .a).roundCount = 1 := by decide

/-- The exchange of pump node 0, its answer begun, under an order that carries 760. -/
def pumpAnswer : Exchange := { exchangeOf 0 .set (orderChars 1 0 false [0x02, 0xF8]) .collecting with group := some 0 }

/-- An answer's characters with their check byte. -/
def answerChars (bytes : List Byte) : List RxChar :=
  (bytes ++ [crc8 bytes]).map (fun b => { data := b, mark := false, stopHigh := true })

/-- R94, R95, R166: a CLEAN answer at 750 with fault code 9 and bit 6 set. -/
theorem test_answerEnd_clean :
    let t := after (.answerEnd .a (answerChars [0x41, 3, 0x02, 0xEE, 9])) (onLineA pumpAnswer sample)
    (t.node 0).condition = .clean ∧ (t.node 0).actualSpeed = 750 ∧ (t.node 0).faultCode = 9 ∧
      (t.node 0).sequence = true := by decide +kernel

/-- R88: the round goes on to node 1 after node 0. -/
theorem test_answerEnd_continues :
    ((after (.answerEnd .a (answerChars [0x01, 3, 0x02, 0xEE, 9])) (onLineA pumpAnswer sample)).line .a).round =
      .underWay 1 := by decide +kernel

/-- R91: one answer for each judgement. -/
theorem test_judgements :
    ([answerChars [0x01, 3, 0, 0], answerChars [0x01, 3, 0, 0, 0, 0], answerChars [0x02, 3, 0, 0, 0],
      answerChars [0x81, 3, 0, 0, 0], answerChars [0x21, 3, 0, 0, 0], answerChars [0x01, 3, 0, 0, 0]]).map
        (judge pumpAnswer (sample.node 0)) = [.short, .overlong, .garbled, .stale, .declined, .clean] := by decide +kernel

/-- R91 test 8: an IDENTIFY answer of kind VALVE from a node recorded as a PUMP. -/
theorem test_judge_mismatch :
    judge (exchangeOf 0 (.join .identify) (orderChars 1 1 false []) .collecting) (sample.node 0)
      (answerChars [0x01, 3, 2, 0x07, 0xD0]) = .mismatch := by decide +kernel

/-- R108, R112: the accepted E-STOP puts the part into SAFE from RUNNING. -/
theorem test_estop_enters_safe : stoppedByHand.clock.state = .safe ∧ stoppedByHand.clock.safeOrigin = .running ∧
    stoppedByHand.sup.seen = SafeCause.eStop.bit := by decide

/-- R114: CLEAR SAFE is refused with the cause set while E_STOP is present, and answers the seen set otherwise. -/
theorem test_clearSafe_answers : answerOf (after .clearSafe stoppedByHand) = some (.wrongState, [0x01]) ∧
    answerOf (after .clearSafe safe) = some (.done, [0x20]) ∧ (after .clearSafe safe).clock.state = .paused := by decide

/-- R120: a second sense is refused with the sense in force. -/
theorem test_setOutputSense_once : answerOf (after (.setOutputSense 1 1) sample) = some (.setOnce, [2]) := by decide

/-- R122: output 2 is named by head 0. -/
theorem test_setHead_duplicate :
    answerOf (after (.setHead { headArgs with outputs := some { r := 4, g := 5, b := 2, w := none } }) sample) =
      some (.duplicate, []) := by decide

/-- R138, 11.6: −2 is stored as FE FF, least significant byte first. -/
theorem test_loadFrames_stores :
    (after .loadFramesWritten (after (.loadFrames 6 99 1 [{ left := 0xFFFE, right := 0x1234 }]) sample)).play.memory.drop 4 =
      [(3840396, 0xFE), (3840397, 0xFF), (3840398, 0x34), (3840399, 0x12)] := by
  decide +kernel

/-- R146: the frame at index 10, left 20,000 and right −32,768, at gain 900. -/
theorem test_audioFrame_plays : (after .audioFrame sample).play.frameSent = { left := 18000, right := BitVec.ofInt 16 (-29491) } ∧
    (after .audioFrame sample).play.v0.position = 11 := by decide +kernel

/-- R26: the 48th frame makes a tick due. -/
theorem test_audioFrame_ticks :
    (after .audioFrame (sample.setClock { sampleClock with framePhase := 47 })).clock.ticksDue = 2 := by decide

/-- R150, 8.12: positions in a segment with a loop and past the end of one without. -/
theorem test_chasePosition : chasePosition (segmentOf .ready 0 96000 (some 48000)) 10000 13500 = some 72000 ∧
    chasePosition (segmentOf .ready 0 96000 (some 48000)) 10000 21000 = some 48000 ∧
    chasePosition (segmentOf .ready 0 96000 none) 10000 12000 = none := by decide

/-- R157, 11.1: the answer of READ STORE as FETCH clocks it out, and 0xFF after it. -/
theorem test_fetchFrame_bytes :
    let t := after (.fetchFrame 11) (after .requestCompletion (after .readStore sample))
    t.link.miso = [0xFF, 0x16, 0x00, 0x00, 0x06, 0x00, 0x06, 0x0F, 0xFA, 0x0F, 0xFA, 0xFF] ∧ t.link.state = .idle := by decide

/-- R156: a SEND while a request is handled. -/
theorem test_sendFrame_overrun :
    Attention.linkOverrun.memberOf (after (.sendFrame [0x07, 0, 0]) (handling .taken sample)).link.pending = true := by decide

/-- R164: a SEND of an unknown code is answered by the link. -/
theorem test_sendFrame_unknown : finishedAnswer (after (.sendFrame [0x99]) sample) =
    some { echo := 0x99, status := .unknown, data := [] } := by decide

/-- R118: E-STOP found active as the reset ends. -/
theorem test_pinReset_safe : (after (.pinReset .resetLine) stoppedByHand).clock.state = .safe ∧
    (after (.pinReset .resetLine) stoppedByHand).clock.safeOrigin = .stopped := by decide

/-- R85: the character 85 with its mark bit, start bit first. -/
theorem test_character_bits : TxChar.bits { mark := true, data := 0x85 } =
    [false, true, false, true, false, false, false, false, true, true, true] := by decide

/-- R83, R85: a line after reset, and after the 11 bits of a character it has sent. -/
theorem test_transmit_idle :
    let r := { LineRec.reset with sentOrder := [{ mark := true, data := 0x85 }] }
    LineRec.reset.transmit 0 = true ∧ LineRec.reset.driverActive 0 = false ∧ r.transmit 0 = false ∧ r.driverActive 10 = true ∧
      r.transmit 11 = true ∧ r.driverActive 11 = false := by decide

/-- R103: a node dropped before the first attempt of its turn leaves an exchange with its SET order, to be discarded. -/
theorem test_dropNode_turnBegun :
    let t := after (.dropNode 3) (onLineA (exchangeOf 3 .set [] .ready) sample)
    ((t.line .a).exchange.map (fun x => (x.discard, x.order.map (·.data)))) = some (true, [0x04, 0x02, 0x00, 0x00, crc8 [4, 2, 0, 0]]) ∧
      (t.node 3).state = .absent := by decide +kernel

/-- R79: a ZERO order answered DECLINED sets the flag of the bound group, here group 0 bound to node 3. -/
theorem test_answerEnd_zeroDeclined :
    let s := setGroupRec 0 { sampleGroup with pumpNode := some 3 } sample
    let x := exchangeOf 3 (.join .zero) (orderChars 4 0 false [0, 0]) .collecting
    (after (.answerEnd .a (answerChars [0x24, 3, 0, 0, 0])) (onLineA x s)).water.groups[0].flags.declined = true := by decide +kernel

/-- R115: a request at 4,000 ms restarts the silence timer of 5 s, and its expiry at 5,000 ms does nothing. -/
theorem test_silenceTimer_restarted :
    let s := after .requestCompletion (after .readStore ((after .readStore sample).setNow 4000 |> after .requestCompletion))
    after .silenceTimerExpiry (s.setNow 5000) = s.setNow 5000 ∧
      (after .silenceTimerExpiry (s.setNow 9000)).clock.state = .safe := by decide

/-- R147: a voice held at the end of its segment in PAUSED stays there. -/
theorem test_segmentEnd_held :
    let s := inClock .paused (sample.setPlay { samplePlay with v0 := { frontVoice with position := 480000 } })
    after (.segmentEnd .v0) s = s ∧ (after (.segmentEnd .v0) (inClock .running s)).play.v0.state = .idle := by decide

/-- R155: a FETCH of two whole bytes and three bits more; MISO bit by bit, its first bit of the answer at the eighth fall. -/
theorem test_port_bits :
    let mosi := portBits [0x5A, 0x00, 0x00] ++ [false, true, false]
    let s := after .requestCompletion (after .readStore sample)
    portCommand mosi = .fetchFrame 2 ∧
      portCommand [true, false, true, false, false, true, false, true, false, true] = .disregardedFrame [0xA5] ∧
      (List.range 8).map (fun k => s.misoPin false (mosi.take (8 + k)) (8 + k)) =
        [some false, some false, some false, some true, some false, some true, some true, some false] ∧
      s.misoPin false [] 0 = some true ∧ s.misoPin true [] 0 = none := by decide

/-- R151, R156: SET AUDIO for MONO acts where SEND_FRAME takes it; its row adds nothing, and its completion places DONE. -/
theorem test_sendFrame_actsAtTheTaking :
    let t := after (.sendFrame [0x3D, 0, 2, 0, 1]) sample
    let f := (after .audioFrame t).play.frameSent
    f.left = f.right ∧ f.left ≠ 0 ∧ after (.setAudio 0 1) t = after (.setAudio 0 1) sample ∧
      finishedAnswer t = some { echo := 0x3D, status := .done, data := [] } := by decide

/-- R148: the bit clock of MASTER mode, low and then high; the second bit of the frame from the first falling edge on. -/
theorem test_bitClock :
    sample.bitClockDriven 0 = some false ∧ sample.bitClockDriven 127 = some true ∧ fallingEdges [false, true, true, false, true] = 1 := by
  decide

/-- R162: a RESTART empties the pending set when it is taken; a cause raised before its completion stays. -/
theorem test_restart_taken :
    let t := after (.sendFrame [0x4F, 0, 0]) (raise .storeLow sample)
    t.link.pending = 0 ∧ (after .requestCompletion (after (.sendFrame [0]) t)).link.pending = Attention.linkOverrun.bit := by decide

/-! ### For every statement with hypotheses, states and operands that meet them, clause by clause -/

theorem test_meets_StepRunsFrontCommand : sample.pending = [] := by decide

/-- A request of 1,040 bytes, the largest. -/
def largest : List Byte := [0x39, 0x04, 0x0D, 0, 0, 0, 0, 0, 0x01, 0x00] ++ List.replicate 1030 0

theorem test_meets_RequestBytesReadBack : largest.length ≤ Config.largestRequest ∧
    parseRequest largest = .ok (.loadFrames 0 0 256 (List.replicate 256 Frame.silence)) := by decide +kernel

theorem test_meets_TakenSendIsJudged : LinkFree sample ∧
    exec (.loadFrames 255 4294967295 0 []) sample = .next (after (.loadFrames 255 4294967295 0 []) sample) ∧
    requiredLength 0x50 [] = none ∧ requiredLength 0x4F [] = some 0 ∧ ([0x4F, 0] : List Byte).length < 3 ∧
    ¬(([0x4F, 0, 0] : List Byte).length < 3 ∨ ([] : List Byte).length ≠ field [0x4F, 0, 0] 1 2 ∨ field [0x4F, 0, 0] 1 2 ≠ 0) :=
  ⟨Or.inl rfl, rfl, by decide⟩

def answered (s : State) : State := after .requestCompletion (after .readStore s)

theorem test_meets_OverrunsFetchesAndDisregardedFrames : (handling .taken sample).link.state = .handling .taken ∧
    ([0] : List Byte) ≠ [] ∧ Instr.request? .readStore = some .readStore ∧
    rowFollows .readStore (handling .taken sample) = false ∧ (answered sample).link.state = .answerReady ∧
    (answered sample).link.answer = some { echo := 0x16, status := .done, data := [0, 6, 0x0F, 0xFA, 0x0F, 0xFA] } ∧
    sample.link.state ≠ .answerReady := by decide

theorem test_meets_CompletionAfterSendMatchesRow :
    (handling (.finished { echo := 7, status := .done, data := [] }) sample).link.state =
      .handling (.finished { echo := 7, status := .done, data := [] }) ∧
    sentRequest [0x4F, 0, 0] = some .restart ∧ Instr.request? (.seek 4294967295) = some (.seek 4294967295) ∧ (Request.seek 4294967295).wf = true ∧ LinkFree sample ∧
    exec (.sendFrame (encodeRequest (.seek 4294967295))) sample =
      .next (after (.sendFrame (encodeRequest (.seek 4294967295))) sample) ∧
    exec (.seek 4294967295) sample = .next (after (.seek 4294967295) sample) :=
  ⟨by decide, by decide, by decide, by decide, Or.inl rfl, rfl, rfl⟩

/-- A LOAD FRAMES for the segment S6, sent and taken, and its own row. -/
def load : Request := .loadFrames 6 99 1 [{ left := 0xFFFE, right := 0x1234 }]

theorem test_meets_CompletionAfterSendMatchesRow_load :
    Instr.request? (.loadFrames 6 99 1 [{ left := 0xFFFE, right := 0x1234 }]) = some load ∧ load.wf = true ∧
    load.code = 0x39 ∧ exec (.sendFrame (encodeRequest load)) sample = .next (after (.sendFrame (encodeRequest load)) sample) ∧
    exec (.loadFrames 6 99 1 [{ left := 0xFFFE, right := 0x1234 }]) sample =
      .next (after (.loadFrames 6 99 1 [{ left := 0xFFFE, right := 0x1234 }]) sample) :=
  ⟨rfl, by decide, by decide, rfl, rfl⟩

theorem test_meets_EveryTakenRequestIsAnswered : Instr.request? (.readGroup 32) = some (.readGroup 32) ∧
    (Request.readGroup 32).wf = true ∧ LinkFree sample ∧
    finishedAnswer (after (.readGroup 32) sample) = some { echo := 0x24, status := .outOfRange, data := [] } :=
  ⟨by decide, by decide, Or.inl rfl, by decide⟩

theorem test_meets_AttentionRequestsAndShortReads : 65535 < 65536 ∧ LinkFree sample ∧ LinkFree safe :=
  ⟨by decide, Or.inl rfl, Or.inl rfl⟩

theorem test_meets_PendingCausesStayUntilCleared : safe.link.pending ≠ 0 ∧ exec .gateEnd safe = .next (after .gateEnd safe) ∧
    LinkFree safe ∧ encodeRequest .restart = [0x4F, 0, 0] := ⟨by decide, rfl, Or.inl rfl, by decide⟩

/-- A store of one cue, at the greatest number. -/
def lastNumber : Store := { sampleStore with timelines := (Vector.replicate 49 []).set 31 [jetCue 65535 1 0 .linear 0 1 .waiting] }

theorem test_meets_RecordReadsAnswerAndChangeNothing : LinkFree sample ∧
    lastNumber.find 65535 = some (31, jetCue 65535 1 0 .linear 0 1 .waiting) ∧ sample.store.find 1 = none ∧
    (sample.node 0).reportedPower = none ∧ (sample.node 39).state = .absent ∧ sample.lights.heads[1].outputs = none ∧
    sample.lights.heads[0].outputs = some { r := 0, g := 1, b := 2, w := some 3 } := ⟨Or.inl rfl, by decide⟩

/-- The last show time that is in range and the first that is not; a new length at show time and just below it. -/
theorem test_meets_ClockRequestsActInTheirStates : LinkFree sample ∧ sample.clock.state = .running ∧ LinkFree safe ∧
    safe.clock.state = .safe ∧ LinkFree stopped ∧ stopped.clock.state = .stopped ∧ LinkFree paused ∧
    paused.clock.state = .paused ∧ 16777215 ≤ Config.showTimeMax ∧ Config.showTimeMax < 16777216 ∧ 16777216 < 4294967296 ∧
    ¬(sample.clock.state = .paused ∧ sample.clock.showTime < sample.clock.showLength) ∧ paused.clock.showTime ≤ 5299 ∧
    5298 < paused.clock.showTime :=
  ⟨Or.inl rfl, by decide, Or.inl rfl, by decide, Or.inl rfl, by decide, Or.inl rfl, by decide⟩

theorem test_meets_StartChasesAndRuns : LinkFree stopped ∧ stopped.clock.state = .stopped ∧
    stopped.clock.showTime < stopped.clock.showLength := ⟨Or.inl rfl, by decide⟩

/-- In PAUSED: a SEEK to the very dispatch time of cue 203 on J0, and before the dispatch time of every cue of P. -/
theorem test_meets_SeekMovesAndChases : LinkFree stopped ∧ stopped.clock.state = .stopped ∧ LinkFree paused ∧
    paused.clock.state = .paused ∧ 5300 ≤ Config.showTimeMax ∧ (∀ q ∈ paused.store.timelines[0].drop 3, 5300 < q.dispatch) ∧
    ∀ q ∈ paused.store.timelines[48], 99 < q.dispatch := ⟨Or.inl rfl, by decide, Or.inl rfl, by decide⟩

theorem test_meets_ResumeRunsThePausedShow : LinkFree paused ∧ paused.clock.state = .paused ∧
    paused.clock.showTime < paused.clock.showLength ∧ paused.clock.returnPending = true ∧
    LinkFree (inClock .paused sample) ∧ (inClock .paused sample).clock.state = .paused ∧
    (inClock .paused sample).clock.returnPending = false := ⟨Or.inl rfl, by decide, by decide, by decide, Or.inl rfl, by decide⟩

def atShowEnd : State := sample.setClock { sampleClock with showLength := 5300 }

theorem test_meets_ShowTickAdvancesOnlyRunning : sample.clock.ticksDue ≠ 0 ∧ paused.clock.state ≠ .running ∧
    paused.clock.ticksDue ≠ 0 ∧ atShowEnd.clock.state = .running ∧ atShowEnd.clock.showTime + 1 = atShowEnd.clock.showLength ∧
    sample.clock.state = .running ∧ sample.clock.showTime + 1 ≠ sample.clock.showLength ∧
    (sample.store.timelines[0].filter (dueAt 5300)).getLast? = some (jetCue 203 6500 1000 .linear 2000 5300 .waiting) ∧
    ∀ q ∈ sample.store.timelines[1], dueAt 5300 q = false := by decide

/-- The sample with another programme cue due at the next tick. -/
def dueOnP (q : Cue) : State :=
  sample.setStore { sampleStore with timelines := sampleStore.timelines.set 48 [playCue 401 100 0 4 900 .standing, q] }

/-- A FRONT voice fades from gain 900 over 2000 ms; a ramp of 0 releases it. PLAY, GAIN and QUIET. -/
theorem test_meets_TakenProgrammeCueMovesTheVoices :
    let q := playCue 402 5300 2000 5 700 .waiting
    sample.clock.ticksDue ≠ 0 ∧ sample.clock.state = .running ∧ sample.clock.showTime + 1 ≠ sample.clock.showLength ∧
    (sample.store.timelines[48].filter (dueAt 5300)).getLast? = some q ∧ sample.play.v0.state = .front ∧
    ((dueOnP { q with payload := .gain 0, ramp := 0 }).store.timelines[48].filter (dueAt 5300)).getLast? =
      some { q with payload := .gain 0, ramp := 0 } ∧
    ((dueOnP { q with payload := .quiet }).store.timelines[48].filter (dueAt 5300)).getLast? =
      some { q with payload := .quiet } := by decide

def following : State := sample.setClock { sampleClock with mode := .follow, lossTimerRunning := true }

theorem test_meets_WordClockLossAndReturn : following.clock.mode = .follow ∧ following.clock.lossTimerRunning = true ∧
    SafeCause.clockLost.memberOf following.sup.causes = false := by decide

theorem test_meets_ShapeFractionRuns : 0 ≤ 1000 ∧ 1000 ≤ 1000 ∧ 4800 < 4801 ∧ 4801 - 4800 < 2000 ∧ 6799 - 4800 < 2000 ∧
    500 ≤ 3000 := by decide

theorem test_meets_PlaceCueInsertsTheCue :
    let a : CueArgs := { cueArgs with number := 65535, start := 16777215, ramp := 60000 }
    LinkFree sample ∧ (Request.placeCue a).wf = true ∧ a.channel = (0 : Fin 49).val ∧ shape? a.shape = some .smooth ∧
    readPayload 0 a.payload = some (.jet 3600) ∧ 1 ≤ a.number ∧ a.number ≤ 65535 ∧ a.start ≤ Config.showTimeMax ∧
    a.ramp ≤ Config.rampMax ∧ sample.store.find a.number = none ∧ (∀ q ∈ sample.store.timelines[0], q.start ≠ a.start) ∧
    sample.store.occupied < Config.cueSlots ∧ (∀ q ∈ sample.store.timelines[0], q.state ≠ .waiting → q.start ≤ a.start) ∧
    ∀ seg, (Payload.jet 3600).segment? = some seg → sample.play.segments[seg].state = .ready :=
  ⟨Or.inl rfl, by decide⟩

/-- The store with every slot occupied, by cues of J1 whose dispatch time is not yet come. -/
def fullStore : Store :=
  { sampleStore with
    timelines := sampleStore.timelines.set 1 (List.replicate 4090 (jetCue 500 9000 0 .linear 0 9000 .waiting)) }

/-- Each check of R9 with a PLACE CUE that passes those before it: numbers and starts taken, a full store, an earlier
start, a segment that is not READY, and an acceptance. -/
theorem test_meets_PlaceCueRefusesInOrder :
    ¬(1 ≤ 0 ∧ cueArgs.channel ≤ 48) ∧ sample.store.find 202 ≠ none ∧ sample.store.find 1 = none ∧ (∃ q ∈ sample.store.timelines[0], q.start = 6000) ∧
    (¬∃ q ∈ sample.store.timelines[0], q.start = 5999) ∧ sample.store.occupied < Config.cueSlots ∧
    (∃ q ∈ sample.store.timelines[0], q.state ≠ .waiting ∧ 5999 < q.start) ∧
    readPayload 48 { w0 := 6, w1 := 1000, w2 := 0, w3 := 0 } = some (.play 6 1000) ∧ sample.play.segments[6].state ≠ .ready ∧
    (¬∃ q ∈ sample.store.timelines[48], q.start = 101 ∨ (q.state ≠ .waiting ∧ 101 < q.start)) ∧
    LinkFree (sample.setStore fullStore) ∧ LinkFree sample :=
  ⟨by decide, by decide, by decide, by decide, by decide, by decide, by decide, by decide, by decide, by decide,
    Or.inl rfl, Or.inl rfl⟩

theorem test_meets_PlaceCueRefusesInOrder_full : fullStore.find 1 = none ∧ Config.cueSlots ≤ fullStore.occupied := by
  decide +kernel

def amendOf (number selection start : Nat) (w0 w1 : Nat) : AmendArgs :=
  { amendArgs with number := number, selection := selection, start := start, ramp := 60000,
                   payload := { w0 := w0, w1 := w1, w2 := 0, w3 := 0 } }

/-- Each check of R13 with an AMEND CUE that passes those before it: a number of 0, none in the map, a payload out of
range, a PASSED cue, a taken cue's start and a programme cue's segment, a start taken and one too early, a segment that
is not READY. -/
theorem test_meets_AmendCueRefusesInOrder : LinkFree sample ∧ (Request.amendCue (amendOf 0 15 0 0 0)).wf = true ∧
    sample.store.find 1 = none ∧ sample.store.find 401 = some (48, playCue 401 100 0 4 900 .standing) ∧
    payloadFits 48 (playCue 401 100 0 4 900 .standing).payload = true ∧
    readPayload 48 (amendOf 401 8 0 4 1000).payload = some (.play 4 1000) ∧
    actionCodes (.play 4 1000) = actionCodes (playCue 401 100 0 4 900 .standing).payload ∧
    readPayload 48 (amendOf 401 8 0 5 900).payload = some (.play 5 900) ∧
    actionCodes (.play 5 900) ≠ actionCodes (playCue 401 100 0 4 900 .standing).payload ∧
    (∃ d ∈ sample.store.timelines[0], d.number ≠ 204 ∧ d.start = 6500) ∧
    (¬∃ d ∈ sample.store.timelines[0], d.number ≠ 204 ∧ d.start = 5999) ∧
    (∃ d ∈ sample.store.timelines[0], d.state ≠ .waiting ∧ 5999 < d.start) ∧
    readPayload 48 (amendOf 402 8 0 6 0).payload = some (.play 6 0) ∧ sample.play.segments[6].state ≠ .ready :=
  ⟨Or.inl rfl, by decide⟩

/-- The greatest height and gain in range, and the first that are not. -/
theorem payload_ranges : PayloadInRange 0 { w0 := 6000, w1 := 0, w2 := 0, w3 := 0 } ∧
    ¬PayloadInRange 0 { w0 := 6001, w1 := 0, w2 := 0, w3 := 0 } ∧ PayloadInRange 48 (amendOf 401 8 0 4 1000).payload ∧
    ¬PayloadInRange 48 (amendOf 401 8 0 4 1001).payload := by
  simp [PayloadInRange, amendOf]

/-- A PASSED, a LIVE and a WAITING jet cue, and the STANDING PLAY cue 401 with a new gain; its segment S4 is READY. -/
theorem test_meets_AmendCueFollowsTheCueState :
    let onto (n : Nat) := amendOf n 15 6000 0 0
    LinkFree sample ∧ (Request.amendCue (onto 202)).wf = true ∧ amendInRange (onto 202) = true ∧
    sample.store.find 201 = some (0, jetCue 201 1000 0 .linear 500 0 .passed) ∧
    sample.store.find 202 = some (0, jetCue 202 6000 2000 .smooth 3000 4800 .live) ∧
    sample.store.find 204 = some (0, jetCue 204 12000 3000 .linear 1000 10800 .waiting) ∧ payloadFits 0 (.jet 0) = true ∧
    readPayload 0 (onto 202).payload = some (.jet 0) ∧ (Payload.jet 0).segment? = none ∧ (onto 202).start = 6000 ∧
    (∀ d ∈ sample.store.timelines[0], (d.number ≠ 204 → d.start ≠ 6001) ∧ (d.state ≠ .waiting → d.start ≤ 6001)) ∧
    10800 = dispatchTime (leadOf sample 0) 12000 ∧ amendInRange (amendOf 401 10 0 4 1000) = true ∧
    sample.store.find 401 = some (48, playCue 401 100 0 4 900 .standing) ∧ payloadFits 48 (.play 4 900) = true ∧
    readPayload 48 (amendOf 401 10 0 4 1000).payload = some (.play 4 1000) ∧ actionCodes (.play 4 1000) = actionCodes (.play 4 900) ∧
    sample.play.segments[4].state = .ready := ⟨Or.inl rfl, by decide⟩

theorem test_meets_RetireRequestsRemoveTheirCues : LinkFree sample ∧ 1 ≤ 201 ∧ 65535 ≤ 65535 ∧
    sample.store.find 201 = some (0, jetCue 201 1000 0 .linear 500 0 .passed) ∧
    sample.store.find 202 = some (0, jetCue 202 6000 2000 .smooth 3000 4800 .live) ∧
    sample.store.find 401 = some (48, playCue 401 100 0 4 900 .standing) ∧ sample.play.v0.governing = some 401 ∧
    sample.store.find 65535 = none ∧ 16777215 ≤ Config.showTimeMax ∧ (Request.retirePassed 16777216 none).wf = true ∧
    Config.showTimeMax < 16777216 ∧ (Request.retirePassed 0 (some 49)).wf = true ∧ 4095 ≤ 4095 ∧ 4095 < 4096 :=
  ⟨Or.inl rfl, by decide⟩

/-- SET GROUP that keeps the bindings of group 0, and one that binds a JOINING pump to group 31 and makes it critical. -/
theorem test_meets_SetGroupWritesTheRecord :
    let a : GroupArgs := { groupArgs with upStep := 200, bypass := 1000 }
    let b : GroupArgs := { groupArgs with group := 31, enabled := false, critical := true, pumpNode := some 3, valve := none, lead := 5000 }
    let v : Option ValveBinding := some { node := 1, output := 0 }
    LinkFree sample ∧ (Request.setGroup a).wf = true ∧ (Request.setGroup b).wf = true ∧ groupInRange a = true ∧
    groupInRange b = true ∧ namesAbsent sample (some 0) v = false ∧ namesAbsent sample (some 3) none = false ∧
    namesWrongKind sample (some 0) v = false ∧ namesWrongKind sample (some 3) none = false ∧
    boundElsewhere sample 0 (some 0) v = false ∧ boundElsewhere sample 31 (some 3) none = false ∧
    removesRunningPump sample sampleGroup (some 0) = false ∧ removesRunningPump sample Group.reset (some 3) = false ∧
    removesOpenValve sampleGroup v = false ∧ removesOpenValve Group.reset none = false ∧
    (a.enabled && curveAllZero sampleGroup.curve) = false ∧ (b.enabled && curveAllZero Group.reset.curve) = false ∧
    (sample.node 3).state ≠ .online ∧ (sample.node 0).state = .online ∧ sample.water.groups[0] = sampleGroup ∧ sample.water.groups[31] = Group.reset ∧
    SafeCause.criticalLost.memberOf sample.sup.causes = (criticalLostGroup sample).isSome := ⟨Or.inl rfl, by decide⟩

/-- Each check of R80 with a SET GROUP that passes those before it: an enabled group without a pump, an ABSENT node, a
valve node as pump, a pump bound elsewhere, a running pump removed, an open valve removed, a curve of zeros. -/
theorem test_meets_SetGroupRefusesInOrder :
    LinkFree sample ∧ (Request.setGroup { groupArgs with pumpNode := none }).wf = true ∧ (sample.node 39).state = .absent ∧
    (sample.node 1).state ≠ .absent ∧ (sample.node 1).kind = .valve ∧ (sample.node 0).kind = .pump ∧
    sample.water.groups[0].pumpNode = some 0 ∧ sample.water.groups[0].pumpNode ≠ some 3 ∧ (sample.node 3).state ≠ .absent ∧
    (sample.node 0).state ∈ [NodeState.joining, .online, .suspect] ∧ 0 < sample.water.groups[0].issued ∧
    sample.water.groups[0].valve ≠ none ∧ sample.water.groups[0].valveOpen = true ∧
    (∀ k : Fin 8, sample.water.groups[31].curve[k] = { height := 0, speed := 0 }) ∧
    (∀ k : Fin 32, sample.water.groups[k].pumpNode ≠ some 3) ∧ sample.water.groups[31].valve = none :=
  ⟨Or.inl rfl, by decide⟩

theorem test_meets_WaterSettingsReplaceTheirRecords : LinkFree sample ∧ (Request.setCurve 31 curve17).wf = true ∧
    (∀ k : Fin 8, curve17[k].height ≤ 6000 ∧ curve17[k].speed ≤ 1000) ∧ curve17[0].height = 0 ∧ 1 ≤ curve17[0].speed ∧
    (∀ j k : Fin 8, j < k → curve17[j].height < curve17[k].height ∧ curve17[j].speed ≤ curve17[k].speed) ∧
    (curve17.set 0 { height := 0, speed := 0 })[0].speed < 1 ∧ 65534 < 65535 ∧ 1000 ≤ 1000 ∧ 1000 < 1001 ∧
    (Request.setCurve 32 curve17).wf = true ∧ 32 ≤ 32 ∧ (Request.setWindClass 4 0 1 0).wf = true ∧ 4 ≤ 4 :=
  ⟨Or.inl rfl, by decide⟩

theorem test_meets_WindFactorAndCurveSpeed :
    let k : WindClass := { lo := 400, hi := 1200, floor := 400 }
    let still := sample.setWater { sample.water with windClasses := sample.water.windClasses.set 1 { lo := 400, hi := 700, floor := 0 } }
    k.lo < k.hi ∧ k.floor ≤ 1000 ∧ sample.water.groups[0].windClass = some 1 ∧
    windFactor still.water.windClasses[1] still.sup.smoothedWind = 0 ∧
    demandedHeight { still with channels := Vector.replicate 49 ChannelRec.reset } 0 = 0 ∧ curveValid curve17 = true ∧
    (curve17[6].height ≤ 5999 ∧ 5999 < curve17[7].height) ∧ curve17[7].height ≤ 6000 ∧
    sample.water.groups[1].enabled = false ∧ (computedGroup sample 0).capped ≠ 0 := by decide

theorem test_meets_PumpTurnKeepsTheSpeedLaws :
    let x := exchangeOf 0 .set [] .ready
    ((onLineA x sample).line .a).exchange = some x ∧ x.phase = .ready ∧ x.order = [] ∧ x.turn = .set ∧
    ((onLineA x sample).node 0).kind = .pump ∧ pumpGroup (onLineA x sample) 0 = some 0 := by decide

/-- A further attempt, a valve node's SET, an unbound pump's SET, the three join stages, and no attempt ready. -/
theorem test_meets_AttemptsSendTheirOrders :
    let at_ (x : Exchange) := ((onLineA x sample).line .a).exchange = some x ∧ x.phase = .ready
    at_ (exchangeOf 0 .set (orderChars 1 0 false [0, 0]) .ready) ∧ at_ (exchangeOf 1 .set [] .ready) ∧
    (sample.node 1).kind = .valve ∧ at_ (exchangeOf 3 .set [] .ready) ∧ (sample.node 3).kind = .pump ∧
    pumpGroup sample 3 = none ∧ at_ (exchangeOf 39 (.join .identify) [] .ready) ∧
    at_ (exchangeOf 0 (.join .configure) [] .ready) ∧ at_ (exchangeOf 1 (.join .zero) [] .ready) ∧
    at_ (exchangeOf 0 (.join .zero) [] .ready) ∧ (sample.line .a).exchange = none := by decide +kernel

theorem test_meets_CheckByteOfOrdersAndAnswers :
    let chars := (answerChars [0x01, 3, 0, 0, 0]).set 4 { data := 1, mark := false, stopHigh := true }
    crc8 ([0x01] ++ 0x02 :: [0x03]) = crc8 ([0x01] ++ 0x02 :: [0x03]) ∧ (∀ c ∈ chars, c.stopHigh = true) ∧
    chars.length = declaredLength chars + 3 ∧
    (chars.map (·.data)).getLast? ≠ some (crc8 (chars.map (·.data)).dropLast) := by decide +kernel

/-- `test_judgements` and `test_judge_mismatch` show an answer for each judgement; a low stop bit is GARBLED. -/
theorem test_meets_AnswersAreJudgedInOrder :
    judge pumpAnswer (sample.node 0) [{ data := 0, mark := false, stopHigh := false }] = .garbled := by decide

theorem test_meets_SetAnswersEndTheTurn :
    let listening := { pumpAnswer with phase := .listening }
    ((onLineA listening sample).line .a).exchange = some listening ∧ listening.phase = .listening ∧
    ((onLineA pumpAnswer sample).line .a).exchange = some pumpAnswer ∧ pumpAnswer.phase = .collecting ∧
    pumpAnswer.discard = false ∧ pumpAnswer.turn = .set ∧ ((onLineA pumpAnswer sample).line .a).pendingStart = false ∧
    (answerChars [0x01, 3, 0, 0, 0]).length ≤ 259 ∧ judge pumpAnswer (sample.node 0) (answerChars [0x01, 3, 0, 0, 0]) = .clean ∧
    judge pumpAnswer (sample.node 0) (answerChars [0x21, 3, 0, 0, 0]) = .declined := by decide +kernel

/-- A join turn of node 3, its answer begun: an answer of each outcome, at every stage. -/
theorem test_meets_JoinAnswersEndTheTurn :
    let x (stage : JoinStage) (order : List TxChar) := exchangeOf 3 (.join stage) order .collecting
    let identify := x .identify (orderChars 4 1 false [])
    let zero := x .zero (orderChars 4 0 false [0, 0])
    ((onLineA zero sample).line .a).exchange = some zero ∧ ((onLineA zero sample).line .a).pendingStart = false ∧
    (answerChars [0x04, 3, 1, 0x07, 0xD0]).length ≤ 259 ∧ (sample.node 3).state = .joining ∧
    pumpGroup (onLineA zero sample) 3 = none ∧
    judge identify (sample.node 3) (answerChars [0x04, 3, 1, 0x07, 0xD0]) = .clean ∧
    judge identify (sample.node 3) (answerChars [0x04, 3, 2, 0x07, 0xD0]) = .mismatch ∧
    judge (x .configure (orderChars 4 2 false [0, 0x50])) (sample.node 3) (answerChars [0x04, 0]) = .clean ∧
    judge zero (sample.node 3) (answerChars [0x04, 3, 0, 0, 0]) = .clean ∧
    judge zero (sample.node 3) (answerChars [0x24, 3, 0, 0, 0]) = .declined := by decide +kernel

/-- The retry limit is 2 and the lost limit 3: a first attempt, a failed round short of the limit, one at it, and a
join turn. -/
theorem test_meets_FailedAttemptsRetryThenFail :
    let first := exchangeOf 0 .set [] .listening
    let last := { first with further := 2 }
    let join := { exchangeOf 3 (.join .zero) [] .listening with further := 2 }
    let weak := setNodeRec 0 { nodeOf .suspect .a 1 .pump with failedRounds := 2 } sample
    ((onLineA first sample).line .a).exchange = some first ∧ first.phase = .listening ∧ first.discard = false ∧
    first.further < (sample.line .a).active.retryLimit ∧ ((onLineA last sample).line .a).exchange = some last ∧
    (sample.line .a).active.retryLimit ≤ last.further ∧ ((onLineA last sample).line .a).pendingStart = false ∧
    (sample.node 0).state ≠ .lost ∧ (sample.node 0).failedRounds + 1 < (sample.line .a).active.lostLimit ∧
    ((onLineA last weak).line .a).exchange = some last ∧ (weak.node 0).state ≠ .lost ∧
    (weak.line .a).active.lostLimit ≤ (weak.node 0).failedRounds + 1 ∧ ((onLineA join sample).line .a).exchange = some join ∧
    join.turn ≠ .set ∧ (sample.node 3).state ≠ .lost ∧ pumpGroup weak 0 = some 0 := by decide

/-- An answer of each failing judgement (`test_judgements`), and the turn of a node dropped meanwhile. -/
theorem test_meets_FailedAttemptsRetryThenFail_judged :
    let first := pumpAnswer
    let dropped := { exchangeOf 0 .set [] .listening with discard := true }
    ((onLineA first sample).line .a).exchange = some first ∧ first.phase = .collecting ∧ first.discard = false ∧
    (answerChars [0x81, 3, 0, 0, 0]).length ≤ 259 ∧
    judge first (sample.node 0) (answerChars [0x81, 3, 0, 0, 0]) = .stale ∧
    judge first (sample.node 0) (answerChars [0x02, 3, 0, 0, 0]) = .garbled ∧
    judge first (sample.node 0) (answerChars [0x01, 3, 0, 0]) = .short ∧
    judge first (sample.node 0) (answerChars [0x01, 3, 0, 0, 0, 0]) = .overlong ∧
    ((onLineA dropped sample).line .a).exchange = some dropped ∧ dropped.discard = true ∧
    ((onLineA dropped sample).line .a).pendingStart = false := by decide +kernel

/-- The turn of node 0, after which the round goes on to node 1, and that of node 3, which is the line's last. -/
theorem test_meets_PendingStartBeginsTheNextRound :
    let of_ (i : Fin 40) := onLineA { exchangeOf i .set [] .listening with further := 2 } sample
    let late (i : Fin 40) := setLineRec .a { (of_ i).line .a with pendingStart := true } (of_ i)
    ((late 0).line .a).pendingStart = true ∧ ((late 0).line .a).round = .underWay 0 ∧
    ((late 3).line .a).pendingStart = true ∧ ((late 3).line .a).round = .underWay 3 ∧
    ((after (.replyWaitExpiry .a) (of_ 0)).line .a).round = .underWay 1 ∧
    ((after (.replyWaitExpiry .a) (of_ 3)).line .a).round = .idle := by decide

theorem test_meets_RoundTimerStartsOrOverruns :
    ((onLineA (exchangeOf 39 .set [] .ready) sample).line .a).round = .underWay 39 ∧ (sample.line .a).round = .idle ∧
    (State.reset.line .b).round = .idle := by decide

/-- A round whose turn takes the ONLINE pump of a critical group back into its join: the part enters SAFE. -/
theorem test_meets_RoundTimerStartsOrOverruns_lost :
    let s := setNodeRec 0 { sample.node 0 with rejoin := true } (setGroupRec 0 { sampleGroup with critical := true } sample)
    let t := after (.roundTimerExpiry .a) s
    (s.line .a).round = .idle ∧ (t.line .a).round = .underWay 0 ∧ (s.node 0).state = .online ∧ (t.node 0).state = .joining ∧
    s.water.groups[0].pumpNode = some 0 ∧ s.water.groups[0].critical = true ∧ t.clock.state = .safe := by decide

/-- Nodes 2 and 3 are bound to no group; node 0 and node 1 are. The turn of node 3 on the wire, before its first
attempt, and between two attempts. -/
theorem test_meets_FieldRequestsWriteTheirRecords :
    let served := exchangeOf 3 .set [] .listening
    let beyond := exchangeOf 3 .set [] .ready
    let between := { exchangeOf 3 .set (orderChars 4 0 false [0, 0]) .ready with further := 1 }
    LinkFree sample ∧ SafeCause.criticalLost.memberOf sample.sup.causes = (criticalLostGroup sample).isSome ∧
    ¬(39 < 40 ∧ 1 < 2 ∧ 1 ≤ 0) ∧ 1 ≤ 1 ∧ 20 ≤ 20 ∧ 40 ≤ 40 ∧
    (sample.node 39).state = .absent ∧ (sample.node 0).state ≠ .absent ∧
    sample.water.groups[0].pumpNode = some 0 ∧ (sample.node 3).state ≠ .absent ∧
    (¬∃ k : Fin 32, sample.water.groups[k].pumpNode = some 3 ∨ ∃ o, sample.water.groups[k].valve = some { node := 3, output := o }) ∧
    (sample.line (sample.node 3).line).exchange = none ∧ ((onLineA served sample).line (sample.node 3).line).exchange = some served ∧
    served.phase ≠ .ready ∧ ((onLineA beyond sample).line .a).exchange = some beyond ∧ beyond.phase = .ready ∧ beyond.further = 0 ∧
    ((onLineA between sample).line .a).exchange = some between ∧ between.phase = .ready ∧ between.further ≠ 0 ∧
    ((onLineA between sample).line .a).pendingStart = false ∧
    (Request.setLine 0 lineArgs).wf = true ∧ (Request.setLine 1 { lineArgs with prescale := 2 }).wf = true ∧
    lineArgs.prescale = 8 ∧ lineArgs.divisor ≤ 4095 ∧ 10 ≤ lineArgs.roundPeriod ∧ lineArgs.roundPeriod ≤ 250 ∧ lineArgs.retryLimit ≤ 7 ∧
    1 ≤ lineArgs.lostLimit ∧ lineArgs.lostLimit ≤ 15 ∧ 1 ≤ lineArgs.replyWait ∧ lineArgs.replyWait ≤ 50 ∧
    (∀ i : Fin 40, (State.reset.node i).line = .b → (State.reset.node i).state = .absent) ∧ (sample.node 0).line = .a :=
  ⟨Or.inl rfl, by decide +kernel⟩

theorem test_meets_WindFollowsTheGates : 700 ≤ rawWindOf 700 1 ∧ rawWindOf 699 1 < sample.sup.smoothedWind := by decide

/-- A LOW-LOW level that has waited for 4,000 ms, and one at once. -/
def waitingLow : State :=
  (sample.setSup { sample.sup with lowLow := { high := true, active := false, since := 1000 } }).setNow 5000

theorem test_meets_InputsAndSettingsTakeEffect :
    let c : SupSettings := { supArgs with debounceSteps := 40 }
    let atOnce := sample.setSup { sample.sup with settings := { sample.sup.settings with debounceSteps := 0 } }
    sample.sup.settings.debounceSteps ≠ 0 ∧ atOnce.sup.settings.debounceSteps = 0 ∧ waitingLow.sup.lowLow.active ≠ waitingLow.sup.lowLow.high ∧
    (after (.estopInputChange false) sample).sup.estop.active = (after (.estopInputChange false) sample).sup.estop.high ∧
    LinkFree waitingLow ∧ c.silenceLimit ≤ 60 ∧ supArgs.debounceSteps ≤ 255 ∧ c.levelCap ≤ 1000 ∧ 1 ≤ c.windScale ∧ c.windScale ≤ 1000 ∧
    c.lightSafeFade ≤ 10000 ∧ c.lightReturnFade ≤ 10000 ∧ c.audioSafeFade ≤ 10000 ∧
    c.debounceSteps ≠ waitingLow.sup.settings.debounceSteps ∧ c.debounceSteps * 10 ≤ waitingLow.now - waitingLow.sup.lowLow.since ∧
    SafeCause.lowLow.memberOf waitingLow.sup.causes = false ∧ sample.sup.lowLow.active = sample.sup.lowLow.high :=
  ⟨by decide, by decide, by decide, by decide, Or.inl rfl, by decide⟩

/-- LOW-LOW accepted as active, its pin low again for 4,000 ms: a SET SUPERVISION of 40 steps lets it leave, at once and
at a debounce time of 0. -/
theorem test_meets_InputsAndSettingsTakeEffect_leaving :
    let left := (sample.setSup { sample.sup with lowLow := { high := false, active := true, since := 1000 } }).setNow 5000
    LinkFree left ∧ 40 ≠ left.sup.settings.debounceSteps ∧ 40 * 10 ≤ left.now - left.sup.lowLow.since ∧
    left.sup.lowLow.high ≠ left.sup.lowLow.active ∧ 0 ≠ left.sup.settings.debounceSteps ∧
    0 * 10 ≤ left.now - left.sup.lowLow.since := ⟨Or.inl rfl, by decide⟩

theorem test_meets_SafeStateIsEntered : SafeCause.forced.memberOf safe.sup.causes = true ∧
    SafeCause.eStop.memberOf safe.sup.causes = false ∧ safe.clock.state = .safe ∧
    SafeCause.eStop.memberOf sample.sup.causes = false ∧ sample.clock.state ≠ .safe ∧ LinkFree sample ∧
    (after .readStore sample).link.silenceSince = some 0 ∧ sample.link.silenceSince = none :=
  ⟨by decide, by decide, by decide, by decide, by decide, Or.inl rfl, by decide⟩

/-- The limit is 5 s: a request 4,999 ms and 5,000 ms ago. -/
theorem test_meets_SafeStateIsEntered_silence :
    let asked (ms : Nat) := (after .readStore sample).setNow ms
    (asked 4999).link.silenceSince = some 0 ∧ ¬1000 * (asked 4999).sup.settings.silenceLimit ≤ (asked 4999).now - 0 ∧
    (asked 5000).link.silenceSince = some 0 ∧ 1000 * (asked 5000).sup.settings.silenceLimit ≤ (asked 5000).now - 0 := by decide

theorem test_meets_ClearSafeEndsSafeWithoutConditions : LinkFree safe ∧ safe.clock.state = .safe ∧
    (¬∃ c ∈ [SafeCause.eStop, .lowLow, .clockLost, .criticalLost], c.memberOf safe.sup.causes = true) ∧ LinkFree stoppedByHand ∧
    (∃ c ∈ [SafeCause.eStop, .lowLow, .clockLost, .criticalLost], c.memberOf stoppedByHand.sup.causes = true) ∧
    sample.clock.state ≠ .safe := ⟨Or.inl rfl, by decide, by decide, Or.inl rfl, by decide, by decide⟩

theorem test_meets_LightRequestsWriteTheirRecords : LinkFree sample ∧ Sense.activeLow ≠ .unset ∧
    sample.lights.outputs[63].sense = .unset ∧ sample.lights.outputs[0].sense ≠ .unset ∧
    ([(0 : Fin 64), 1, 2] ++ (some (3 : Fin 64)).toList).Nodup ∧
    (∀ k : Fin 16, k ≠ 0 → sample.lights.heads[k].outputs = none) ∧ ¬([(0 : Fin 64), 0, 2] ++ ([] : List (Fin 64))).Nodup ∧
    4095 ≤ 4095 ∧ 65535 ≤ 65535 ∧ (64 < 256 ∧ 64 ≤ 64) ∧ (3 ≠ 1 ∧ 3 ≠ 2) ∧ (0 ≠ 1 ∧ 0 ≠ 2) ∧
    (Request.setHead { headArgs with outputs := none }).wf = true ∧ (Request.setHead { headArgs with head := 16 }).wf = true ∧
    (Request.setSafeScene { r := 0, g := 0, b := 0, w := 4096 }).wf = true ∧ 4095 < 4096 := ⟨Or.inl rfl, by decide⟩

theorem test_meets_LightUpdateWritesEveryCode : (namedOutputs sample.lights).Nodup ∧ sample.lights.outputs[0].sense ≠ .unset ∧
    sample.lights.outputs[3].sense = .unset ∧ sample.lights.heads[0].enabled = true ∧
    sample.lights.heads[0].outputs = some { r := 0, g := 1, b := 2, w := some 3 } ∧
    ∀ h : Fin 16, h ≠ 0 → sample.lights.heads[h].enabled = false := by decide

theorem test_meets_PwmFrameCommitsAndSpreadsCodes : 15 < 16 ∧ sample.lights.outputs[1].committed ≤ 4095 ∧
    sample.lights.outputs[1].driven = true ∧ sample.lights.outputs[1].sense ≠ .unset ∧
    sample.lights.outputs[0].driven = false := by decide

theorem test_meets_LightOutputsChangeOnlyAtTheirEvents :
    exec .pwmFrameBoundary sample = .next (after .pwmFrameBoundary sample) ∧
    exec .lightUpdate sample = .next (after .lightUpdate sample) ∧ sample.lights.outputs[0].sense ≠ .unset :=
  ⟨rfl, rfl, by decide⟩

/-- An extent that ends at the last frame of memory, and segments in every state, referenced or not. -/
theorem test_meets_SegmentRequestsKeepTheirChecks : LinkFree sample ∧ 33554431 < 33554432 ∧ 1 ≤ 1 ∧ 33554432 ≤ 33554432 ∧
    (∀ l : Nat, some 0 = some l → l < 1) ∧ sample.play.segments[0].state = .empty ∧ sample.play.segments[4].state ≠ .empty ∧
    (∃ q ∈ sample.store.timelines[programme], q.payload.segment? = some 4) ∧ sample.play.segments[7].state ≠ .empty ∧
    (¬∃ q ∈ sample.store.timelines[programme], q.payload.segment? = some 7) ∧
    ¬∃ v ∈ [sample.play.v0, sample.play.v1], v.state ≠ .idle ∧ v.segment = some 7 :=
  ⟨Or.inl rfl, by decide, by decide, by decide, fun l h => by cases h; decide, by decide, by decide, by decide, by decide,
    by decide, by decide⟩

/-- The first values out of the ranges of R137, and indices of R140. -/
theorem test_meets_SegmentRequestsKeepTheirChecks_ranges : LinkFree sample ∧
    (Request.defineSegment 64 0 1 none).wf = true ∧ (Request.defineSegment 0 33554432 1 none).wf = true ∧
    (Request.defineSegment 0 0 0 none).wf = true ∧ (Request.defineSegment 0 0 33554433 none).wf = true ∧
    (Request.defineSegment 0 0 1 (some 1)).wf = true ∧ 64 ≤ 64 ∧ 64 < 256 := ⟨Or.inl rfl, by decide⟩

theorem test_meets_FinishSegmentMakesItReady :
    let a : CueArgs := { cueArgs with number := 403, channel := 48, start := 6000, payload := { w0 := 7, w1 := 0, w2 := 0, w3 := 0 } }
    LinkFree sample ∧ 63 < 64 ∧ 255 < 256 ∧ sample.play.segments[0].state = .empty ∧ sample.play.segments[7].state = .ready ∧
    sample.play.segments[6].state = .filling ∧ (Request.placeCue a).wf = true ∧ readPayload programme a.payload = some (.play 7 0) ∧
    exec (.placeCue a) sample = .next (after (.placeCue a) sample) ∧
    finishedAnswer (after (.placeCue a) sample) = some { echo := 0x10, status := .done, data := [0, 0, 0x17, 0x70] } ∧
    1 ≤ 256 ∧ 256 ≤ 256 ∧ (List.replicate 256 Frame.silence).length = 256 ∧ 33554431 < 33554432 :=
  ⟨Or.inl rfl, by decide, by decide, by decide, by decide, by decide, by decide, by decide, rfl, by decide, by decide, by decide,
    List.length_replicate, by decide⟩

/-- A segment, a count and an offset just out of range, and a count of 257 at its place after the code. -/
theorem test_meets_LoadedFramesStandInMemory_ranges : LinkFree sample ∧
    (Request.loadFrames 64 0 1 [Frame.silence]).wf = true ∧ (Request.loadFrames 0 0 0 []).wf = true ∧
    (Request.loadFrames 0 33554432 1 [Frame.silence]).wf = true ∧ 64 ≤ 64 ∧ 33554432 ≤ 33554432 ∧
    256 < field (([0x04, 0x11, 0, 0, 0, 0, 0, 0x01, 0x01] : List Byte).drop 2) 5 2 := ⟨Or.inl rfl, by decide⟩

theorem test_meets_LoadedFramesStandInMemory :
    let writing (first : Nat) := handling (.writing first [Frame.silence]) sample
    LinkFree sample ∧ 1 ≤ 1 ∧ 1 ≤ 256 ∧ [Frame.silence].length = 1 ∧ 33554431 < 33554432 ∧
    (writing 33554431).link.state = .handling (.writing 33554431 [Frame.silence]) ∧
    33554431 + [Frame.silence].length ≤ 33554432 ∧ (writing 33554432).link.state = .handling (.writing 33554432 [Frame.silence]) ∧
    33554432 < 33554432 + [Frame.silence].length := ⟨Or.inl rfl, by decide⟩

theorem test_meets_SetAudioAndPlaybackEndsAct : LinkFree sample ∧ sample.clock.mode = .master ∧ sample.clock.state ≠ .stopped ∧
    255 < 256 ∧ 1 < 256 ∧ (2 ≤ 255 ∨ 2 ≤ 1) ∧ LinkFree stopped ∧ stopped.clock.state = .stopped ∧ stopped.clock.mode = .master ∧
    (stopped.setClock { stopped.clock with mode := .follow }).clock.state = .stopped ∧
    LinkFree (stopped.setClock { stopped.clock with mode := .follow }) :=
  ⟨Or.inl rfl, by decide, by decide, by decide, by decide, by decide, Or.inl rfl, by decide, by decide, by decide, Or.inl rfl⟩

/-- A voice at the length of its segment in RUNNING and in PAUSED, one before it, and the end of the safe fade. -/
theorem test_meets_SetAudioAndPlaybackEndsAct_ends :
    let ending := sample.setPlay { samplePlay with v0 := { frontVoice with position := 480000 } }
    let faded := safe.setPlay { safe.play with fadeCount := 96000 }
    (ending.play.voice .v0).segment = some 4 ∧ ending.clock.state = .running ∧ (ending.play.voice .v0).state ≠ .idle ∧
    ending.play.segments[4].length ≤ (ending.play.voice .v0).position ∧ (inClock .paused ending).clock.state = .paused ∧
    (sample.play.voice .v0).segment = some 4 ∧ (sample.play.voice .v0).position < sample.play.segments[4].length ∧
    faded.clock.state = .safe ∧ 1000 ≤ 1000 * faded.play.fadeCount / (48 * faded.play.fadeLength) ∧
    sample.clock.state ≠ .safe := by decide

/-- A line that has sent a break and an IDENTIFY order; the word clock driven, received, and missing. -/
theorem test_meets_WiresCarryTheirBits :
    let r := { LineRec.reset with sentBreak := true, sentOrder := orderChars 1 1 false [] }
    r.sentBreak = true ∧ r.sentOrder[2]?.isSome = true ∧ 10 < 11 ∧ ¬(r.sentBreak = true ∧ 20 ≤ 19 ∧ 19 < 31) ∧
    63 < r.sentBits.length ∧ r.sentBits.length ≤ 75 ∧ sample.halfPeriods none = some (32, 32) ∧ following.halfPeriods (some (24, 24)) = some (24, 24) ∧
    following.halfPeriods none = none := by decide +kernel

theorem segments_fit : ∀ k : Fin 64, sample.play.segments[k].state ≠ .empty →
    1 ≤ sample.play.segments[k].length ∧
    sample.play.segments[k].first + sample.play.segments[k].length ≤ Config.memoryFrames ∧
    sample.play.segments[k].loopStart.all (fun l => l < sample.play.segments[k].length) = true := by decide

/-- The playback law holds of the sample, where voice 0 plays S4. -/
theorem test_meets_AudioFrameMixesTheVoices : PlaybackLaw sample where
  extents k h := by
    obtain ⟨h1, h2, h3⟩ := segments_fit k h
    exact ⟨h1, h2, fun l hl => by rw [hl] at h3; simpa using h3⟩
  apart := by unfold ExtentsApart; decide +kernel
  cues := by decide +kernel
  voice0 _ := ⟨4, rfl, by decide⟩
  voice1 h := absurd rfl h
  front h := absurd h.2 (by decide)
  load _ _ h := nomatch h

theorem test_meets_RestartEmptiesTheShow : LinkFree sample ∧ LinkFree safe ∧ LinkFree stoppedByHand :=
  ⟨Or.inl rfl, Or.inl rfl, Or.inl rfl⟩

theorem test_meets_PinResetRestoresEveryRecord : LinkFree sample ∧ stoppedByHand.sup.estop.high = false ∧
    sample.sup.estop.high = true ∧ waitingLow.sup.lowLow.high = true := ⟨Or.inl rfl, by decide⟩

theorem test_meets_SafeBeginsAndEndsOnlyByRule : exec .clearSafe safe = .next (after .clearSafe safe) ∧ safe.clock.state = .safe ∧
    (after .clearSafe safe).clock.state ≠ .safe ∧ exec .forceSafe sample = .next (after .forceSafe sample) ∧
    sample.clock.state ≠ .safe ∧ (after .forceSafe sample).clock.state = .safe := ⟨rfl, by decide, by decide, rfl, by decide⟩

/-- The sample with one command waiting, which the laws are kept by. -/
def waiting (c : Instr) : State := { sample with pending := [c] }

theorem test_meets_ClockLawKept : ClockLaw (waiting .showTick).clock ∧ step (waiting .showTick) = .next (after .showTick sample) :=
  ⟨⟨by decide, by decide, by decide, by decide, by decide⟩, rfl⟩

theorem test_meets_StoreLawKept : StoreLaw (waiting .showTick) ∧ step (waiting .showTick) = .next (after .showTick sample) :=
  ⟨⟨by decide, by decide, by unfold CueFits; decide, by unfold StartsRise; decide, by unfold StatesOrdered; decide,
    by unfold TakenAgrees; decide, fun h => absurd h (by decide)⟩, rfl⟩

theorem test_meets_CauseLawKept : CauseLaw safe ∧ CauseLaw (waiting .forceSafe) ∧
    step (waiting .forceSafe) = .next (after .forceSafe sample) :=
  ⟨⟨by decide, by decide, by decide, by decide, by decide, by decide, by decide⟩,
    ⟨by decide, by decide, by decide, by decide, by decide, by decide, by decide⟩, rfl⟩

theorem valves_bound : ∀ n : Fin 32, sample.water.groups[n].valve.all (fun v =>
    decide ((sample.node v.node).state ≠ .absent ∧ (sample.node v.node).kind = .valve)) = true := by decide

/-- The sample in the turn of node 0 with no answer begun, and its reply wait running out. -/
def serving : State := { onLineA (exchangeOf 0 .set [] .listening) sample with pending := [.replyWaitExpiry .a] }

theorem test_meets_BindingAndWaterLawsKept : BindingLaw serving ∧ WaterLaw serving ∧
    (serving.line .a).exchange = some (exchangeOf 0 .set [] .listening) ∧
    step serving = .next (after (.replyWaitExpiry .a) (onLineA (exchangeOf 0 .set [] .listening) sample)) :=
  ⟨⟨by decide +kernel, by decide +kernel, by decide +kernel, by decide +kernel,
    fun n v h => by
      have hv := valves_bound n
      have h' : sample.water.groups[n].valve = some v := h
      rw [h'] at hv
      exact of_decide_eq_true hv,
    fun l x h _ => by
      cases l with
      | a => obtain rfl : exchangeOf 0 .set [] .listening = x := Option.some.inj h; decide
      | b => exact nomatch h⟩,
    ⟨by decide, by decide, by decide, by decide, by decide⟩, rfl, rfl⟩

theorem test_meets_LightMemoryAndLinkLawsKept : LightLaw sample.lights ∧ MemoryLaw sample.play.memory ∧ LinkLaw (answered sample) ∧
    step (waiting .lightUpdate) = .next (after .lightUpdate sample) :=
  ⟨⟨by decide, by decide⟩, ⟨by decide, by decide⟩, by unfold LinkLaw; decide, rfl⟩

theorem test_meets_PlaybackLawKeptWithoutFaults_queue :
    ∀ c ∈ (waiting (.loadFrames 6 99 1 [Frame.silence])).pending, c.wf = true := by decide

theorem test_meets_PlaybackLawKeptWithoutFaults : PlaybackLaw (waiting (.loadFrames 6 99 1 [Frame.silence])) where
  extents := test_meets_AudioFrameMixesTheVoices.extents
  apart := test_meets_AudioFrameMixesTheVoices.apart
  cues := test_meets_AudioFrameMixesTheVoices.cues
  voice0 := test_meets_AudioFrameMixesTheVoices.voice0
  voice1 := test_meets_AudioFrameMixesTheVoices.voice1
  front := test_meets_AudioFrameMixesTheVoices.front
  load := test_meets_AudioFrameMixesTheVoices.load

end Sys2Proof.Tests
end

section

/-! # The transition arithmetic (R43, R44)

What each shape makes of a fraction of the duration, and where `ramp` stands before, during and after its transition.
Between its origin and its end a transition is described by natural numbers, rising or falling, so that what uses it
needs no integer division. -/

namespace Sys2Proof.Machine

/-! ### The fraction of the distance (R44) -/

@[simp] theorem Shape.fraction_linear (p : Nat) : Shape.linear.fraction p = p := rfl

@[simp] theorem Shape.fraction_smooth (p : Nat) :
    Shape.smooth.fraction p = p * p * (3000 - 2 * p) / 1000000 := rfl

/-- The cubic of SMOOTH rises up to its turning point p = 1000: with q = p + d, the loss p² · 2d in the second factor is
at most the gain 2pd in the square times 1000 + 2 · (1000 − q). -/
theorem smoothCubic_mono {p q : Nat} (hpq : p ≤ q) (hq : q ≤ 1000) :
    p * p * (3000 - 2 * p) ≤ q * q * (3000 - 2 * q) := by
  obtain ⟨d, rfl⟩ := Nat.exists_eq_add_of_le hpq
  obtain ⟨r, hr⟩ := Nat.exists_eq_add_of_le hq
  have hp : 3000 - 2 * p = (1000 + 2 * r) + 2 * d := by omega
  have hd : 3000 - 2 * (p + d) = 1000 + 2 * r := by omega
  have loss : 2 * p * d * p ≤ 2 * p * d * (1000 + 2 * r) := Nat.mul_le_mul_left _ (by omega)
  rw [hp, hd]
  calc p * p * (1000 + 2 * r + 2 * d)
      = p * p * (1000 + 2 * r) + 2 * p * d * p := by ring
    _ ≤ p * p * (1000 + 2 * r) + 2 * p * d * (1000 + 2 * r) := Nat.add_le_add_left loss _
    _ ≤ p * p * (1000 + 2 * r) + 2 * p * d * (1000 + 2 * r) + d * d * (1000 + 2 * r) := Nat.le_add_right _ _
    _ = (p + d) * (p + d) * (1000 + 2 * r) := by ring

theorem Shape.fraction_mono (sh : Shape) {p q : Nat} (hpq : p ≤ q) (hq : q ≤ 1000) :
    sh.fraction p ≤ sh.fraction q := by
  cases sh with
  | linear => exact hpq
  | smooth => exact Nat.div_le_div_right (smoothCubic_mono hpq hq)

theorem Shape.fraction_thousand (sh : Shape) : sh.fraction 1000 = 1000 := by
  cases sh <;> rfl

theorem Shape.fraction_le_thousand (sh : Shape) {p : Nat} (hp : p ≤ 1000) : sh.fraction p ≤ 1000 :=
  (sh.fraction_mono hp le_rfl).trans_eq sh.fraction_thousand

/-! ### The value of a transition (R43) -/

@[simp] theorem ramp_of_duration_zero (sh : Shape) (origin t a b : Nat) : ramp sh origin 0 t a b = b := rfl

theorem ramp_of_le_origin {origin duration t : Nat} (sh : Shape) (a b : Nat) (hd : duration ≠ 0) (ht : t ≤ origin) :
    ramp sh origin duration t a b = a := by
  rw [ramp, if_neg hd, if_pos ht]

theorem ramp_of_duration_le {origin duration t : Nat} (sh : Shape) (a b : Nat) (ht : origin < t)
    (hd : duration ≤ t - origin) : ramp sh origin duration t a b = b := by
  rw [ramp, if_neg ht.not_ge, if_pos hd, ite_self]

/-- The fraction of the distance that a transition has covered at show time `t` (R43 steps 4 and 5). -/
def coveredAt (sh : Shape) (origin duration t : Nat) : Nat := sh.fraction ((t - origin) * 1000 / duration)

theorem coveredAt_le_thousand {origin duration t : Nat} (sh : Shape) (hd : t - origin < duration) :
    coveredAt sh origin duration t ≤ 1000 := by
  have hp : (t - origin) * 1000 ≤ duration * 1000 := Nat.mul_le_mul_right _ hd.le
  exact sh.fraction_le_thousand (Nat.div_le_of_le_mul hp)

theorem ramp_underway {origin duration t : Nat} (sh : Shape) (a b : Nat) (ht : origin < t)
    (hd : t - origin < duration) : ramp sh origin duration t a b =
      ((a : Int) + Int.tdiv (((b : Int) - a) * (coveredAt sh origin duration t : Nat)) 1000).toNat := by
  rw [ramp, if_neg (Nat.ne_zero_of_lt hd), if_neg ht.not_ge, if_neg hd.not_ge, coveredAt]

theorem ramp_rising {origin duration t a b : Nat} (sh : Shape) (ht : origin < t) (hd : t - origin < duration)
    (hab : a ≤ b) : ramp sh origin duration t a b = a + (b - a) * coveredAt sh origin duration t / 1000 := by
  rw [ramp_underway sh a b ht hd, ← Nat.cast_sub hab]
  generalize coveredAt sh origin duration t = s
  have htdiv : Int.tdiv (((b - a : Nat) : Int) * s) 1000 = ((b - a) * s / 1000 : Nat) := by
    rw [Int.ofNat_tdiv, Nat.cast_mul]; rfl
  rw [htdiv]
  exact Int.toNat_natCast (a + (b - a) * s / 1000)

/-- A falling value: the truncation toward zero of a negative quotient is a truncation toward the start. -/
theorem ramp_falling {origin duration t a b : Nat} (sh : Shape) (ht : origin < t) (hd : t - origin < duration)
    (hba : b ≤ a) : ramp sh origin duration t a b = a - (a - b) * coveredAt sh origin duration t / 1000 := by
  rw [ramp_underway sh a b ht hd, ← neg_sub (a : Int), ← Nat.cast_sub hba]
  generalize coveredAt sh origin duration t = s
  have htdiv : Int.tdiv (-((a - b : Nat) : Int) * s) 1000 = -((a - b) * s / 1000 : Nat) := by
    rw [neg_mul, Int.neg_tdiv, Int.ofNat_tdiv, Nat.cast_mul]; rfl
  rw [htdiv]
  exact Int.toNat_sub a ((a - b) * s / 1000)

/-- A fraction of at most 1000 permille covers at most the whole distance. -/
theorem permille_le_distance (distance : Nat) {s : Nat} (hs : s ≤ 1000) : distance * s / 1000 ≤ distance :=
  Nat.div_le_of_le_mul (by rw [Nat.mul_comm 1000]; exact Nat.mul_le_mul_left distance hs)

/-- A transition never leaves the interval between its two values. -/
theorem ramp_between (sh : Shape) (origin duration t a b : Nat) :
    min a b ≤ ramp sh origin duration t a b ∧ ramp sh origin duration t a b ≤ max a b := by
  rcases Nat.eq_zero_or_pos duration with rfl | hpos
  · simp
  rcases Nat.lt_or_ge origin t with ht | ht
  · rcases Nat.lt_or_ge (t - origin) duration with hd | hd
    · have hs := coveredAt_le_thousand sh hd
      rcases Nat.le_total a b with hab | hba
      · have hdist := permille_le_distance (b - a) hs
        rw [ramp_rising sh ht hd hab]
        omega
      · have hdist := permille_le_distance (a - b) hs
        rw [ramp_falling sh ht hd hba]
        omega
    · simp [ramp_of_duration_le sh a b ht hd]
  · simp [ramp_of_le_origin sh a b hpos.ne' ht]

/-! ### R44 -/

/-- Settles O17: the fractions from the model's two equations and the rise of the cubic, and the value of a transition
under way from its rising and its falling form. -/
theorem shapeFractionRuns : Obligations.ShapeFractionRuns := by
  refine ⟨fun p => ⟨Shape.fraction_linear p, Shape.fraction_smooth p⟩, fun sh _ => sh.fraction_le_thousand,
    fun sh _ _ => sh.fraction_mono, rfl, rfl, Shape.smooth.fraction_thousand,
    ramp_between, fun sh origin duration t a b ht hd => ⟨fun hab => ?rising, fun hba => ?falling⟩⟩
  case rising =>
    refine ⟨ramp_rising sh ht hd hab, ?_⟩
    rw [ramp_rising sh ht hd hab, Nat.add_sub_cancel_left]
    exact Nat.mul_div_le _ 1000
  case falling =>
    have hdist := permille_le_distance (a - b) (coveredAt_le_thousand sh hd)
    refine ⟨ramp_falling sh ht hd hba, ?_⟩
    rw [ramp_falling sh ht hd hba, Nat.sub_sub_self (hdist.trans (Nat.sub_le a b))]
    exact Nat.mul_div_le _ 1000

end Sys2Proof.Machine
end

section

/-! # Wind derating and the height curve (R68 to R70)

The factor of a wind class and the curve's interpolation both cover a share of a distance in a straight line. The
points of a valid curve rise, so a height below the last point lies in exactly one of its seven segments, and the search
along the points stops there. -/

namespace Sys2Proof.Machine

/-- A point on a straight line lies within the distance between its two ends. -/
theorem share_le_distance (distance : Nat) {part whole : Nat} (h : part ≤ whole) :
    distance * part / whole ≤ distance :=
  Nat.div_le_of_le_mul (by rw [Nat.mul_comm whole]; exact Nat.mul_le_mul_left distance h)

/-! ### The wind factor of a class (R69) -/

theorem windFactor_of_le_lo {c : WindClass} {w : Nat} (h : w ≤ c.lo) : windFactor c w = 1000 := if_pos h

theorem windFactor_of_hi_le {c : WindClass} {w : Nat} (hc : c.lo < c.hi) (h : c.hi ≤ w) :
    windFactor c w = c.floor := by
  rw [windFactor, if_neg (hc.trans_le h).not_ge, if_pos h]

theorem windFactor_between_limits {c : WindClass} {w : Nat} (hlo : c.lo < w) (hhi : w < c.hi) :
    windFactor c w = 1000 - (1000 - c.floor) * (w - c.lo) / (c.hi - c.lo) := by
  rw [windFactor, if_neg hlo.not_ge, if_neg hhi.not_ge]

theorem windFactor_bounds {c : WindClass} (hc : c.lo < c.hi) (hf : c.floor ≤ 1000) (w : Nat) :
    c.floor ≤ windFactor c w ∧ windFactor c w ≤ 1000 := by
  rcases Nat.lt_or_ge c.lo w with hlo | hlo
  · rcases Nat.lt_or_ge w c.hi with hhi | hhi
    · have derating := share_le_distance (1000 - c.floor) (Nat.sub_le_sub_right hhi.le c.lo)
      rw [windFactor_between_limits hlo hhi]
      exact ⟨(Nat.sub_sub_self hf).ge.trans (Nat.sub_le_sub_left derating 1000), Nat.sub_le _ _⟩
    · rw [windFactor_of_hi_le hc hhi]
      exact ⟨le_rfl, hf⟩
  · rw [windFactor_of_le_lo hlo]
    exact ⟨hf, le_rfl⟩

/-! ### The capped height (R68) -/

theorem minOption_le (a : Nat) (o : Option Nat) : minOption a o ≤ a := by
  cases o with
  | none => exact le_rfl
  | some b => exact Nat.min_le_left a b

theorem minOption_some_le (a b : Nat) : minOption a (some b) ≤ b := Nat.min_le_right a b

theorem cappedHeight_of_disabled {s : State} {g : Group} (h : g.enabled = false) (demanded : Nat) :
    cappedHeight s g demanded = 0 := by
  simp [cappedHeight, h]

theorem cappedHeight_le_demanded (s : State) (g : Group) (demanded : Nat) : cappedHeight s g demanded ≤ demanded := by
  rw [cappedHeight]
  split
  · exact Nat.zero_le _
  · exact (minOption_le _ _).trans ((minOption_le _ _).trans (Nat.min_le_left _ _))

theorem cappedHeight_le_windTerm {s : State} {g : Group} {term : Nat} (h : windTerm s g = some term) (demanded : Nat) :
    cappedHeight s g demanded ≤ term := by
  rw [cappedHeight, h]
  split
  · exact Nat.zero_le _
  · exact (minOption_le _ _).trans (minOption_some_le _ _)

theorem windTerm_of_windClass {s : State} {g : Group} {k : Fin 4} (h : g.windClass = some k) :
    windTerm s g = some (g.heightLimit * windFactor s.water.windClasses[k] s.sup.smoothedWind / 1000) := by
  rw [windTerm, h]; rfl

theorem computedGroup_capped (s : State) (n : Fin 32) :
    (computedGroup s n).capped = cappedHeight s s.water.groups[n] (demandedHeight s n) := rfl

theorem computedGroup_valveOpen (s : State) (n : Fin 32) :
    (computedGroup s n).valveOpen = valveCommand s.water.groups[n] (computedGroup s n).capped := rfl

theorem computedGroup_capped_of_disabled {s : State} {n : Fin 32} (h : s.water.groups[n].enabled = false) :
    (computedGroup s n).capped = 0 := cappedHeight_of_disabled h _

theorem computedGroup_capped_of_demanded_zero {s : State} {n : Fin 32} (h : demandedHeight s n = 0) :
    (computedGroup s n).capped = 0 := by
  rw [computedGroup_capped, h]
  exact Nat.le_zero.1 (cappedHeight_le_demanded _ _ 0)

/-- A wind factor of 0 makes the wind term 0, whatever the height limit. -/
theorem computedGroup_capped_of_windFactor_zero {s : State} {n : Fin 32} {k : Fin 4}
    (hk : s.water.groups[n].windClass = some k)
    (hw : windFactor s.water.windClasses[k] s.sup.smoothedWind = 0) : (computedGroup s n).capped = 0 := by
  have term : windTerm s s.water.groups[n] = some 0 := by
    rw [windTerm_of_windClass hk, hw, Nat.mul_zero, Nat.zero_div]
  exact Nat.le_zero.1 (cappedHeight_le_windTerm term _)

/-! ### The points of a valid curve (R63) -/

theorem curveRises_iff_isChain (l : List CurvePoint) :
    curveRises l = true ↔ l.IsChain (fun p q => p.height < q.height ∧ p.speed ≤ q.speed) := by
  induction l with
  | nil => simp [curveRises]
  | cons p l ih =>
    cases l with
    | nil => simp [curveRises]
    | cons q rest => rw [List.isChain_cons_cons, ← ih]; simp [curveRises]

variable {curve : Vector CurvePoint 8}

theorem curveValid_first_height (h : curveValid curve = true) : curve[0].height = 0 := by
  simp only [curveValid, Bool.and_eq_true, beq_iff_eq] at h
  obtain ⟨⟨⟨-, first⟩, -⟩, -⟩ := h
  exact first

theorem curveValid_succ (h : curveValid curve = true) (k : Fin 7) :
    curve[k.castSucc].height < curve[k.succ].height ∧ curve[k.castSucc].speed ≤ curve[k.succ].speed := by
  simp only [curveValid, Bool.and_eq_true] at h
  obtain ⟨-, rises⟩ := h
  have chain := List.isChain_iff_getElem.1 ((curveRises_iff_isChain _).1 rises) k (by simp; omega)
  simpa using chain

theorem curveValid_height_strictMono (h : curveValid curve = true) : StrictMono fun k : Fin 8 => curve[k].height :=
  Fin.strictMono_iff_lt_succ.2 fun k => (curveValid_succ h k).1

/-! ### The segment of a height -/

/-- A sequence that starts at or below a value and ends above it passes the value between two neighbours. -/
theorem exists_segment {n : Nat} (f : Fin (n + 1) → Nat) {h : Nat} (first : f 0 ≤ h) (last : h < f (Fin.last n)) :
    ∃ k : Fin n, f k.castSucc ≤ h ∧ h < f k.succ := by
  by_contra! stays
  have below : ∀ k, f k ≤ h := Fin.induction first stays
  exact last.not_ge (below (Fin.last n))

theorem segment_le {n : Nat} {f : Fin (n + 1) → Nat} (hf : StrictMono f) {h : Nat} {j k : Fin n}
    (hj : f j.castSucc ≤ h) (hk : h < f k.succ) : j ≤ k :=
  Fin.castSucc_lt_succ_iff.1 (hf.lt_iff_lt.1 (hj.trans_lt hk))

theorem existsUnique_curve_segment (hc : curveValid curve = true) {h : Nat} (hh : h < curve[7].height) :
    ∃! k : Fin 7, curve[k.castSucc].height ≤ h ∧ h < curve[k.succ].height := by
  have mono := curveValid_height_strictMono hc
  obtain ⟨k, hlow, hhigh⟩ := exists_segment (fun k : Fin 8 => curve[k].height)
    ((curveValid_first_height hc).trans_le (Nat.zero_le h)) hh
  refine ⟨k, ⟨hlow, hhigh⟩, fun j ⟨jlow, jhigh⟩ => ?_⟩
  exact (segment_le mono jlow hhigh).antisymm (segment_le mono hlow jhigh)

/-! ### The speed of a height (R70) -/

/-- The search along the points passes the segments that end at or below the height and stops at the one that holds
it. -/
theorem interpolate_at_segment {l : List CurvePoint} {i h : Nat} (hi : i + 1 < l.length)
    (passed : ∀ j (_ : j < i), l[j + 1].height ≤ h) (hlow : l[i].height ≤ h) (hhigh : h < l[i + 1].height) :
    interpolate l h = l[i].speed + (l[i + 1].speed - l[i].speed) * (h - l[i].height) / (l[i + 1].height - l[i].height) := by
  induction i generalizing l with
  | zero =>
    match l, hi with
    | p :: q :: rest, _ => exact if_pos ⟨hlow, hhigh⟩
  | succ i ih =>
    match l, hi with
    | p :: q :: rest, hi =>
      have hq : q.height ≤ h := passed 0 (Nat.succ_pos i)
      rw [interpolate, if_neg fun hp => hp.2.not_ge hq]
      exact ih (Nat.lt_of_succ_lt_succ hi) (fun j hj => passed (j + 1) (Nat.succ_lt_succ hj)) hlow hhigh

theorem curveSpeed_zero (curve : Vector CurvePoint 8) : curveSpeed curve 0 = 0 := rfl

/-- The last point is above height 0, so a height at or past it is not the height 0. -/
theorem curveSpeed_of_last_le (hc : curveValid curve = true) {h : Nat} (hh : curve[7].height ≤ h) :
    curveSpeed curve h = curve[7].speed := by
  have rise : curve[0].height < curve[7].height :=
    curveValid_height_strictMono hc (show (0 : Fin 8) < Fin.last 7 by decide)
  rw [curveSpeed, if_neg (by omega), if_pos hh]

theorem curveSpeed_at_segment (hc : curveValid curve = true) {h : Nat} {k : Fin 7}
    (hlow : curve[k.castSucc].height ≤ h) (hhigh : h < curve[k.succ].height) (hpos : 0 < h) :
    curveSpeed curve h = curve[k.castSucc].speed + (curve[k.succ].speed - curve[k.castSucc].speed) *
      (h - curve[k.castSucc].height) / (curve[k.succ].height - curve[k.castSucc].height) := by
  have mono := (curveValid_height_strictMono hc).monotone
  have before : h < curve[7].height := hhigh.trans_le (mono (Fin.le_last k.succ))
  have passed : ∀ j (_ : j < k.val), (curve.toList[j + 1]'(by simp; omega)).height ≤ h := fun j hj =>
    le_trans (mono (show (⟨j + 1, by omega⟩ : Fin 8) ≤ k.castSucc from hj)) hlow
  rw [curveSpeed, if_neg hpos.ne', if_neg before.not_ge]
  exact interpolate_at_segment (l := curve.toList) (i := k) (by simp; omega) passed hlow hhigh

theorem curveSpeed_between_points (hc : curveValid curve = true) {h : Nat} {k : Fin 7}
    (hlow : curve[k.castSucc].height ≤ h) (hhigh : h < curve[k.succ].height) (hpos : 0 < h) :
    curve[k.castSucc].speed ≤ curveSpeed curve h ∧ curveSpeed curve h ≤ curve[k.succ].speed := by
  obtain ⟨-, speeds⟩ := curveValid_succ hc k
  have share := share_le_distance (curve[k.succ].speed - curve[k.castSucc].speed)
    (Nat.sub_le_sub_right hhigh.le curve[k.castSucc].height)
  rw [curveSpeed_at_segment hc hlow hhigh hpos]
  exact ⟨Nat.le_add_right _ _, (Nat.add_le_add_left share _).trans_eq (Nat.add_sub_cancel' speeds)⟩

/-! ### R69 and R70 -/

/-- Settles O26: the factor by its three equations and its bounds, the valve from two capped heights of 0, and the speed
of a height from the one segment of the curve that holds it. -/
theorem windFactorAndCurveSpeed : Obligations.WindFactorAndCurveSpeed := by
  refine ⟨fun c w hc hf => ⟨windFactor_of_le_lo, windFactor_of_hi_le hc, windFactor_between_limits,
      windFactor_bounds hc hf w⟩, fun s n k channels hk => ⟨windTerm_of_windClass hk, fun hw hd => ?valve⟩,
    fun curve h hc => ⟨curveSpeed_zero curve, curveSpeed_of_last_le hc, existsUnique_curve_segment hc,
      fun k hlow hhigh hpos => ⟨curveSpeed_at_segment hc hlow hhigh hpos, curveSpeed_between_points hc hlow hhigh hpos⟩⟩,
    fun s n hn => ?disabled, fun s n hs hcap => ?above⟩
  case valve =>
    have capped := computedGroup_capped_of_windFactor_zero hk hw
    refine ⟨capped, ?_⟩
    rw [computedGroup_valveOpen, computedGroup_valveOpen, capped, computedGroup_capped_of_demanded_zero hd]
  case disabled =>
    have capped := computedGroup_capped_of_disabled hn
    exact ⟨capped, by rw [capped, curveSpeed_zero]⟩
  case above =>
    have enabled : s.water.groups[n].enabled = true :=
      Bool.of_not_eq_false fun hn => hcap (computedGroup_capped_of_disabled hn)
    obtain ⟨valid, -⟩ := hs.enabled n enabled
    exact ⟨enabled, valid⟩

end Sys2Proof.Machine
end

section

/-! # The check byte of orders and answers (R92)

One shift of the running value loses nothing: its lowest bit is the bit shifted out, and with it the other seven can be
recovered. The step of a character is therefore injective in the running value and in the character, so a change of one
character reaches the check byte; and a running value combined with itself is 0, which every shift keeps. -/

namespace Sys2Proof.Machine

/-! ### One shift and one character -/

theorem crcShift_eq_xor (v : Byte) : crcShift v = (v <<< 1) ^^^ (if v.getLsbD 7 then 0x07#8 else 0#8) := by
  unfold crcShift
  split
  · rfl
  · exact BitVec.xor_zero.symm

/-- The bit shifted out comes back as the lowest bit, since the polynomial has a constant term. -/
theorem crcShift_getLsbD_zero (v : Byte) : (crcShift v).getLsbD 0 = v.getLsbD 7 := by
  rw [crcShift_eq_xor]
  cases v.getLsbD 7 <;> simp

theorem crcShift_injective : Function.Injective crcShift := by
  intro v w hvw
  have top : v.getLsbD 7 = w.getLsbD 7 := by
    rw [← crcShift_getLsbD_zero, hvw, crcShift_getLsbD_zero]
  have shifted : v <<< 1 = w <<< 1 := by
    rw [crcShift_eq_xor, crcShift_eq_xor, top] at hvw
    exact (BitVec.xor_left_inj _).mp hvw
  refine BitVec.eq_of_getLsbD_eq fun i hi => ?_
  rcases Nat.lt_succ_iff_lt_or_eq.mp hi with below | rfl
  · have bit : (v <<< 1).getLsbD (i + 1) = (w <<< 1).getLsbD (i + 1) := by rw [shifted]
    have inRange : i + 1 < 8 := Nat.succ_lt_succ below
    simpa [inRange, hi] using bit
  · exact top

theorem crcStep_eq_iterate (v c : Byte) : crcStep v c = crcShift^[8] (v ^^^ c) := rfl

theorem crcStep_self (v : Byte) : crcStep v v = 0 := by
  rw [crcStep_eq_iterate, BitVec.xor_self]
  rfl

theorem crcStep_char_injective (v : Byte) : Function.Injective (crcStep v) := fun _ _ h =>
  (BitVec.xor_right_inj _).mp (crcShift_injective.iterate 8 h)

theorem crcStep_value_injective (c : Byte) : Function.Injective (crcStep · c) := fun _ _ h =>
  (BitVec.xor_left_inj _).mp (crcShift_injective.iterate 8 h)

/-! ### The check byte of a list of characters -/

@[simp] theorem crc8_nil : crc8 [] = 0 := rfl

theorem crc8_append_singleton (chars : List Byte) (c : Byte) : crc8 (chars ++ [c]) = crcStep (crc8 chars) c :=
  List.foldl_concat crcStep 0 c chars

theorem crc8_append_cons (before after : List Byte) (c : Byte) :
    crc8 (before ++ c :: after) = after.foldl crcStep (crcStep (crc8 before) c) := by
  rw [crc8, List.foldl_append, List.foldl_cons, crc8]

/-- Two running values that differ stay different over the same further characters. -/
theorem foldl_crcStep_injective (chars : List Byte) : Function.Injective (fun v => chars.foldl crcStep v) := by
  induction chars with
  | nil => exact Function.injective_id
  | cons c rest ih => exact ih.comp (crcStep_value_injective c)

/-- A change of one character alone changes the check byte. -/
theorem crc8_char_injective {before after : List Byte} {c d : Byte}
    (h : crc8 (before ++ c :: after) = crc8 (before ++ d :: after)) : c = d := by
  rw [crc8_append_cons, crc8_append_cons] at h
  exact crcStep_char_injective _ (foldl_crcStep_injective after h)

/-! ### The check byte of an order and of an answer -/

theorem orderChars_data (address kind : Nat) (sequence : Bool) (payload : List Byte) :
    (orderChars address kind sequence payload).map (·.data) =
      let body := orderHead address kind sequence :: (beBytes 1 payload.length ++ payload)
      body ++ [crc8 body] := by
  simp [orderChars, Function.comp_def]

theorem orderChars_mark (address kind : Nat) (sequence : Bool) (payload : List Byte) :
    (orderChars address kind sequence payload).map (·.mark) = true :: List.replicate (payload.length + 2) false := by
  refine congrArg (true :: ·) (List.eq_replicate_iff.mpr ⟨?count, ?unmarked⟩)
  case count => simp; omega
  case unmarked => simp

theorem checkByteGood_eq_false_iff {chars : List RxChar} :
    checkByteGood chars = false ↔ (chars.map (·.data)).getLast? ≠ some (crc8 (chars.map (·.data)).dropLast) :=
  beq_eq_false_iff_ne

/-- Test 5 of R91, where tests 2 to 4 have passed. -/
theorem judge_garbled_of_bad_check {x : Exchange} {n : Node} {chars : List RxChar}
    (stops : ∀ c ∈ chars, c.stopHigh = true) (whole : chars.length = declaredLength chars + 3)
    (bad : checkByteGood chars = false) : judge x n chars = .garbled := by
  have framed : ¬ chars.any (fun c => !c.stopHigh) = true := by simpa using stops
  rw [judge, if_neg framed, if_neg (by omega), if_neg (by omega), if_pos (by rw [bad]; rfl)]

/-! ### R92 -/

/-- Settles O29: the running value by the step of one character, detection of a changed character from the injectivity
of that step, the characters of an order, and an answer with another check byte from test 5 of its judgement. -/
theorem checkByteOfOrdersAndAnswers : Obligations.CheckByteOfOrdersAndAnswers := by
  refine ⟨crc8_nil, fun chars c => ?lastCharacter, fun chars => ?ownCheck, fun before after c d => crc8_char_injective,
    fun address kind sequence payload => ⟨orderChars_data address kind sequence payload,
      orderChars_mark address kind sequence payload⟩,
    fun x n chars stops whole bad => judge_garbled_of_bad_check stops whole (checkByteGood_eq_false_iff.mpr bad)⟩
  case lastCharacter => exact crc8_append_singleton chars c
  case ownCheck => rw [crc8_append_singleton, crcStep_self]

end Sys2Proof.Machine
end

section

/-! # Finishing a segment (R139)

Each state of a segment has one answer to FINISH SEGMENT, and a FILLING one becomes READY. PLACE CUE reads no more of a
segment than whether it is READY, at its last check (R9), and LOAD FRAMES refuses a READY one once its ranges hold
(R138). -/

namespace Sys2Proof.Machine

open Sys2Proof.Safety

/-! ### What a request's owner leaves in the link -/

/-- A refusal stands in the link and no block changes (R158). -/
theorem issue_wf_refuses {r : Request} {own : State → Owned} {st : Status} {s : State} (hf : LinkFree s)
    (hr : r.wf = true) (h : own (withRequest r s) = refuse st (withRequest r s)) :
    issue r own s = { s with link := linkWithAnswer r st [] s } :=
  issue_wf_answers (t := withRequest r s) hf hr h rfl

/-- The status of a finished answer is the one that the owner gave. -/
theorem finishedAnswer_settle_status {own : State → Owned} {s : State} {reply : Reply} {a : Answer}
    (ho : (own s).2 = some reply) (ha : finishedAnswer (settle own s) = some a) : a.status = reply.status := by
  rw [settle_answer (Prod.ext rfl ho)] at ha
  cases ha
  rfl

/-! ### FINISH SEGMENT (R139) -/

theorem exec_finishSegment (n : Nat) (s : State) :
    exec (.finishSegment n) s = .next (issue (.finishSegment n) (ownFinishSegment n) s) := rfl

theorem finishSegment_wf {n : Nat} (h : n < 256) : (Request.finishSegment n).wf = true := decide_eq_true h

theorem finishSegment_index_wf (k : Fin 64) : (Request.finishSegment k.val).wf = true :=
  finishSegment_wf (k.isLt.trans (by decide))

theorem ownFinishSegment_of_le {n : Nat} (h : 64 ≤ n) (s : State) : ownFinishSegment n s = refuse .outOfRange s := by
  rw [ownFinishSegment, fin?_eq_none.2 h]

section
variable {k : Fin 64} {s : State}

theorem ownFinishSegment_of_empty (h : s.play.segments[k].state = .empty) :
    ownFinishSegment k.val s = refuse .noSuch s := by
  simp only [ownFinishSegment, fin?_val, h]

theorem ownFinishSegment_of_ready (h : s.play.segments[k].state = .ready) :
    ownFinishSegment k.val s = refuse .wrongState s := by
  simp only [ownFinishSegment, fin?_val, h]

theorem ownFinishSegment_of_filling (h : s.play.segments[k].state = .filling) :
    ownFinishSegment k.val s = done [] (setSegment k { s.play.segments[k] with state := .ready } s) := by
  simp only [ownFinishSegment, fin?_val, h]

/-! ### PLACE CUE of a segment (R9) -/

theorem exec_placeCue (a : CueArgs) (s : State) :
    exec (.placeCue a) s = .next (issue (.placeCue a) (ownPlaceCue a) s) := rfl

theorem unready_play_of_ready (h : s.play.segments[k].state = .ready) (gain : Nat) :
    unready (.play k gain) s = false := by
  simp only [unready, Payload.segment?, h]
  rfl

/-- Every answer of PLACE CUE but that of its last check has another status than UNREADY. -/
theorem ownPlaceCue_reply_of_not_unready {a : CueArgs} {c : Fin 49} {p : Payload} (hc : a.channel = c.val)
    (hp : readPayload c a.payload = some p) (hready : unready p s = false) :
    ∃ reply, (ownPlaceCue a s).2 = some reply ∧ reply.status ≠ .unready := by
  rw [ownPlaceCue, hc, fin?_val]
  rcases shape? a.shape with _ | sh
  · exact ⟨_, rfl, nofun⟩
  · simp only [hp, hready, Bool.false_eq_true, if_false]
    split_ifs with range number start full late
    all_goals exact ⟨_, rfl, nofun⟩

/-! ### LOAD FRAMES into a READY segment (R138) -/

theorem exec_loadFrames (n offset count : Nat) (frames : List Frame) (s : State) :
    exec (.loadFrames n offset count frames) s =
      .next (issue (.loadFrames n offset count frames) (ownLoadFrames n offset count frames) s) := rfl

theorem loadFrames_index_wf (k : Fin 64) {offset count : Nat} {frames : List Frame} (hcount : count ≤ 256)
    (hlen : frames.length = count) (hoff : offset < 33554432) :
    (Request.loadFrames k.val offset count frames).wf = true := by
  simp only [Request.wf, fits, Bool.and_eq_true, decide_eq_true_eq]
  omega

theorem ownLoadFrames_of_ready (h : s.play.segments[k].state = .ready) {offset count : Nat} (frames : List Frame)
    (hpos : 1 ≤ count) (hcount : count ≤ 256) (hoff : offset < 33554432) :
    ownLoadFrames k.val offset count frames s = refuse .protected_ s := by
  have inRange : ¬(count = 0 ∨ 256 < count ∨ Config.memoryFrames ≤ offset) := by
    simp only [Config.memoryFrames]
    omega
  simp only [ownLoadFrames, fin?_val, if_neg inRange, h]

end

/-! ### R139 -/

theorem placeCue_not_unready {k : Fin 64} {s t : State} {a : CueArgs} {gain : Nat} {r : Answer} (hf : LinkFree s)
    (ready : s.play.segments[k].state = .ready) (hwf : (Request.placeCue a).wf = true) (hc : a.channel = 48)
    (hp : readPayload programme a.payload = some (.play k gain)) (ht : exec (.placeCue a) s = .next t)
    (hr : finishedAnswer t = some r) : r.status ≠ .unready := by
  rw [exec_placeCue, issue_wf _ hf hwf] at ht
  cases ht
  obtain ⟨reply, ho, hstatus⟩ := ownPlaceCue_reply_of_not_unready (s := withRequest (.placeCue a) s) hc hp
    (unready_play_of_ready ready gain)
  rwa [finishedAnswer_settle_status ho hr]

/-- Settles O46: FINISH SEGMENT from the owner's equation for each state of the segment; of a READY one, PLACE CUE from
its last check and LOAD FRAMES from its owner's equation. -/
theorem finishSegmentMakesItReady : Obligations.FinishSegmentMakesItReady := by
  refine ⟨fun n s hf above fitsByte => ?outOfRange,
    fun k s hf => ⟨fun isEmpty => ?empty, fun isReady => ?ready, fun isFilling => ?filling⟩,
    fun k s hf isReady => ⟨fun a gain t r hwf => placeCue_not_unready hf isReady hwf,
      fun offset count frames pos most len inMemory => ?load⟩⟩
  case outOfRange =>
    rw [exec_finishSegment, issue_wf_refuses hf (finishSegment_wf fitsByte) (ownFinishSegment_of_le above _)]
  case empty =>
    rw [exec_finishSegment, issue_wf_refuses hf (finishSegment_index_wf k) (ownFinishSegment_of_empty isEmpty)]
  case ready =>
    rw [exec_finishSegment, issue_wf_refuses hf (finishSegment_index_wf k) (ownFinishSegment_of_ready isReady)]
  case filling =>
    rw [exec_finishSegment, issue_wf_answers hf (finishSegment_index_wf k) (ownFinishSegment_of_filling isFilling) rfl]
    rfl
  case load =>
    rw [exec_loadFrames, issue_wf_refuses hf (loadFrames_index_wf k most len inMemory)
      (ownLoadFrames_of_ready (s := withRequest _ s) isReady frames pos most inMemory)]

end Sys2Proof.Machine
end

section

/-! # The judgement of a SEND that is taken (R164)

The first byte of the bytes kept is the request code, and the request table gives the code its length. Every code with a
length has a request, so the link's checks have three outcomes: UNKNOWN, BAD LENGTH, or a request with that code. -/

namespace Sys2Proof

/-! ### The bytes kept -/

/-- The first byte of a SEND is its request code (11.1). -/
theorem field_code (b : Byte) (rest : List Byte) : field (b :: rest) 0 1 = b.toNat := by
  simp [field, beValue]

/-- Every code that the table gives a length has a request (11.2): one case for each of its 47 codes, and one for the codes
that are not in it. -/
theorem readParams_of_requiredLength {code n : Nat} {params : List Byte} (h : requiredLength code params = some n) :
    ∃ r, readParams code params = some r ∧ r.code = code := by
  unfold requiredLength at h
  split at h
  on_goal -1 => cases h
  all_goals exact ⟨_, rfl, rfl⟩

/-! ### The outcomes of the link's checks -/

section
variable {bytes : List Byte} {n : Nat}

theorem parseRequest_unknown (h : requiredLength (field bytes 0 1) (bytes.drop 3) = none) :
    parseRequest bytes = .error .unknown := by
  simp only [parseRequest, h]

theorem parseRequest_badLength (h : requiredLength (field bytes 0 1) (bytes.drop 3) = some n)
    (bad : bytes.length < 3 ∨ (bytes.drop 3).length ≠ field bytes 1 2 ∨ field bytes 1 2 ≠ n) :
    parseRequest bytes = .error .badLength := by
  simp only [parseRequest, h, if_pos bad]

theorem parseRequest_passes (h : requiredLength (field bytes 0 1) (bytes.drop 3) = some n)
    (good : ¬(bytes.length < 3 ∨ (bytes.drop 3).length ≠ field bytes 1 2 ∨ field bytes 1 2 ≠ n)) :
    ∃ r, parseRequest bytes = .ok r ∧ r.code = field bytes 0 1 := by
  obtain ⟨r, hread, hcode⟩ := readParams_of_requiredLength h
  refine ⟨r, ?_, hcode⟩
  simp only [parseRequest, h, if_neg good, hread]

end

end Sys2Proof

namespace Sys2Proof.Machine

open Sys2Proof.Safety

/-! ### A SEND that the link takes -/

theorem exec_sendFrame (bytes : List Byte) (s : State) : exec (.sendFrame bytes) s = .next (sendFrame bytes s) := rfl

theorem sendOnPort_of_linkFree {s : State} (hf : LinkFree s) (bytes : List Byte) :
    sendOnPort bytes s = takeRequest bytes (driveIdle (bytes.length + 1) s) := by
  rcases hf with h | h <;> simp only [sendOnPort, receive, driveIdle, State.setLink_link, h]

/-- The link itself answers a SEND whose bytes fail its checks: no owner acts (R158, R164). -/
theorem sendFrame_not_parsed {b : Byte} {rest : List Byte} {s : State} {st : Status} (hf : LinkFree s)
    (h : parseRequest ((b :: rest).take Config.largestRequest) = .error st) :
    sendFrame (b :: rest) s = takeRequest (b :: rest) (driveIdle (rest.length + 2) s) := by
  have none_sent : sentRequest (b :: rest) = none := by simp only [sentRequest, h]
  simp only [sendFrame, none_sent, sendOnPort_of_linkFree hf]
  rfl

theorem sentRequest_of_parsed {bytes : List Byte} {r : Request}
    (h : parseRequest (bytes.take Config.largestRequest) = .ok r) : sentRequest bytes = some r := by
  simp only [sentRequest, h]

/-- UNKNOWN leaves the silence timer alone (R158). -/
theorem takeRequest_unknown {b : Byte} {rest : List Byte}
    (h : parseRequest ((b :: rest).take Config.largestRequest) = .error .unknown) (s : State) :
    takeRequest (b :: rest) s = takeLink ((b :: rest).take Config.largestRequest)
      (.finished { echo := b, status := .unknown, data := [] }) s := by
  simp only [takeRequest, h]
  rfl

/-- BAD LENGTH restarts the silence timer (R158). -/
theorem takeRequest_badLength {b : Byte} {rest : List Byte}
    (h : parseRequest ((b :: rest).take Config.largestRequest) = .error .badLength) (s : State) :
    takeRequest (b :: rest) s = restartSilence (takeLink ((b :: rest).take Config.largestRequest)
      (.finished { echo := b, status := .badLength, data := [] }) s) := by
  simp only [takeRequest, h]
  rfl

/-- The buffers of the link once a request is taken: its bytes, and no answer (R155, R156). -/
theorem takeRequest_buffers (bytes : List Byte) (s : State) :
    (takeRequest bytes s).link.request = bytes.take Config.largestRequest ∧ (takeRequest bytes s).link.answer = none := by
  unfold takeRequest
  dsimp only
  split <;> exact ⟨rfl, rfl⟩

/-- The answer that an owner gives is not yet in the answer buffer: nothing more of the link's buffers is written. -/
theorem settle_linkHeld (own : State → Owned) (s : State) : (settle own s).linkHeld = (own s).1.linkHeld := by
  unfold settle
  rcases own s with ⟨t, _ | _⟩ <;> rfl

/-- A SEND that brings a request leaves the bytes kept in the request buffer and no answer (R155, R156). -/
theorem sendFrame_buffers {b : Byte} {rest : List Byte} {r : Request} {s : State} (hf : LinkFree s)
    (hr : sentRequest (b :: rest) = some r) :
    (sendFrame (b :: rest) s).link.request = (b :: rest).take Config.largestRequest ∧
      (sendFrame (b :: rest) s).link.answer = none := by
  have held : (settle (handle r) (sendOnPort (b :: rest) s)).linkHeld = (sendOnPort (b :: rest) s).linkHeld :=
    (settle_linkHeld ..).trans (handle_linkHeld ..)
  simp only [State.linkHeld, Prod.mk.injEq, sendOnPort_of_linkFree hf] at held
  obtain ⟨hrequest, hanswer, -, -⟩ := held
  obtain ⟨taken_request, taken_answer⟩ := takeRequest_buffers (b :: rest) (driveIdle ((b :: rest).length + 1) s)
  rw [sendFrame_taken hf hr, sendOnPort_of_linkFree hf]
  exact ⟨hrequest.trans taken_request, hanswer.trans taken_answer⟩

/-! ### LOAD FRAMES with a count of 0 -/

theorem ownLoadFrames_count_zero (segment offset : Nat) (frames : List Frame) (s : State) :
    ownLoadFrames segment offset 0 frames s = refuse .outOfRange s := by
  unfold ownLoadFrames
  split
  · rfl
  · exact if_pos (.inl rfl)

theorem loadFrames_empty_wf {segment offset : Nat} (hs : segment < 256) (ho : offset < 4294967296) :
    (Request.loadFrames segment offset 0 []).wf = true := by
  simp [Request.wf, fits, hs, ho]

/-! ### R164 -/

/-- Settles O3: the three outcomes of the link's checks on the bytes kept, and what the link does with each. -/
theorem takenSendIsJudged : Obligations.TakenSendIsJudged := by
  intro s hf
  refine ⟨rfl, fun seg offset t hs ho ht => ?countZero, fun b rest => ⟨fun unknown => ?unknown,
    fun n known => ⟨?loadLength, fun bad => ?badLength, fun good => ?passes⟩⟩⟩
  case countZero =>
    rw [exec_loadFrames, issue_wf_refuses hf (loadFrames_empty_wf hs ho) (ownLoadFrames_count_zero ..)] at ht
    cases ht
    rfl
  all_goals
    have code : field ((b :: rest).take Config.largestRequest) 0 1 = b.toNat := field_code b (rest.take 1039)
  case unknown =>
    have parsed := parseRequest_unknown (code ▸ unknown)
    rw [exec_sendFrame, sendFrame_not_parsed hf parsed, takeRequest_unknown parsed]
    rfl
  case loadLength =>
    rintro rfl
    exact (Option.some.inj known).symm
  case badLength =>
    have parsed := parseRequest_badLength (code ▸ known) bad
    rw [exec_sendFrame, sendFrame_not_parsed hf parsed, takeRequest_badLength parsed]
    rfl
  case passes =>
    obtain ⟨r, parsed, hcode⟩ := parseRequest_passes (code ▸ known) good
    have sent := sentRequest_of_parsed parsed
    exact ⟨r, _, sent, hcode.trans code, exec_sendFrame _ s, sendFrame_buffers hf sent⟩

end Sys2Proof.Machine
end

section

/-! # What a frame of the port leaves

A request row and a SEND_FRAME come to one of two things: the link alone changes its record, or the link takes the request
and its owner acts. A FETCH, a disregarded frame and REQUEST_COMPLETION are of the first kind. The link record that a
taking leaves is written once, and so is what a change of the link alone keeps. -/

namespace Sys2Proof.Machine

open Sys2Proof.Safety

/-! ### The request's code -/

theorem requestCode_lt (r : Request) : r.code < 256 := by
  cases r <;> simp [Request.code]

theorem requestCode_eq_restart {r : Request} : r.code = 0x4F ↔ r = .restart := by
  cases r <;> simp [Request.code]

theorem requestCode_eq_clearAttention {r : Request} : r.code = 0x49 ↔ ∃ k, r = .clearAttention k := by
  cases r <;> simp [Request.code]

/-- A request read from bytes has their first byte as its code. -/
theorem code_of_parseRequest {bytes : List Byte} {r : Request} (h : parseRequest bytes = .ok r) :
    r.code = field bytes 0 1 := by
  cases hn : requiredLength (field bytes 0 1) (bytes.drop 3) with
  | none => rw [parseRequest_unknown hn] at h; cases h
  | some n =>
    by_cases bad : bytes.length < 3 ∨ (bytes.drop 3).length ≠ field bytes 1 2 ∨ field bytes 1 2 ≠ n
    · rw [parseRequest_badLength hn bad] at h; cases h
    · obtain ⟨q, hq, hcode⟩ := parseRequest_passes hn bad
      rw [hq] at h
      cases h
      exact hcode

theorem field_code_encodeRequest (r : Request) :
    field ((encodeRequest r).take Config.largestRequest) 0 1 = r.code := by
  have h : (encodeRequest r).take Config.largestRequest =
      BitVec.ofNat 8 r.code :: ((beBytes 2 r.params.length ++ r.params).take 1039) := by
    simp [encodeRequest, beBytes, Config.largestRequest]
  rw [h, field_code, BitVec.toNat_ofNat, Nat.mod_eq_of_lt (requestCode_lt r)]

/-- The bytes of a request, cut to the request buffer, are read as a request of the same code or as none. -/
theorem code_of_parse_encoded {r q : Request}
    (h : parseRequest ((encodeRequest r).take Config.largestRequest) = .ok q) : q.code = r.code :=
  (code_of_parseRequest h).trans (field_code_encodeRequest r)

/-! ### The link record that a taking leaves -/

/-- The link record once a request is taken from these bytes, its owner not having acted (R155, R156, R158, R162). -/
def takenLink (bytes : List Byte) (r : Request) (s : State) : Link :=
  { s.link with
    state := .handling .taken, request := bytes.take Config.largestRequest, answer := none,
    silenceSince := silenceRestarted s, pending := if r = .restart then 0 else s.link.pending,
    miso := List.replicate (bytes.length + 1) 0xFF#8, rowDue := false }

/-- The bytes of a well-formed request leave the link record that its row leaves. -/
theorem takenLink_encodeRequest {r : Request} (h : r.wf = true) (s : State) :
    takenLink (encodeRequest r) r s = linkWithRequest r s := by
  rw [takenLink, List.take_of_length_le (length_encodeRequest_le r h)]
  rfl

theorem sendOnPort_parsed {bytes : List Byte} {r : Request} {s : State} (hf : LinkFree s)
    (hp : parseRequest (bytes.take Config.largestRequest) = .ok r) :
    sendOnPort bytes s = s.setLink (takenLink bytes r s) := by
  rw [sendOnPort_of_linkFree hf, takeRequest]
  simp only [hp]
  rfl

/-! ### What a change of the link alone keeps -/

/-- What holds of a link record that no owner of a request has written: the pending causes are kept, an answer stands in
the buffer exactly while the link is ANSWER READY, the request buffer is not overrun, and no load has begun. -/
structure LinkAside (s : State) (x : Link) : Prop where
  pending : s.link.pending &&& ~~~x.pending = 0
  answer : s.link.answer.isSome = (s.link.state == .answerReady) → x.answer.isSome = (x.state == .answerReady)
  request : s.link.request.length ≤ Config.largestRequest → x.request.length ≤ Config.largestRequest
  writing : ∀ first frames, x.state = .handling (.writing first frames) →
    s.link.state = .handling (.writing first frames)

theorem pendingKept_self (x : BitVec 10) : x &&& ~~~x = 0 := by
  ext; simp

theorem pendingKept_or (x y : BitVec 10) : x &&& ~~~(x ||| y) = 0 := by
  ext; simp; grind

theorem linkAside_miso (s : State) (m : List Byte) (b : Bool) : LinkAside s { s.link with miso := m, rowDue := b } :=
  ⟨pendingKept_self _, id, id, fun _ _ => id⟩

theorem linkAside_overrun (s : State) (m : List Byte) :
    LinkAside s { s.link with miso := m, pending := s.link.pending ||| Attention.linkOverrun.bit } :=
  ⟨pendingKept_or _ _, id, id, fun _ _ => id⟩

theorem linkAside_answered (s : State) (a : Answer) (since : Option Nat) (bytes : List Byte) (m : List Byte) :
    LinkAside s { s.link with
      state := .handling (.finished a), answer := none, silenceSince := since, miso := m, rowDue := false,
      request := bytes.take Config.largestRequest } :=
  ⟨pendingKept_self _, fun _ => rfl, fun _ => List.length_take_le _ _, nofun⟩

theorem linkAside_fetched (s : State) (m : List Byte) :
    LinkAside s { s.link with miso := m, state := .idle, answer := none } :=
  ⟨pendingKept_self _, fun _ => rfl, id, nofun⟩

theorem linkAside_placed (s : State) (a : Answer) :
    LinkAside s { s.link with state := .answerReady, answer := some a, rowDue := false } :=
  ⟨pendingKept_self _, fun _ => rfl, id, nofun⟩

/-! ### Request rows -/

section
variable {r : Request} {s : State}

/-- A SEND that the link takes and answers itself. -/
theorem sendOnPort_not_parsed {bytes : List Byte} {st : Status} (hf : LinkFree s)
    (h : parseRequest (bytes.take Config.largestRequest) = .error st) :
    ∃ x, LinkAside s x ∧ (∃ a, x.state = .handling (.finished a)) ∧ sendOnPort bytes s = s.setLink x := by
  rw [sendOnPort_of_linkFree hf, takeRequest]
  simp only [h]
  cases st
  case unknown => exact ⟨_, linkAside_answered s _ s.link.silenceSince bytes _, ⟨_, rfl⟩, rfl⟩
  all_goals exact ⟨_, linkAside_answered s _ (silenceRestarted s) bytes _, ⟨_, rfl⟩, rfl⟩

theorem linkFree_or_handling (s : State) : LinkFree s ∨ ∃ w, s.link.state = .handling w := by
  cases h : s.link.state with
  | idle => exact .inl (.inl h)
  | answerReady => exact .inl (.inr h)
  | handling w => exact .inr ⟨w, rfl⟩

/-- Everything that a request row can do (log 1): the link alone changes its record, or the link takes the request and
its owner acts. -/
theorem issue_cases (r : Request) (own : State → Owned) (s : State) :
    (∃ x, LinkAside s x ∧ issue r own s = s.setLink x) ∨
      (LinkFree s ∧ issue r own s = settle own (s.setLink (takenLink (encodeRequest r) r s))) := by
  cases follows : rowFollows r s with
  | true => exact .inl ⟨_, linkAside_miso s s.link.miso false, issue_follows own follows⟩
  | false =>
    rcases linkFree_or_handling s with hf | ⟨w, hw⟩
    · have hi : issue r own s = carryOut (encodeRequest r) own s := by simp [issue, follows]
      cases hp : parseRequest ((encodeRequest r).take Config.largestRequest) with
      | error st =>
        obtain ⟨x, hx, ⟨a, ha⟩, hs⟩ := sendOnPort_not_parsed hf hp
        refine .inl ⟨x, hx, ?_⟩
        rw [hi, carryOut, hs]
        rcases hf with h | h <;> simp [h, ha]
      | ok q =>
        have same : (q = .restart) = (r = .restart) := by
          rw [← requestCode_eq_restart, ← requestCode_eq_restart, code_of_parse_encoded hp]
        have hs : sendOnPort (encodeRequest r) s = s.setLink (takenLink (encodeRequest r) r s) := by
          rw [sendOnPort_parsed hf hp]
          simp only [takenLink, same]
        refine .inr ⟨hf, ?_⟩
        rw [hi, carryOut, hs]
        rcases hf with h | h <;> simp [h, takenLink]
    · exact .inl ⟨_, linkAside_overrun s _, issue_busy own hw follows⟩

/-- Everything that a SEND_FRAME can do (R155, R156). -/
theorem sendFrame_cases (bytes : List Byte) (s : State) :
    (∃ x, LinkAside s x ∧ sendFrame bytes s = s.setLink x) ∨
      (LinkFree s ∧ ∃ r, sentRequest bytes = some r ∧
        sendFrame bytes s = setRowDue true (settle (handle r) (s.setLink (takenLink bytes r s)))) := by
  cases bytes with
  | nil => exact .inl ⟨_, linkAside_miso s _ s.link.rowDue, rfl⟩
  | cons b rest =>
    rcases linkFree_or_handling s with hf | ⟨w, hw⟩
    · cases hp : parseRequest ((b :: rest).take Config.largestRequest) with
      | error st =>
        obtain ⟨x, hx, -, hs⟩ := sendOnPort_not_parsed hf hp
        rw [sendOnPort_of_linkFree hf] at hs
        exact .inl ⟨x, hx, (sendFrame_not_parsed hf hp).trans hs⟩
      | ok r =>
        have sent := sentRequest_of_parsed hp
        refine .inr ⟨hf, r, sent, ?_⟩
        rw [sendFrame_taken hf sent, sendOnPort_parsed hf hp]
    · exact .inl ⟨_, linkAside_overrun s _, sendFrame_busy hw⟩

end

/-! ### The other events of the link -/

/-- A FETCH changes the link record alone (R157). -/
theorem fetchFrame_aside (count : Nat) (s : State) : ∃ x, LinkAside s x ∧ fetchFrame count s = s.setLink x := by
  unfold fetchFrame
  split
  · dsimp only
    split_ifs
    · exact ⟨_, linkAside_fetched s _, rfl⟩
    · exact ⟨_, linkAside_miso s _ s.link.rowDue, rfl⟩
  · exact ⟨_, linkAside_miso s _ s.link.rowDue, rfl⟩

theorem linkAside_self (s : State) : LinkAside s s.link := linkAside_miso s s.link.miso s.link.rowDue

/-- REQUEST_COMPLETION changes the link record alone (R156). -/
theorem placeAnswer_aside (s : State) : ∃ x, LinkAside s x ∧ placeAnswer s = s.setLink x := by
  unfold placeAnswer
  split
  · exact ⟨_, linkAside_placed s _, rfl⟩
  · exact ⟨_, linkAside_self s, rfl⟩

/-! ### The owner of every request row -/

/-- A request row runs the owner of its request (log 1). -/
theorem exec_request {i : Instr} {r : Request} (h : i.request? = some r) (s : State) :
    exec i s = .next (issue r (handle r) s) := by
  cases i <;> cases h <;> rfl

end Sys2Proof.Machine
end

section

/-! # What the field line controller's events are made of

Every event of a field line is a run of a few writes: a line record, a node record whose state stays, a node that leaves
its state for one that is neither ONLINE nor ABSENT, a group's computed values, an attention cause. The end of a turn has
one more, which may bring its node ONLINE. A law that each of these writes keeps is kept by every event of a line. -/

namespace Sys2Proof.Machine

open Sys2Proof.Safety

/-! ### The writes -/

/-- The node has the line, the address and the kind that it had (R86). -/
def SameNode (n m : Node) : Prop := n.line = m.line ∧ n.address = m.address ∧ n.kind = m.kind

/-- The node is not ABSENT, or an exchange that is not to be discarded serves it. -/
def ServedNode (s : State) (i : Fin 40) : Prop :=
  (s.node i).state ≠ .absent ∨
    ∃ l x, (s.line l).exchange = some x ∧ x.discard = false ∧ x.index = i

/-- The group has the configuration that it had: what the water unit and the answers write is left out (R61). -/
def SameConfig (g h : Group) : Prop :=
  g.enabled = h.enabled ∧ g.pumpNode = h.pumpNode ∧ g.valve = h.valve ∧ g.heightLimit = h.heightLimit ∧
    g.lead = h.lead ∧ g.bypass = h.bypass ∧ g.critical = h.critical ∧ g.curve = h.curve

/-- The speeds of a group as R61 and R65 bound them. -/
def SpeedsFit (g : Group) : Prop :=
  g.issued ≤ 1000 ∧ g.delivered ≤ 1000 ∧ (g.pumpNode = none → g.issued = 0 ∧ g.delivered = 0)

/-- The exchange of a line record serves what R88 asks, or is that of the record before with its node and mark kept. -/
def ServesAsBefore (s : State) (l : Line) (r : LineRec) : Prop :=
  ∀ x, r.exchange = some x → x.discard = false →
    ((s.node x.index).state ≠ .absent ∧ (s.node x.index).line = l) ∨
      ∃ y, (s.line l).exchange = some y ∧ y.index = x.index ∧ y.discard = false

/-- One write of the field line controller (chapter 5). -/
inductive FieldWrite : State → State → Prop
  | line (l : Line) (r : LineRec) (s : State) (serves : ServesAsBefore s l r) : FieldWrite s (setLineRec l r s)
  | node (i : Fin 40) (n : Node) (s : State) (state : n.state = (s.node i).state) (same : SameNode n (s.node i)) :
      FieldWrite s (setNodeRec i n s)
  | leave (i : Fin 40) (n : Node) (s : State) (notOnline : n.state ≠ .online) (present : n.state ≠ .absent)
      (same : SameNode n (s.node i)) (served : ServedNode s i) : FieldWrite s (writeNode i n s)
  | group (k : Fin 32) (g : Group) (s : State) (same : SameConfig g s.water.groups[k])
      (speeds : WaterLaw s → SpeedsFit g) : FieldWrite s (setGroupRec k g s)
  | raise (c : Attention) (s : State) : FieldWrite s (raise c s)

/-- A run of writes. -/
abbrev FieldReach : State → State → Prop := Relation.ReflTransGen FieldWrite

/-- Neither the clock nor the supervision record has changed. -/
def Calm (s t : State) : Prop := t.clock = s.clock ∧ t.sup = s.sup

/-- A run of writes in which one more node's record may be written, which may bring the node ONLINE; no safe cause has
moved before that. -/
def TurnReach (s t : State) : Prop :=
  FieldReach s t ∨ ∃ (u : State) (i : Fin 40) (n : Node), FieldReach s u ∧ Calm s u ∧ n.state ≠ .absent ∧
    SameNode n (u.node i) ∧ ServedNode u i ∧ FieldReach (writeNode i n u) t

theorem FieldReach.turn {s t : State} (h : FieldReach s t) : TurnReach s t := .inl h

theorem TurnReach.then {s t u : State} (h : TurnReach s t) (h' : FieldReach t u) : TurnReach s u := by
  rcases h with h | ⟨v, i, n, hv, hc, hp, hs, hd, h⟩
  · exact .inl (h.trans h')
  · exact .inr ⟨v, i, n, hv, hc, hp, hs, hd, h.trans h'⟩

theorem TurnReach.after {s t u : State} (h : FieldReach s t) (calm : Calm s t) (h' : TurnReach t u) : TurnReach s u := by
  rcases h' with h' | ⟨v, i, n, hv, hc, hp, hs, hd, h'⟩
  · exact .inl (h.trans h')
  · exact .inr ⟨v, i, n, h.trans hv, ⟨hc.1.trans calm.1, hc.2.trans calm.2⟩, hp, hs, hd, h'⟩

/-- A law that every write keeps is kept by a run of writes. -/
theorem FieldReach.keeps {P : State → Prop} (write : ∀ s t, FieldWrite s t → P s → P t) {s t : State}
    (h : FieldReach s t) (hs : P s) : P t := by
  induction h with
  | refl => exact hs
  | tail _ last ih => exact write _ _ last ih

/-- A law that every write keeps, the one that may bring a node ONLINE among them, is kept by the events of a line. -/
theorem TurnReach.keeps {P : State → Prop} (write : ∀ s t, FieldWrite s t → P s → P t)
    (node : ∀ (i : Fin 40) (n : Node) (s : State), n.state ≠ .absent → SameNode n (s.node i) → ServedNode s i → P s →
      P (writeNode i n s)) {s t : State} (h : TurnReach s t) (hs : P s) : P t := by
  rcases h with h | ⟨u, i, n, hu, -, hp, hn, hd, h⟩
  · exact h.keeps write hs
  · exact h.keeps write (node i n u hp hn hd (hu.keeps write hs))

/-! ### Single writes -/

section
variable (l : Line) (i : Fin 40) (s : State)

theorem SameNode.refl (n : Node) : SameNode n n := ⟨rfl, rfl, rfl⟩

theorem reach_line {r : LineRec} (h : ServesAsBefore s l r) : FieldReach s (setLineRec l r s) :=
  .single (.line l r s h)

/-- A line record whose exchange stays, or is gone. -/
theorem reach_line_kept {r : LineRec} (h : r.exchange = (s.line l).exchange ∨ r.exchange = none) :
    FieldReach s (setLineRec l r s) := by
  refine reach_line l s fun x hx hd => ?_
  rcases h with h | h <;> rw [h] at hx
  · exact .inr ⟨x, hx, rfl, hd⟩
  · cases hx

/-- A line record whose exchange is the one before with its node and mark kept. -/
theorem reach_line_exchange {r : LineRec} {x y : Exchange} (hx : (s.line l).exchange = some x)
    (hr : r.exchange = some y) (index : y.index = x.index) (discard : y.discard = x.discard) :
    FieldReach s (setLineRec l r s) := by
  refine reach_line l s fun z hz hd => ?_
  rw [hr] at hz
  cases hz
  exact .inr ⟨x, hx, index.symm, discard.symm.trans hd⟩

theorem reach_node {n : Node} (hs : n.state = (s.node i).state) (hn : SameNode n (s.node i)) :
    FieldReach s (setNodeRec i n s) := .single (.node i n s hs hn)

theorem reach_leave {n : Node} (ho : n.state ≠ .online) (hp : n.state ≠ .absent) (hn : SameNode n (s.node i))
    (hd : ServedNode s i) : FieldReach s (writeNode i n s) := .single (.leave i n s ho hp hn hd)

theorem reach_raise (c : Attention) : FieldReach s (raise c s) := .single (.raise c s)

theorem reach_updateGroup {k : Fin 32} {f : Group → Group} (hc : ∀ g, SameConfig (f g) g)
    (hf : WaterLaw s → SpeedsFit s.water.groups[k] → SpeedsFit (f s.water.groups[k])) :
    FieldReach s (updateGroup k f s) :=
  .single (.group k _ s (hc _) fun law => hf law ⟨(law.speeds k).1, (law.speeds k).2, law.unbound k⟩)

/-- The group bound to a pump node names it. -/
theorem pumpNode_of_pumpGroup {i : Fin 40} {k : Fin 32} {s : State} (h : pumpGroup s i = some k) :
    s.water.groups[k].pumpNode = some i := by
  simpa using List.find?_some h

theorem reach_updatePumpGroup {f : Group → Group} (hc : ∀ g, SameConfig (f g) g)
    (hf : ∀ g : Group, g.pumpNode = some i → SpeedsFit g → SpeedsFit (f g)) :
    FieldReach s (updatePumpGroup i f s) := by
  unfold updatePumpGroup
  split
  · exact .refl
  · rename_i k hk
    exact reach_updateGroup s hc fun _ => hf _ (pumpNode_of_pumpGroup hk)

end

/-- The flags are no part of a group's configuration, and no speed. -/
theorem sameConfig_flags (g : Group) (f : LimitFlags) : SameConfig { g with flags := f } g :=
  ⟨rfl, rfl, rfl, rfl, rfl, rfl, rfl, rfl⟩

theorem speedsFit_bound {g : Group} {i : Fin 40} (hb : g.pumpNode = some i) (hi : g.issued ≤ 1000)
    (hd : g.delivered ≤ 1000) : SpeedsFit g :=
  ⟨hi, hd, fun h => by rw [h] at hb; cases hb⟩

/-! ### The water computation (R70 to R74) -/

theorem interpolate_le {top : Nat} (points : List CurvePoint) (h : Nat) (hp : ∀ p ∈ points, p.speed ≤ top) :
    interpolate points h ≤ top := by
  induction points with
  | nil => simp [interpolate]
  | cons p rest ih =>
    cases rest with
    | nil => simp [interpolate]
    | cons q rest =>
      simp only [interpolate]
      split_ifs with hh
      · have hp1 := hp p (by simp)
        have hq1 := hp q (by simp)
        have part : (q.speed - p.speed) * (h - p.height) / (q.height - p.height) ≤ q.speed - p.speed := by
          refine Nat.div_le_of_le_mul ?_
          rw [Nat.mul_comm]
          exact Nat.mul_le_mul_right _ (by omega)
        omega
      · exact ih fun r hr => hp r (List.mem_cons_of_mem _ hr)

theorem curveSpeed_le {curve : Vector CurvePoint 8} (hv : curveAllZero curve = true ∨ curveValid curve = true) (h : Nat) :
    curveSpeed curve h ≤ 1000 := by
  have hp : ∀ p ∈ curve.toList, p.speed ≤ 1000 := by
    rcases hv with hv | hv
    · intro p hp
      have := List.all_eq_true.1 hv p hp
      simp only [Bool.and_eq_true, beq_iff_eq] at this
      omega
    · simp only [curveValid, Bool.and_eq_true, List.all_eq_true, decide_eq_true_eq] at hv
      exact fun p hp => (hv.1.1.1 p hp).2
  unfold curveSpeed
  split_ifs
  · omega
  · exact hp _ (by simp)
  · exact interpolate_le _ _ hp

theorem valveLimited_le (s : State) (g : Group) (target : Nat) : valveLimited s g target ≤ target := by
  unfold valveLimited
  split
  · exact le_rfl
  · split_ifs <;> omega

theorem slewed_le (s : State) (g : Group) (target : Nat) : slewed s g target ≤ max target g.delivered := by
  unfold slewed
  dsimp only
  split_ifs <;> omega

/-- The speed that a computation issues is the group's claim, or at most the target or the delivered speed (R72, R74). -/
theorem computedGroup_speedsFit {s : State} {k : Fin 32} {i : Fin 40} (law : WaterLaw s)
    (hb : s.water.groups[k].pumpNode = some i) : SpeedsFit (computedGroup s k) := by
  obtain ⟨hi, hd⟩ := law.speeds k
  refine speedsFit_bound hb ?_ hd
  have target : (computedGroup s k).target ≤ 1000 := (valveLimited_le _ _ _).trans (curveSpeed_le (law.curve k) _)
  have fresh := slewed_le s s.water.groups[k] (computedGroup s k).target
  show (if _ then s.water.groups[k].claimed else slewed s s.water.groups[k] (computedGroup s k).target) ≤ 1000
  split_ifs
  · exact max_le hi hd
  · exact fresh.trans (max_le target hd)

theorem reach_compute {k : Fin 32} {i : Fin 40} {s : State} (hb : s.water.groups[k].pumpNode = some i) :
    FieldReach s (compute k s) := by
  have group : FieldReach s (setGroupRec k (computedGroup s k) s) :=
    .single (.group k _ s ⟨rfl, rfl, rfl, rfl, rfl, rfl, rfl, rfl⟩ fun law => computedGroup_speedsFit law hb)
  unfold compute
  dsimp only
  split_ifs
  · exact group.trans (reach_raise _ _)
  · exact group

/-! ### Orders (R89) -/

@[simp] theorem line_updatePumpGroup (i : Fin 40) (f : Group → Group) (s : State) (l : Line) :
    (updatePumpGroup i f s).line l = s.line l := by
  simp [State.line]

@[simp] theorem node_updatePumpGroup (i j : Fin 40) (f : Group → Group) (s : State) :
    (updatePumpGroup i f s).node j = s.node j := by
  simp [State.node]

@[simp] theorem line_compute (k : Fin 32) (s : State) (l : Line) : (compute k s).line l = s.line l := by
  simp [State.line]

/-- Building an order writes no line record and keeps the exchange's index and mark. -/
theorem buildOrder_spec (l : Line) (x : Exchange) (s : State) :
    FieldReach s (buildOrder l x s).1 ∧ (∀ m, (buildOrder l x s).1.line m = s.line m) ∧
      (buildOrder l x s).2.index = x.index ∧ (buildOrder l x s).2.discard = x.discard := by
  unfold buildOrder
  split_ifs
  · split
    · unfold buildSet
      split
      · exact ⟨.refl, fun _ => rfl, rfl, rfl⟩
      · split
        · exact ⟨.refl, fun _ => rfl, rfl, rfl⟩
        · rename_i k hk
          exact ⟨reach_compute (pumpNode_of_pumpGroup hk), fun m => line_compute k s m, rfl, rfl⟩
    · unfold buildJoin
      split
      · exact ⟨reach_node _ s rfl (.refl _), fun m => by simp, rfl, rfl⟩
      · exact ⟨.refl, fun _ => rfl, rfl, rfl⟩
      · split
        · exact ⟨.refl, fun _ => rfl, rfl, rfl⟩
        · refine ⟨reach_updatePumpGroup _ s (fun g => ⟨rfl, rfl, rfl, rfl, rfl, rfl, rfl, rfl⟩) ?_, fun m => by simp,
            rfl, rfl⟩
          exact fun g hb fit => speedsFit_bound hb (Nat.zero_le _) fit.2.1
  · exact ⟨.refl, fun _ => rfl, rfl, rfl⟩

theorem reach_attemptStart (l : Line) (s : State) : FieldReach s (attemptStart l s) := by
  unfold attemptStart
  split
  · rename_i x hx
    split_ifs
    · obtain ⟨reach, lines, index, discard⟩ := buildOrder_spec l x s
      exact reach.trans (reach_line_exchange l _ ((congrArg (·.exchange) (lines l)).trans hx) rfl index discard)
    · exact .refl
  · exact .refl

/-! ### Rounds (R87, R88) -/

theorem reach_beginTurn {l : Line} {i : Fin 40} {k : Turn} {s : State} (hp : (s.node i).state ≠ .absent)
    (hl : (s.node i).line = l) : FieldReach s (beginTurn l i k s) :=
  reach_line l s fun x hx _ => by cases hx; exact .inl ⟨hp, hl⟩

theorem reach_visit (l : Line) (i : Fin 40) (s : State) : FieldReach s (visit l i s).1 := by
  have joins : ∀ n : Node, n.state = .joining → SameNode n (s.node i) → (s.node i).state ≠ .absent →
      (s.node i).line = l → FieldReach s (beginTurn l i (.join .identify) (writeNode i n s)) := by
    intro n hn same hp hl
    have here : (writeNode i n s).node i = n := by simp [node_writeNode]
    exact (reach_leave i s (by simp [hn]) (by simp [hn]) same (.inl hp)).trans
      (reach_beginTurn (by simp [here, hn]) (by rw [here, same.1, hl]))
  unfold visit
  dsimp only
  split_ifs with absent rejoin due
  · exact .refl
  · rw [not_or, not_not] at absent
    exact joins _ rfl ⟨rfl, rfl, rfl⟩ absent.1 absent.2
  all_goals
    rw [not_or, not_not] at absent
    obtain ⟨hp, hl⟩ := absent
    split
    · exact reach_beginTurn hp hl
    · exact reach_beginTurn hp hl
    · exact reach_beginTurn hp hl
    · first | exact joins _ rfl ⟨rfl, rfl, rfl⟩ hp hl | exact reach_node i s rfl ⟨rfl, rfl, rfl⟩
    · exact .refl

theorem reach_visitAll (l : Line) (is : List (Fin 40)) (s : State) : FieldReach s (visitAll l is s).1 := by
  induction is generalizing s with
  | nil => exact .refl
  | cons i rest ih =>
    have hv := reach_visit l i s
    unfold visitAll
    split
    · rename_i e; rw [e] at hv; exact hv
    · rename_i e; rw [e] at hv; exact hv.trans (ih _)

theorem reach_setRoundIdle (l : Line) (s : State) : FieldReach s (setRoundIdle l s) :=
  reach_line_kept l s (.inr rfl)

theorem reach_startRound (l : Line) (s : State) : FieldReach s (startRound l s) := by
  have begun : FieldReach s (beginRound l s) := reach_line_kept l s (.inl rfl)
  have run := begun.trans (reach_visitAll l (List.finRange 40) (beginRound l s))
  unfold startRound
  split
  · rename_i e; rw [e] at run; exact run
  · rename_i e; rw [e] at run; exact run.trans (reach_setRoundIdle l _)

theorem reach_endRound (l : Line) (s : State) : FieldReach s (endRound l s) := by
  unfold endRound
  split_ifs
  · exact (reach_line_kept l s (.inr rfl)).trans (reach_startRound l _)
  · exact reach_setRoundIdle l s

theorem reach_continueRound (l : Line) (i : Fin 40) (s : State) : FieldReach s (continueRound l i s) := by
  have run := (reach_line_kept l s (r := { s.line l with exchange := none }) (.inr rfl)).trans
    (reach_visitAll l ((List.finRange 40).drop (i.val + 1)) _)
  unfold continueRound
  dsimp only
  split
  · rename_i e; rw [e] at run; exact run
  · rename_i e; rw [e] at run; exact run.trans (reach_endRound l _)

theorem reach_roundTimerExpiry (l : Line) (s : State) : FieldReach s (roundTimerExpiry l s) := by
  unfold roundTimerExpiry
  dsimp only
  split
  · refine .trans ?_ (reach_startRound l _)
    exact reach_line_kept l s (.inl rfl)
  · refine .trans ?_ (reach_raise _ _)
    exact reach_line_kept l s (.inl rfl)

/-! ### The outcome of a turn (R93 to R98) -/

section
variable {l : Line} {x : Exchange} {s : State}

/-- The node that a turn serves is served. -/
theorem servedNode_of_exchange (hx : (s.line l).exchange = some x) (hd : x.discard = false) :
    ServedNode s x.index := .inr ⟨l, x, hx, hd, rfl⟩

theorem sameNode_recordAnswer (n : Node) (clean : Bool) (chars : List RxChar) :
    SameNode (recordAnswer n clean chars) n := by
  unfold recordAnswer
  dsimp only
  split <;> exact ⟨rfl, rfl, rfl⟩

theorem recordAnswer_state (n : Node) (clean : Bool) (chars : List RxChar) :
    (recordAnswer n clean chars).state = n.state := by
  unfold recordAnswer
  dsimp only
  split <;> rfl

theorem turn_writeNode {i : Fin 40} {n : Node} {u : State} (hp : n.state ≠ .absent) (hn : SameNode n (u.node i))
    (hd : ServedNode u i) : TurnReach u (writeNode i n u) := .inr ⟨u, i, n, .refl, ⟨rfl, rfl⟩, hp, hn, hd, .refl⟩

theorem reach_handResult {f : Group → Group} (hc : ∀ g, SameConfig (f g) g)
    (hf : ∀ g : Group, g.pumpNode = some x.index → SpeedsFit g → SpeedsFit (f g)) :
    FieldReach s (handResult x f s) := by
  unfold handResult
  split
  · exact .refl
  · split_ifs with hb
    · exact reach_updateGroup s hc fun _ => hf _ hb
    · exact .refl

theorem reach_loseNode {i : Fin 40} {n : Node} (hn : SameNode n (s.node i)) (hd : ServedNode s i) :
    FieldReach s (loseNode i n s) :=
  .trans (reach_leave i s (n := { n with state := .lost, countdown := Config.rejoinRounds }) nofun nofun hn hd)
    (reach_raise _ _)

theorem turn_setOutcome (hd : ServedNode s x.index) (c : Condition) (chars : List RxChar) :
    TurnReach s (setOutcome l x c chars s) := by
  have recorded := sameNode_recordAnswer (s.node x.index)
  unfold setOutcome
  dsimp only
  split
  · refine TurnReach.then (turn_writeNode ?_ ?_ hd) (reach_handResult (f := Group.deliver)
      (fun g => ⟨rfl, rfl, rfl, rfl, rfl, rfl, rfl, rfl⟩)
      fun g hb fit => speedsFit_bound (g := g.deliver) hb fit.1 fit.1)
    · nofun
    · exact recorded true chars
  · refine TurnReach.then (turn_writeNode ?_ ?_ hd) (reach_handResult (f := Group.setDeclined true)
      (fun g => ⟨rfl, rfl, rfl, rfl, rfl, rfl, rfl, rfl⟩) fun g _ fit => fit)
    · nofun
    · exact recorded false chars
  · split_ifs
    · refine FieldReach.turn (reach_loseNode ?_ hd)
      exact ⟨rfl, rfl, rfl⟩
    · refine FieldReach.turn (reach_leave x.index s nofun nofun ?_ hd)
      exact ⟨rfl, rfl, rfl⟩

theorem servedNode_updatePumpGroup {i j : Fin 40} {f : Group → Group} (hd : ServedNode s i) :
    ServedNode (updatePumpGroup j f s) i := by
  simpa [ServedNode] using hd

theorem reach_joinFailed {i : Fin 40} {n : Node} (hn : SameNode n (s.node i)) (hd : ServedNode s i) :
    FieldReach s (joinFailed i n s) := reach_loseNode (n := { n with stage := .identify }) hn hd

/-- A node's record written with its state as it was is written alone. -/
theorem writeNode_same {i : Fin 40} {n : Node} (h : n.state = (s.node i).state) : writeNode i n s = setNodeRec i n s :=
  if_pos h

theorem turn_joinCleaned {i : Fin 40} {stage : JoinStage} {chars : List RxChar} (hd : ServedNode s i) :
    TurnReach s (joinCleaned i stage (s.node i) chars s) := by
  have recorded := sameNode_recordAnswer { s.node i with sequence := !(s.node i).sequence } true chars
  unfold joinCleaned
  dsimp only
  split
  · rw [writeNode_same (by rfl)]
    exact FieldReach.turn (reach_node i s rfl ⟨rfl, rfl, rfl⟩)
  · rw [writeNode_same (by rfl)]
    exact FieldReach.turn (reach_node i s rfl ⟨rfl, rfl, rfl⟩)
  · split
    · refine TurnReach.after (reach_updatePumpGroup i s (f := Group.comeToRest)
        (fun g => ⟨rfl, rfl, rfl, rfl, rfl, rfl, rfl, rfl⟩)
        fun g hb fit => speedsFit_bound (g := g.comeToRest) hb fit.1 (Nat.zero_le _))
        ⟨by simp, by simp⟩ ?_
      refine TurnReach.then (turn_writeNode ?_ ?_ (servedNode_updatePumpGroup hd)) (reach_raise _ _)
      · nofun
      · rw [node_updatePumpGroup]
        exact recorded
    · refine TurnReach.then (turn_writeNode ?_ ?_ hd) (reach_raise _ _)
      · nofun
      · exact recorded

theorem turn_joinDeclined {i : Fin 40} {stage : JoinStage} {chars : List RxChar} (hd : ServedNode s i) :
    FieldReach s (joinDeclined i stage (s.node i) chars s) := by
  unfold joinDeclined
  split
  · exact reach_joinFailed (.refl _) hd
  · exact reach_joinFailed (.refl _) hd
  · refine .trans (reach_updatePumpGroup i s (f := Group.setDeclined true)
      (fun g => ⟨rfl, rfl, rfl, rfl, rfl, rfl, rfl, rfl⟩) fun g _ fit => fit) ?_
    refine reach_joinFailed ?_ (servedNode_updatePumpGroup hd)
    rw [node_updatePumpGroup]
    exact sameNode_recordAnswer (s.node i) false chars

theorem turn_turnOutcome (hd : ServedNode s x.index) (c : Condition) (chars : List RxChar) :
    TurnReach s (turnOutcome l x c chars s) := by
  unfold turnOutcome
  split
  · exact turn_setOutcome hd c chars
  · unfold joinOutcome
    dsimp only
    split
    · exact turn_joinCleaned hd
    · exact (turn_joinDeclined hd).turn
    · exact (reach_joinFailed (.refl _) hd).turn

/-- The end of an attempt on the line whose exchange it is (R91, R93, R100). -/
theorem turn_attemptEnd (hx : (s.line l).exchange = some x) (judged : Node → Condition) (chars : List RxChar) :
    TurnReach s (attemptEnd l x judged chars s) := by
  unfold attemptEnd
  split_ifs with discard
  · exact (reach_continueRound l x.index s).turn
  · have served := servedNode_of_exchange hx (by simpa using discard)
    have condition (c : Condition) : FieldReach s (setNodeRec x.index { s.node x.index with condition := c } s) :=
      reach_node x.index s rfl ⟨rfl, rfl, rfl⟩
    dsimp only
    split_ifs
    · refine FieldReach.turn ((condition (judged (s.node x.index))).trans ?_)
      exact reach_line_exchange l _ (x := x) (by simpa using hx) rfl rfl rfl
    · refine TurnReach.after (condition (judged (s.node x.index))) ⟨rfl, rfl⟩ (TurnReach.then (turn_turnOutcome ?_ _ chars) (reach_continueRound l _ _))
      exact servedNode_of_exchange (l := l) (by simpa using hx) (by simpa using discard)

theorem turn_replyWaitExpiry (l : Line) (s : State) : TurnReach s (replyWaitExpiry l s) := by
  unfold replyWaitExpiry
  split
  · rename_i x hx
    split_ifs
    · exact turn_attemptEnd hx _ _
    · exact .inl .refl
  · exact .inl .refl

theorem turn_answerEnd (l : Line) (chars : List RxChar) (s : State) : TurnReach s (answerEnd l chars s) := by
  unfold answerEnd
  split
  · rename_i x hx
    split_ifs
    · exact turn_attemptEnd hx _ _
    · exact .inl .refl
  · exact .inl .refl

theorem reach_answerBegin (l : Line) (s : State) : FieldReach s (answerBegin l s) := by
  unfold answerBegin
  split
  · rename_i x hx
    split_ifs
    · exact reach_line_exchange l s hx rfl rfl rfl
    · exact .refl
  · exact .refl

end

end Sys2Proof.Machine
end

section

/-! # What a step can do

One inversion for the owners of the requests and one for the events: each names the state that is left and the checks that
were passed on the way. With them a step does one of four things: nothing, a change of the link alone, an owner's action on a
taken request, or an event. -/

namespace Sys2Proof.Machine

open Sys2Proof.Safety

/-! ### The owners -/

/-- What the owner of a request can do: nothing, where the request is refused or a read, or its action (chapters 1 to 9). -/
inductive OwnerDoes (s : State) : Request → State → Prop
  | nothing (r : Request) : OwnerDoes s r s
  | start (stopped : s.clock.state = .stopped) (short : s.clock.showTime < s.clock.showLength) :
      OwnerDoes s .start (doReturnWork (setRunning (chaseAll s.clock.showTime s.clock.showTime s)))
  | pause (running : s.clock.state = .running) : OwnerDoes s .pause (s.setClock { s.clock with state := .paused })
  | resume (paused : s.clock.state = .paused) (short : s.clock.showTime < s.clock.showLength) :
      OwnerDoes s .resume
        (doReturnWork (setRunning (if s.clock.returnPending then chaseProgramme s.clock.showTime s else s)))
  | stop (running : s.clock.state = .running ∨ s.clock.state = .paused) :
      OwnerDoes s .stop (clearShow (s.setClock { s.clock with state := .stopped, showTime := 0 }))
  | move (time : Nat) (stopped : s.clock.state = .stopped) :
      OwnerDoes s (.seek time) (s.setClock { s.clock with showTime := min time s.clock.showLength })
  | seek (time : Nat) (paused : s.clock.state = .paused) :
      OwnerDoes s (.seek time) (chaseAll (min time s.clock.showLength) s.clock.showTime
        (s.setClock { s.clock with showTime := min time s.clock.showLength }))
  | lengthStopped (length : Nat) (range : length ≤ Config.showTimeMax) (stopped : s.clock.state = .stopped) :
      OwnerDoes s (.setShowLength length)
        (s.setClock { s.clock with showLength := length, showTime := min s.clock.showTime length })
  | lengthPaused (length : Nat) (range : length ≤ Config.showTimeMax) (paused : s.clock.state = .paused)
      (reached : s.clock.showTime ≤ length) :
      OwnerDoes s (.setShowLength length) (s.setClock { s.clock with showLength := length })
  | place (a : CueArgs) (c : Fin 49) (sh : Shape) (p : Payload) (payload : readPayload c a.payload = some p)
      (range : cueFieldsInRange a.number a.start a.ramp = true) (new : s.store.find a.number = none)
      (clash : startPresent a.start s.store.timelines[c] = false) (room : s.store.occupied < Config.cueSlots)
      (late : tooLate a.start s.store.timelines[c] = false) (ready : unready p s = false) :
      OwnerDoes s (.placeCue a) (placeOn c (newCue s c a sh p) s)
  | amendWaiting (a : AmendArgs) (c : Fin 49) (q : Cue) (p : Payload) (range : amendInRange a = true)
      (found : s.store.find a.number = some (c, q)) (payload : amendedPayload a c q = some p)
      (waiting : q.state = .waiting)
      (clash : AmendArgs.selects a 0 = true → otherHasStart q.number a.start s.store.timelines[c] = false)
      (late : AmendArgs.selects a 0 = true → tooLate a.start s.store.timelines[c] = false)
      (ready : AmendArgs.selects a 3 = true → unready p s = false) :
      OwnerDoes s (.amendCue a) (amendWaiting a c q (amendedCue a q p) s)
  | amendTaken (a : AmendArgs) (c : Fin 49) (q : Cue) (p : Payload) (range : amendInRange a = true)
      (found : s.store.find a.number = some (c, q)) (payload : amendedPayload a c q = some p)
      (taken : q.isTaken = true) (free : amendInUse a q (amendedCue a q p) = false)
      (ready : AmendArgs.selects a 3 = true → unready p s = false) :
      OwnerDoes s (.amendCue a) (amendTaken c q (amendedCue a q p) s)
  | retire (n : Nat) (c : Fin 49) (q : Cue) (found : s.store.find n = some (c, q)) :
      OwnerDoes s (.retireCue n) (retireOn c q s)
  | retirePassed (t : Nat) (channel : Option Nat) (c : Option (Fin 49)) :
      OwnerDoes s (.retirePassed t channel) (retirePassedOn t c s)
  | threshold (n : Nat) : OwnerDoes s (.setStoreThreshold n) (s.setStore { s.store with threshold := n })
  | group (a : GroupArgs) (n : Fin 32) (pump : Option (Fin 40)) (valve : Option ValveBinding) (wind : Option (Fin 4))
      (pumpArg : a.pumpNode = pump.map (·.val)) (range : groupInRange a = true) (present : namesAbsent s pump valve = false)
      (kind : namesWrongKind s pump valve = false) (bound : boundElsewhere s n pump valve = false)
      (curve : (a.enabled && curveAllZero s.water.groups[n].curve) = false) :
      OwnerDoes s (.setGroup a) (acceptGroup n (configuredGroup s s.water.groups[n] a pump valve wind) s)
  | curve (group : Nat) (curve : Vector CurvePoint 8) (n : Fin 32) (valid : curveValid curve = true) :
      OwnerDoes s (.setCurve group curve) (setGroupRec n { s.water.groups[n] with curve := curve } s)
  | windClass (k lo hi floor : Nat) (c : Fin 4) :
      OwnerDoes s (.setWindClass k lo hi floor)
        (s.setWater { s.water with windClasses := s.water.windClasses.set c { lo := lo, hi := hi, floor := floor } })
  | budget (b : Nat) : OwnerDoes s (.setBudget b) (s.setWater { s.water with budget := b })
  | line (n : Nat) (c : LineSettings) (l : Line) (r : LineRec) (kept : r.exchange = (s.line l).exchange) :
      OwnerDoes s (.setLine n c) (setLineRec l r s)
  | node (i : Fin 40) (l : Line) (k : NodeKind) (node line address kind : Nat) (absent : (s.node i).state = .absent)
      (free : addressTaken s l address = false) :
      OwnerDoes s (.setNode node line address kind) (writeNode i
        { Node.absentRecord with state := .joining, stage := .identify, line := l, address := address, kind := k } s)
  | dropNode (n : Nat) (i : Fin 40) (present : (s.node i).state ≠ .absent) (unbound : nodeBound s i = false) :
      OwnerDoes s (.dropNode n) (dropNode i s)
  | rejoin (n : Nat) (i : Fin 40) : OwnerDoes s (.rejoinNode n) (setNodeRec i { s.node i with rejoin := true } s)
  | sense (n x : Nat) (o : Fin 64) (k : Sense) (unset : s.lights.outputs[o].sense = .unset) (given : k ≠ .unset) :
      OwnerDoes s (.setOutputSense n x)
        (s.setLights { s.lights with outputs := s.lights.outputs.set o { s.lights.outputs[o] with sense := k } })
  | head (a : HeadArgs) (n : Fin 16) (outs : Option HeadOutputs) (resp : Response)
      (distinct : outs.any repeatsOutput = false) (free : outs.any (namedElsewhere s n) = false) :
      OwnerDoes s (.setHead a) (s.setLights { s.lights with
        heads := s.lights.heads.set n { enabled := a.enabled, outputs := outs, response := resp } })
  | scene (l : Levels) : OwnerDoes s (.setSafeScene l) (s.setLights { s.lights with scene := l })
  | master (v : Nat) : OwnerDoes s (.setMaster v) (s.setLights { s.lights with master := min v 1000 })
  | define (n first length : Nat) (loop : Option Nat) (k : Fin 64) (range : extentInRange first length loop = true)
      (empty : s.play.segments[k].state = .empty) (inside : first + length ≤ Config.memoryFrames)
      (apart : overlapsAnother s k first length = false) :
      OwnerDoes s (.defineSegment n first length loop)
        (setSegment k { state := .filling, first := first, length := length, loopStart := loop } s)
  | load (n offset count : Nat) (frames : List Frame) (k : Fin 64) (filling : s.play.segments[k].state = .filling)
      (room : offset + count ≤ s.play.segments[k].length) :
      OwnerDoes s (.loadFrames n offset count frames)
        (s.setLink { s.link with state := .handling (.writing (s.play.segments[k].first + offset) frames) })
  | finish (n : Nat) (k : Fin 64) (filling : s.play.segments[k].state = .filling) :
      OwnerDoes s (.finishSegment n) (setSegment k { s.play.segments[k] with state := .ready } s)
  | reopen (n : Nat) (k : Fin 64) (ready : s.play.segments[k].state = .ready) (free : isReferenced s k = false) :
      OwnerDoes s (.reopenSegment n) (setSegment k { s.play.segments[k] with state := .filling } s)
  | dropSegment (n : Nat) (k : Fin 64) (free : isReferenced s k = false) :
      OwnerDoes s (.dropSegment n) (setSegment k Segment.emptyRecord s)
  | format (m f : Nat) (x : OutputFormat) : OwnerDoes s (.setAudio m f) (s.setPlay { s.play with format := x })
  | mode (m f : Nat) (x : OutputFormat) (k : ClockMode) (other : k ≠ s.clock.mode)
      (stopped : s.clock.state = .stopped) : OwnerDoes s (.setAudio m f) ((changeMode k s).setPlay { (changeMode k s).play with format := x })
  | supervision (c : SupSettings) : OwnerDoes s (.setSupervision c) (applySupervision c s)
  | forceSafe : OwnerDoes s .forceSafe (addCause .forced s)
  | clearSafe (safe : s.clock.state = .safe) (clear : conditionPresent s = false) :
      OwnerDoes s .clearSafe (leaveSafe (stateAfterSafe s.clock.safeOrigin) (clearLatched s))
  | clearAttention (k : Nat) : OwnerDoes s (.clearAttention k)
      (s.setLink { s.link with pending := s.link.pending &&& ~~~attentionSet k })
  | attentionMask (k : Nat) : OwnerDoes s (.setAttentionMask k) (s.setLink { s.link with mask := attentionSet k })
  | restart : OwnerDoes s .restart (restartClock (clearLatched (restartTime (emptyShow (restartLink s)))))

section
variable (s : State)

/-! ### The clock's owners -/

theorem ownStart_does : OwnerDoes s .start (ownStart s).1 := by
  unfold ownStart
  split_ifs with h
  · exact .start h.1 h.2
  · exact .nothing _

theorem ownPause_does : OwnerDoes s .pause (ownPause s).1 := by
  unfold ownPause
  split_ifs with h
  · exact .pause h
  · exact .nothing _

theorem ownResume_does : OwnerDoes s .resume (ownResume s).1 := by
  unfold ownResume
  split_ifs with h hr
  · have := OwnerDoes.resume h.1 h.2
    rwa [if_pos hr] at this
  · have := OwnerDoes.resume h.1 h.2
    rwa [if_neg hr] at this
  · exact .nothing _

theorem ownStop_does : OwnerDoes s .stop (ownStop s).1 := by
  unfold ownStop
  split_ifs with h
  · exact .stop h
  · exact .nothing _

theorem ownSeek_does (time : Nat) : OwnerDoes s (.seek time) (ownSeek time s).1 := by
  unfold ownSeek
  split_ifs
  · exact .nothing _
  · dsimp only
    split
    · rename_i h; exact .move time h
    · rename_i h; exact .seek time h
    · exact .nothing _
    · exact .nothing _

theorem ownSetShowLength_does (length : Nat) : OwnerDoes s (.setShowLength length) (ownSetShowLength length s).1 := by
  unfold ownSetShowLength
  by_cases range : Config.showTimeMax < length
  · rw [if_pos range]
    exact .nothing _
  · rw [if_neg range]
    rw [Nat.not_lt] at range
    split
    · rename_i h; exact .lengthStopped length range h
    · rename_i h
      split_ifs with reached
      · exact .nothing _
      · exact .lengthPaused length range h (Nat.not_lt.1 reached)
    · exact .nothing _
    · exact .nothing _

/-! ### The cue store's owners -/

theorem ownPlaceCue_does (a : CueArgs) : OwnerDoes s (.placeCue a) (ownPlaceCue a s).1 := by
  unfold ownPlaceCue
  split
  · split
    · exact .nothing _
    · rename_i _ _ c sh _ _ _ p payload
      split_ifs with range new clash room late ready
      all_goals try exact .nothing _
      simp only [Bool.not_eq_true, Bool.not_eq_false', Option.isSome_eq_false_iff, Option.isNone_iff_eq_none,
        Nat.not_le] at *
      exact .place a c sh p payload range new clash room late ready
  · exact .nothing _

theorem ownAmendCue_does (a : AmendArgs) : OwnerDoes s (.amendCue a) (ownAmendCue a s).1 := by
  unfold ownAmendCue
  split_ifs with range
  · exact .nothing _
  · simp only [Bool.not_eq_true, Bool.not_eq_false'] at range
    split
    · exact .nothing _
    · rename_i c q found
      split
      · exact .nothing _
      · rename_i p payload
        dsimp only
        split
        · exact .nothing _
        · rename_i waiting
          split_ifs with clash late ready
          all_goals try exact .nothing _
          all_goals
            exact .amendWaiting a c q p range found payload waiting (by grind) (by grind) (by grind)
        all_goals
          rename_i taken
          split_ifs with inUse ready
          · exact .nothing _
          · exact .nothing _
          · exact .amendTaken a c q p range found payload (by simp [Cue.isTaken, taken]) (by simpa using inUse) (by grind)

theorem ownRetireCue_does (n : Nat) : OwnerDoes s (.retireCue n) (ownRetireCue n s).1 := by
  unfold ownRetireCue
  split_ifs
  · exact .nothing _
  · split
    · exact .nothing _
    · rename_i c q found; exact .retire n c q found

theorem ownRetirePassed_does (t : Nat) (channel : Option Nat) :
    OwnerDoes s (.retirePassed t channel) (ownRetirePassed t channel s).1 := by
  unfold ownRetirePassed
  split
  · exact .nothing _
  · rename_i c _
    split_ifs
    · exact .nothing _
    · exact .retirePassed t channel c

theorem ownSetStoreThreshold_does (n : Nat) : OwnerDoes s (.setStoreThreshold n) (ownSetStoreThreshold n s).1 := by
  unfold ownSetStoreThreshold
  split_ifs
  · exact .nothing _
  · exact .threshold n

/-! ### The water unit's owners -/

theorem ownSetGroup_does (a : GroupArgs) : OwnerDoes s (.setGroup a) (ownSetGroup a s).1 := by
  unfold ownSetGroup
  split
  · rename_i n pump valve wind _ pumpArg _ _
    dsimp only
    split_ifs with range present kind bound running openValve curve
    all_goals try exact .nothing _
    simp only [Bool.not_eq_true, Bool.not_eq_false'] at *
    exact .group a n pump valve wind (optFin?_eq_some.1 pumpArg) range present kind bound curve
  · exact .nothing _

theorem ownSetCurve_does (group : Nat) (curve : Vector CurvePoint 8) :
    OwnerDoes s (.setCurve group curve) (ownSetCurve group curve s).1 := by
  unfold ownSetCurve
  split
  · exact .nothing _
  · rename_i n _
    split_ifs with valid
    · exact .curve group curve n valid
    · exact .nothing _

theorem ownSetWindClass_does (k lo hi floor : Nat) :
    OwnerDoes s (.setWindClass k lo hi floor) (ownSetWindClass k lo hi floor s).1 := by
  unfold ownSetWindClass
  split
  · exact .nothing _
  · rename_i c _
    split_ifs
    · exact .nothing _
    · exact .windClass k lo hi floor c

theorem ownSetBudget_does (b : Nat) : OwnerDoes s (.setBudget b) (ownSetBudget b s).1 := by
  unfold ownSetBudget
  split_ifs
  · exact .nothing _
  · exact .budget b

/-! ### The field line controller's owners -/

theorem ownSetLine_does (n : Nat) (c : LineSettings) : OwnerDoes s (.setLine n c) (ownSetLine n c s).1 := by
  unfold ownSetLine
  split
  · exact .nothing _
  · rename_i l _
    split_ifs
    · exact .nothing _
    · refine .line n c l _ ?_
      split_ifs <;> rfl

theorem ownSetNode_does (node line address kind : Nat) :
    OwnerDoes s (.setNode node line address kind) (ownSetNode node line address kind s).1 := by
  unfold ownSetNode
  split
  · rename_i i l k _ _ _
    split_ifs with range absent free room
    all_goals try exact .nothing _
    exact .node i l k node line address kind (not_not.1 absent) (by simpa using free)
  · exact .nothing _

theorem ownDropNode_does (n : Nat) : OwnerDoes s (.dropNode n) (ownDropNode n s).1 := by
  unfold ownDropNode
  split
  · exact .nothing _
  · rename_i i _
    split_ifs with absent bound
    all_goals try exact .nothing _
    exact .dropNode n i absent (by simpa using bound)

theorem ownRejoinNode_does (n : Nat) : OwnerDoes s (.rejoinNode n) (ownRejoinNode n s).1 := by
  unfold ownRejoinNode
  split
  · exact .nothing _
  · rename_i i _
    split_ifs
    · exact .nothing _
    · exact .rejoin n i

/-! ### The light unit's owners -/

theorem sense?_ne_unset {x : Nat} {k : Sense} (h : sense? x = some k) : k ≠ .unset := by
  unfold sense? at h
  split at h <;> cases h <;> nofun

theorem ownSetOutputSense_does (n x : Nat) : OwnerDoes s (.setOutputSense n x) (ownSetOutputSense n x s).1 := by
  unfold ownSetOutputSense
  split
  · rename_i o k _ sense
    split_ifs with unset
    · exact .nothing _
    · exact .sense n x o k (not_not.1 unset) (sense?_ne_unset sense)
  · exact .nothing _

theorem ownSetHead_does (a : HeadArgs) : OwnerDoes s (.setHead a) (ownSetHead a s).1 := by
  unfold ownSetHead
  split
  · rename_i n outs resp _ _ _
    split_ifs with assigned distinct free
    all_goals try exact .nothing _
    exact .head a n outs resp (by simpa using distinct) (by simpa using free)
  · exact .nothing _

theorem ownSetSafeScene_does (l : Levels) : OwnerDoes s (.setSafeScene l) (ownSetSafeScene l s).1 := by
  unfold ownSetSafeScene
  split_ifs
  · exact .scene l
  · exact .nothing _

/-! ### The playback unit's owners -/

theorem ownDefineSegment_does (n first length : Nat) (loop : Option Nat) :
    OwnerDoes s (.defineSegment n first length loop) (ownDefineSegment n first length loop s).1 := by
  unfold ownDefineSegment
  split
  · exact .nothing _
  · rename_i k _
    split_ifs with range empty inside apart
    all_goals try exact .nothing _
    exact .define n first length loop k (by simpa using range) (not_not.1 empty) (Nat.not_lt.1 inside) (by simpa using apart)

theorem ownLoadFrames_does (n offset count : Nat) (frames : List Frame) :
    OwnerDoes s (.loadFrames n offset count frames) (ownLoadFrames n offset count frames s).1 := by
  unfold ownLoadFrames
  split
  · exact .nothing _
  · rename_i k _
    dsimp only
    by_cases range : count = 0 ∨ 256 < count ∨ Config.memoryFrames ≤ offset
    · rw [if_pos range]
      exact .nothing _
    · rw [if_neg range]
      split
      · exact .nothing _
      · exact .nothing _
      · rename_i filling
        split_ifs with room
        · exact .nothing _
        · exact .load n offset count frames k filling (Nat.not_lt.1 room)

theorem ownFinishSegment_does (n : Nat) : OwnerDoes s (.finishSegment n) (ownFinishSegment n s).1 := by
  unfold ownFinishSegment
  split
  · exact .nothing _
  · rename_i k _
    split
    · exact .nothing _
    · exact .nothing _
    · rename_i filling; exact .finish n k filling

theorem ownReopenSegment_does (n : Nat) : OwnerDoes s (.reopenSegment n) (ownReopenSegment n s).1 := by
  unfold ownReopenSegment
  split
  · exact .nothing _
  · rename_i k _
    split_ifs with empty free filling
    all_goals try exact .nothing _
    refine .reopen n k ?_ (by simpa using free)
    cases h : s.play.segments[k].state <;> simp_all

theorem ownDropSegment_does (n : Nat) : OwnerDoes s (.dropSegment n) (ownDropSegment n s).1 := by
  unfold ownDropSegment
  split
  · exact .nothing _
  · rename_i k _
    split_ifs with empty free
    all_goals try exact .nothing _
    exact .dropSegment n k (by simpa using free)

theorem ownSetAudio_does (m f : Nat) : OwnerDoes s (.setAudio m f) (ownSetAudio m f s).1 := by
  unfold ownSetAudio
  split
  · rename_i k x _ _
    split_ifs with refused same
    · exact .nothing _
    · exact .format m f x
    · exact .mode m f x k same (by tauto)
  · exact .nothing _

/-! ### The supervision unit's owners -/

theorem ownSetSupervision_does (c : SupSettings) : OwnerDoes s (.setSupervision c) (ownSetSupervision c s).1 := by
  unfold ownSetSupervision
  split_ifs
  · exact .supervision c
  · exact .nothing _

theorem ownClearSafe_does : OwnerDoes s .clearSafe (ownClearSafe s).1 := by
  unfold ownClearSafe
  split_ifs with h
  · exact .nothing _
  · rw [not_or, not_not] at h
    exact .clearSafe h.1 (by simpa using h.2)

end

/-! ### The reads -/

/-- Every owner that answers with `done` on the state it was given does nothing else. -/
theorem ownRead_does (s : State) :
    (∀ n, OwnerDoes s (.readCue n) (ownReadCue n s).1) ∧ (∀ n, OwnerDoes s (.readChannel n) (ownReadChannel n s).1) ∧
      (∀ n, OwnerDoes s (.readGroup n) (ownReadGroup n s).1) ∧ (∀ n, OwnerDoes s (.readNode n) (ownReadNode n s).1) ∧
      (∀ n, OwnerDoes s (.readLine n) (ownReadLine n s).1) ∧ (∀ n, OwnerDoes s (.readHead n) (ownReadHead n s).1) ∧
      ∀ n, OwnerDoes s (.readPlayback n) (ownReadPlayback n s).1 := by
  refine ⟨fun n => ?cue, fun n => ?channel, fun n => ?group, fun n => ?node, fun n => ?line, fun n => ?head,
    fun n => ?playback⟩
  case cue =>
    unfold ownReadCue
    split_ifs
    · exact .nothing _
    · split <;> exact .nothing _
  case channel => unfold ownReadChannel; split <;> exact .nothing _
  case group => unfold ownReadGroup; split <;> exact .nothing _
  case node => unfold ownReadNode; split <;> exact .nothing _
  case line => unfold ownReadLine; split <;> exact .nothing _
  case head => unfold ownReadHead; split <;> exact .nothing _
  case playback => unfold ownReadPlayback; split <;> exact .nothing _

/-- Every request's owner does what `OwnerDoes` says of it (R156). -/
theorem handle_does (r : Request) (s : State) : OwnerDoes s r (handle r s).1 := by
  obtain ⟨readCue, readChannel, readGroup, readNode, readLine, readHead, readPlayback⟩ := ownRead_does s
  cases r with
  | start => exact ownStart_does s
  | pause => exact ownPause_does s
  | resume => exact ownResume_does s
  | stop => exact ownStop_does s
  | seek t => exact ownSeek_does s t
  | setShowLength l => exact ownSetShowLength_does s l
  | placeCue a => exact ownPlaceCue_does s a
  | amendCue a => exact ownAmendCue_does s a
  | retireCue n => exact ownRetireCue_does s n
  | retirePassed t c => exact ownRetirePassed_does s t c
  | readCue n => exact readCue n
  | readChannel n => exact readChannel n
  | setStoreThreshold n => exact ownSetStoreThreshold_does s n
  | setGroup a => exact ownSetGroup_does s a
  | setCurve g c => exact ownSetCurve_does s g c
  | setWindClass k lo hi f => exact ownSetWindClass_does s k lo hi f
  | setBudget b => exact ownSetBudget_does s b
  | readGroup n => exact readGroup n
  | setLine l c => exact ownSetLine_does s l c
  | setNode n l a k => exact ownSetNode_does s n l a k
  | dropNode n => exact ownDropNode_does s n
  | rejoinNode n => exact ownRejoinNode_does s n
  | readNode n => exact readNode n
  | readLine n => exact readLine n
  | setOutputSense o x => exact ownSetOutputSense_does s o x
  | setHead a => exact ownSetHead_does s a
  | setSafeScene l => exact ownSetSafeScene_does s l
  | setMaster v => exact .master v
  | readHead n => exact readHead n
  | defineSegment k f l p => exact ownDefineSegment_does s k f l p
  | loadFrames k o n fs => exact ownLoadFrames_does s k o n fs
  | finishSegment k => exact ownFinishSegment_does s k
  | reopenSegment k => exact ownReopenSegment_does s k
  | dropSegment k => exact ownDropSegment_does s k
  | setAudio m f => exact ownSetAudio_does s m f
  | readPlayback n => exact readPlayback n
  | setSupervision c => exact ownSetSupervision_does s c
  | forceSafe => exact .forceSafe
  | clearSafe => exact ownClearSafe_does s
  | clearAttention k => exact .clearAttention k
  | setAttentionMask k => exact .attentionMask k
  | restart => exact .restart
  | readClock => exact .nothing _
  | readStore => exact .nothing _
  | readSupervision => exact .nothing _
  | readAttention => exact .nothing _
  | identify => exact .nothing _

/-! ### The events -/

/-- The supervision record but for the measurements and the levels at the pins. -/
def SameSupervision (u v : Supervision) : Prop :=
  u.estop.active = v.estop.active ∧ u.low.active = v.low.active ∧ u.lowLow.active = v.lowLow.active ∧
    u.settings = v.settings ∧ u.causes = v.causes ∧ u.seen = v.seen

/-- What an event that is no request can do. -/
inductive EventDoes (s : State) : Instr → State → Prop
  | nothing (i : Instr) : EventDoes s i s
  | link (i : Instr) (x : Link) (aside : LinkAside s x) : EventDoes s i (s.setLink x)
  | written (first : Nat) (frames : List Frame) (writing : s.link.state = .handling (.writing first frames))
      (fit : writesExist first frames = true) : EventDoes s .loadFramesWritten (finishLoad first frames s)
  | reset (cause : PinResetCause) : EventDoes s (.pinReset cause) (pinReset cause s)
  | audio (exist : voicesRead s = true → s.play.readsExist s.clock.showTime = true) : EventDoes s .audioFrame (audioFrame s)
  | tick : EventDoes s .showTick (showTick s)
  | segmentEnd (v : VoiceId) : EventDoes s (.segmentEnd v) (segmentEnd v s)
  | fadeEnd : EventDoes s .safeFadeEnd (safeFadeEnd s)
  | clockLoss : EventDoes s .wordClockLossExpiry (wordClockLoss s)
  | clockEdge (follow : s.clock.mode = .follow) : EventDoes s .wordClockEdge (wordClockEdge s)
  | field (i : Instr) (t : State) (reach : TurnReach s t) : EventDoes s i t
  | measured (i : Instr) (u : Supervision) (same : SameSupervision u s.sup) : EventDoes s i (s.setSup u)
  | accepted (i : Instr) (k : LevelInput) (u : Supervision) (same : SameSupervision u s.sup) :
      EventDoes s i (acceptLevel k (s.setSup u))
  | estop : EventDoes s .estopFilterExpiry (estopFilterExpiry s)
  | silence : EventDoes s .silenceTimerExpiry (silenceTimerExpiry s)
  | light : EventDoes s .lightUpdate (lightUpdate s)
  | pwm : EventDoes s .pwmFrameBoundary (pwmFrameBoundary s)

/-- The change of a level at a pin accepts nothing (R107, R108). -/
theorem FilteredInput.change_active (f : FilteredInput) (high : Bool) (now : Nat) : (f.change high now).active = f.active := by
  unfold FilteredInput.change
  split_ifs <;> rfl

theorem sameSupervision_setInput (u : Supervision) (i : LevelInput) {f : FilteredInput} (h : f.active = (u.input i).active) :
    SameSupervision (u.setInput i f) u := by
  cases i <;> simp_all [SameSupervision, Supervision.setInput, Supervision.input]

theorem levelInputChange_does (k : LevelInput) (high : Bool) (s : State) :
    EventDoes s (.levelInputChange k high) (levelInputChange k high s) := by
  have same := sameSupervision_setInput s.sup k (FilteredInput.change_active (s.sup.input k) high s.now)
  unfold levelInputChange
  dsimp only
  split_ifs
  · exact .accepted _ k _ same
  · exact .measured _ _ same

theorem SameSupervision.refl (u : Supervision) : SameSupervision u u := ⟨rfl, rfl, rfl, rfl, rfl, rfl⟩

/-! ### The step -/

/-- The command brings the request, as its row or in the bytes of a SEND. -/
def Instr.Brings (i : Instr) (r : Request) : Prop :=
  i.request? = some r ∨ ∃ bytes, i = .sendFrame bytes ∧ sentRequest bytes = some r

/-- What a command can do: an owner acts on a request that the link takes, or what an event does. -/
inductive CommandDoes (s : State) (i : Instr) : State → Prop
  | owner (r : Request) (bytes : List Byte) (due : Bool) (free : LinkFree s) (brings : Instr.Brings i r) :
      CommandDoes s i (setRowDue due (settle (handle r) (s.setLink (takenLink bytes r s))))
  | event (t : State) (does : EventDoes s i t) : CommandDoes s i t

theorem settle_setRowDue_false {own : State → Owned} {s : State} (h : (own s).1.linkHeld = s.linkHeld)
    (hd : s.link.rowDue = false) : settle own s = setRowDue false (settle own s) := by
  have held : (settle own s).linkHeld = s.linkHeld := (settle_linkHeld own s).trans h
  have due : (settle own s).link.rowDue = false := (congrArg (·.2.2.2) held).trans hd
  rw [setRowDue, ← due]
  rfl

/-- Every command whose meaning leaves a next state does what `CommandDoes` says. -/
theorem exec_does {i : Instr} {s t : State} (h : exec i s = .next t) : CommandDoes s i t := by
  cases hr : i.request? with
  | some r =>
    rw [exec_request hr] at h
    cases h
    rcases issue_cases r (handle r) s with ⟨x, hx, e⟩ | ⟨hf, e⟩
    · rw [e]; exact .event _ (.link i x hx)
    · rw [e, settle_setRowDue_false (handle_linkHeld r _) rfl]
      exact .owner r _ false hf (.inl hr)
  | none =>
    cases i
    case sendFrame bytes =>
      cases h
      rcases sendFrame_cases bytes s with ⟨x, hx, e⟩ | ⟨hf, r, sent, e⟩
      · rw [e]; exact .event _ (.link _ x hx)
      · rw [e]; exact .owner r bytes true hf (.inr ⟨bytes, rfl, sent⟩)
    case fetchFrame n =>
      cases h
      obtain ⟨x, hx, e⟩ := fetchFrame_aside n s
      rw [e]; exact .event _ (.link _ x hx)
    case requestCompletion =>
      cases h
      obtain ⟨x, hx, e⟩ := placeAnswer_aside s
      rw [requestCompletion, e]; exact .event _ (.link _ x hx)
    case loadFramesWritten =>
      refine .event _ ?_
      change execLoadFramesWritten s = _ at h
      unfold execLoadFramesWritten at h
      split at h
      · rename_i first frames writing
        split_ifs at h with fit
        cases h
        exact .written first frames writing fit
      · cases h; exact .nothing _
    case audioFrame =>
      refine .event _ ?_
      change execAudioFrame s = _ at h
      unfold execAudioFrame at h
      split_ifs at h with exist
      cases h
      exact .audio (by simpa using exist)
    case wordClockEdge =>
      refine .event _ ?_
      change execWordClockEdge s = _ at h
      unfold execWordClockEdge at h
      split_ifs at h with follow
      · cases h; exact .clockEdge follow
      · cases h; exact .nothing _
    case disregardedFrame bytes => cases h; exact .event _ (.link _ _ (linkAside_miso s _ s.link.rowDue))
    case pinReset cause => cases h; exact .event _ (.reset cause)
    case showTick => cases h; exact .event _ .tick
    case segmentEnd v => cases h; exact .event _ (.segmentEnd v)
    case safeFadeEnd => cases h; exact .event _ .fadeEnd
    case wordClockLossExpiry => cases h; exact .event _ .clockLoss
    case roundTimerExpiry l => cases h; exact .event _ (.field _ _ (reach_roundTimerExpiry l s).turn)
    case attemptStart l => cases h; exact .event _ (.field _ _ (reach_attemptStart l s).turn)
    case replyWaitExpiry l => cases h; exact .event _ (.field _ _ (turn_replyWaitExpiry l s))
    case answerEnd l chars => cases h; exact .event _ (.field _ _ (turn_answerEnd l chars s))
    case answerBegin l => cases h; exact .event _ (.field _ _ (reach_answerBegin l s).turn)
    case anemometerPulse => cases h; exact .event _ (.measured _ _ ⟨rfl, rfl, rfl, rfl, rfl, rfl⟩)
    case gateEnd => cases h; exact .event _ (.measured _ _ ⟨rfl, rfl, rfl, rfl, rfl, rfl⟩)
    case levelInputChange k high => cases h; exact .event _ (levelInputChange_does k high s)
    case debounceExpiry k => cases h; exact .event _ (.accepted _ k s.sup (.refl _))
    case estopInputChange high =>
      cases h
      exact .event _ (.measured _ _ ⟨FilteredInput.change_active _ _ _, rfl, rfl, rfl, rfl, rfl⟩)
    case estopFilterExpiry => cases h; exact .event _ .estop
    case silenceTimerExpiry => cases h; exact .event _ .silence
    case lightUpdate => cases h; exact .event _ .light
    case pwmFrameBoundary => cases h; exact .event _ .pwm
    all_goals cases hr

/-! ### Laws of the blocks -/

/-- The owner's action and its answer: the blocks but the link are what the owner leaves. -/
theorem settle_blocks (own : State → Owned) (s : State) : ∃ x, settle own s = (own s).1.setLink x := by
  unfold settle
  rcases own s with ⟨t, _ | _⟩
  · exact ⟨t.link, rfl⟩
  · exact ⟨_, rfl⟩

/-- A law that the link record has no part in is kept by every command, where every owner and every event keeps it. -/
theorem exec_keeps {P : State → Prop} (link : ∀ s x, P s → P (s.setLink x))
    (owner : ∀ r s t, OwnerDoes s r t → P s → P t) (event : ∀ i s t, EventDoes s i t → P s → P t)
    {i : Instr} {s t : State} (h : exec i s = .next t) (hs : P s) : P t := by
  cases exec_does h with
  | owner r bytes due free brings =>
    obtain ⟨x, e⟩ := settle_blocks (handle r) (s.setLink (takenLink bytes r s))
    rw [e]
    exact link _ _ (link _ x (owner r _ _ (handle_does r _) (link s _ hs)))
  | event t does => exact event i s t does hs

/-- A law that every command keeps, and that the queue has no part in, is kept by every step. -/
theorem step_keeps {P : State → Prop} (queue : ∀ s q, P s → P (s.withQueue q))
    (command : ∀ i s t, exec i s = .next t → P s → P t) {s t : State} (hs : P s) (h : step s = .next t) : P t := by
  unfold step at h
  split at h
  · cases h; exact hs
  · rename_i c rest _
    exact command c _ t h (queue s rest hs)

end Sys2Proof.Machine
end

section

/-! # What a safe cause reaches

A cause that enters or leaves the cause set, wherever that happens, changes the cause sets, and at most it enters SAFE. Of
the clock, the lights and the voices it leaves everything but what entering SAFE writes, and of the link everything but the
pending set, which keeps its causes. Every event of a field line and every filtered input is bounded so. -/

namespace Sys2Proof.Machine

open Sys2Proof.Safety

/-! ### The bound -/

/-- The clock record once SAFE is entered (R38). -/
def Clock.enteredSafe (c : Clock) : Clock := { c with safeOrigin := c.state, state := .safe }

/-- SAFE has been entered, and nothing else of the clock, the lights and the voices has changed (R38, R126, R149). -/
def EntersSafe (s t : State) : Prop :=
  s.clock.state ≠ .safe ∧ t.clock = s.clock.enteredSafe ∧ t.lights = { s.lights with blend := t.lights.blend } ∧
    (∃ fade, t.play = s.play.beginSafeFade fade) ∧ Attention.safeEntered.memberOf t.link.pending = true

/-- Nothing but the water unit, the field lines, the supervision unit and the pending causes has changed, and what
entering SAFE changes. -/
structure SafeAtMost (s t : State) : Prop where
  store : t.store = s.store
  channels : t.channels = s.channels
  now : t.now = s.now
  resets : t.resets = s.resets
  queue : t.pending = s.pending
  link : t.link = { s.link with pending := t.link.pending }
  kept : s.link.pending &&& ~~~t.link.pending = 0
  entry : (t.clock = s.clock ∧ t.lights = s.lights ∧ t.play = s.play) ∨ EntersSafe s t

theorem pendingKept_trans {x y z : BitVec 10} (h : x &&& ~~~y = 0) (h' : y &&& ~~~z = 0) : x &&& ~~~z = 0 := by
  ext i hi
  have e := congrArg (·[i]) h
  have e' := congrArg (·[i]) h'
  simp at e e' ⊢
  grind

theorem memberOf_of_kept {c : Attention} {x y : BitVec 10} (h : x &&& ~~~y = 0) (hx : c.memberOf x = true) :
    c.memberOf y = true := by
  have hi : c.index < 10 := by cases c <;> decide
  have e := congrArg (·.getLsbD c.index) h
  simp [hi] at e
  exact e hx

theorem SafeAtMost.refl (s : State) : SafeAtMost s s :=
  ⟨rfl, rfl, rfl, rfl, rfl, rfl, pendingKept_self _, .inl ⟨rfl, rfl, rfl⟩⟩

theorem SafeAtMost.trans {s t u : State} (h : SafeAtMost s t) (h' : SafeAtMost t u) : SafeAtMost s u := by
  refine ⟨h'.store.trans h.store, h'.channels.trans h.channels, h'.now.trans h.now, h'.resets.trans h.resets,
    h'.queue.trans h.queue, ?link, pendingKept_trans h.kept h'.kept, ?entry⟩
  case link => rw [h'.link, h.link]
  case entry =>
    rcases h.entry with ⟨clock, lights, play⟩ | ⟨out, clock, lights, play, pending⟩
    · rcases h'.entry with ⟨clock', lights', play'⟩ | ⟨out', clock', lights', ⟨fade, play'⟩, pending'⟩
      · exact .inl ⟨clock'.trans clock, lights'.trans lights, play'.trans play⟩
      · rw [clock] at out' clock'
        rw [lights] at lights'
        rw [play] at play'
        exact .inr ⟨out', clock', lights', ⟨fade, play'⟩, pending'⟩
    · rcases h'.entry with ⟨clock', lights', play'⟩ | ⟨out', _⟩
      · refine .inr ⟨out, clock'.trans clock, by rw [lights', ← lights], ?_, memberOf_of_kept h'.kept pending⟩
        obtain ⟨fade, play⟩ := play
        exact ⟨fade, play'.trans play⟩
      · rw [clock] at out'
        exact absurd rfl out'

/-! ### What is bounded -/

/-- A state that differs in the water unit, the field lines and the supervision record alone. -/
theorem safeAtMost_of_eq {s t : State}
    (h : t = { s with water := t.water, fieldLines := t.fieldLines, sup := t.sup }) : SafeAtMost s t := by
  rw [h]
  exact ⟨rfl, rfl, rfl, rfl, rfl, rfl, pendingKept_self _, .inl ⟨rfl, rfl, rfl⟩⟩

theorem safeAtMost_raise (c : Attention) (s : State) : SafeAtMost s (raise c s) :=
  ⟨rfl, rfl, rfl, rfl, rfl, rfl, pendingKept_or _ _, .inl ⟨rfl, rfl, rfl⟩⟩

theorem safeAtMost_enterSafe {s : State} (h : s.clock.state ≠ .safe) : SafeAtMost s (enterSafe s) := by
  refine ⟨rfl, rfl, rfl, rfl, rfl, rfl, pendingKept_or _ _, .inr ⟨h, rfl, rfl, ⟨_, rfl⟩, ?_⟩⟩
  show Attention.safeEntered.memberOf (raise .safeEntered _).link.pending = true
  rw [memberOf_raise]
  simp

theorem safeAtMost_addCause (c : SafeCause) (s : State) : SafeAtMost s (addCause c s) := by
  rcases addCause_cases c s with ⟨-, e⟩ | ⟨-, -, e⟩ | ⟨-, out, e⟩ <;> rw [e]
  · exact .refl s
  · exact safeAtMost_of_eq rfl
  · exact SafeAtMost.trans (t := s.setSup { s.sup with causes := s.sup.causes ||| c.bit }) (safeAtMost_of_eq rfl)
      (safeAtMost_enterSafe out)

theorem safeAtMost_dropCause (c : SafeCause) (s : State) : SafeAtMost s (dropCause c s) := safeAtMost_of_eq rfl

theorem safeAtMost_setCondition (c : SafeCause) (b : Bool) (s : State) : SafeAtMost s (setCondition c b s) := by
  unfold setCondition
  split_ifs
  · exact safeAtMost_addCause c s
  · exact safeAtMost_dropCause c s

theorem safeAtMost_evalCritical (s : State) : SafeAtMost s (evalCritical s) := safeAtMost_setCondition _ _ s

theorem safeAtMost_updatePumpGroup (i : Fin 40) (f : Group → Group) (s : State) : SafeAtMost s (updatePumpGroup i f s) := by
  unfold updatePumpGroup
  split <;> exact safeAtMost_of_eq rfl

theorem safeAtMost_followLost (i : Fin 40) (k : NodeState) (s : State) : SafeAtMost s (followLost i k s) := by
  unfold followLost
  split
  · exact safeAtMost_updatePumpGroup i _ s
  · exact safeAtMost_updatePumpGroup i _ s
  · exact .refl s

/-- Writing a node's record writes it alone, or works out CRITICAL_LOST once LOST has followed (R77, R79, R110). -/
theorem writeNode_cases (i : Fin 40) (n : Node) (s : State) :
    (n.state = (s.node i).state ∧ writeNode i n s = setNodeRec i n s) ∨
      (n.state ≠ (s.node i).state ∧ writeNode i n s = evalCritical (followLost i n.state (setNodeRec i n s))) := by
  unfold writeNode
  dsimp only
  split_ifs with h
  · exact .inl ⟨h, rfl⟩
  · exact .inr ⟨h, rfl⟩

theorem safeAtMost_writeNode (i : Fin 40) (n : Node) (s : State) : SafeAtMost s (writeNode i n s) := by
  have node : SafeAtMost s (setNodeRec i n s) := safeAtMost_of_eq rfl
  rcases writeNode_cases i n s with ⟨-, e⟩ | ⟨-, e⟩ <;> rw [e]
  · exact node
  · exact (node.trans (safeAtMost_followLost i _ _)).trans (safeAtMost_evalCritical _)

theorem safeAtMost_fieldWrite {s t : State} (h : FieldWrite s t) : SafeAtMost s t := by
  cases h with
  | line l r _ _ => exact safeAtMost_of_eq rfl
  | node i n _ _ _ => exact safeAtMost_of_eq rfl
  | leave i n _ _ _ _ _ => exact safeAtMost_writeNode i n s
  | group k g _ _ _ => exact safeAtMost_of_eq rfl
  | raise c _ => exact safeAtMost_raise c s

theorem safeAtMost_fieldReach {s t : State} (h : FieldReach s t) : SafeAtMost s t :=
  h.keeps (P := SafeAtMost s) (fun _ _ w k => k.trans (safeAtMost_fieldWrite w)) (.refl s)

theorem safeAtMost_turnReach {s t : State} (h : TurnReach s t) : SafeAtMost s t :=
  h.keeps (P := SafeAtMost s) (fun _ _ w k => k.trans (safeAtMost_fieldWrite w))
    (fun i n u _ _ _ k => k.trans (safeAtMost_writeNode i n u)) (.refl s)

theorem safeAtMost_setSup (u : Supervision) (s : State) : SafeAtMost s (s.setSup u) := safeAtMost_of_eq rfl

theorem safeAtMost_acceptLevel (i : LevelInput) (s : State) : SafeAtMost s (acceptLevel i s) := by
  unfold acceptLevel
  dsimp only
  split_ifs
  · split
    · exact safeAtMost_setSup _ s
    · exact (safeAtMost_setSup _ s).trans (safeAtMost_setCondition _ _ _)
  · exact .refl s

theorem safeAtMost_estopFilterExpiry (s : State) : SafeAtMost s (estopFilterExpiry s) := by
  unfold estopFilterExpiry
  dsimp only
  split_ifs
  · exact (safeAtMost_setSup _ s).trans (safeAtMost_setCondition _ _ _)
  · exact .refl s

/-- The silence timer stops, and then it is as for any cause. -/
theorem silenceTimerExpiry_bound (s : State) :
    ∃ since, SafeAtMost (s.setLink { s.link with silenceSince := since }) (silenceTimerExpiry s) := by
  rcases silenceTimerExpiry_cases s with ⟨_, -, -, e⟩ | ⟨-, e⟩ <;> rw [e]
  · exact ⟨none, safeAtMost_addCause _ _⟩
  · exact ⟨s.link.silenceSince, .refl s⟩

theorem safeAtMost_acceptIfPassed (i : LevelInput) (s : State) : SafeAtMost s (acceptIfPassed i s) := by
  unfold acceptIfPassed
  split_ifs
  · exact safeAtMost_acceptLevel i s
  · exact .refl s

/-- SET SUPERVISION restarts the silence timer, and then accepts levels at most (R107, R109, R116). -/
theorem applySupervision_bound (c : SupSettings) (s : State) :
    ∃ since, SafeAtMost (s.setLink { s.link with silenceSince := since }) (applySupervision c s) := by
  refine ⟨_, (safeAtMost_of_eq rfl : SafeAtMost _ (restartSilence (s.setSup { s.sup with settings := c }))).trans ?_⟩
  unfold applySupervision
  dsimp only
  split_ifs
  · exact (safeAtMost_acceptIfPassed _ _).trans (safeAtMost_acceptIfPassed _ _)
  · exact .refl _

/-- An accepted SET GROUP changes the dispatch times of one channel, and works out CRITICAL_LOST (R23, R110). -/
theorem acceptGroup_bound (n : Fin 32) (g : Group) (s : State) :
    ∃ st, SafeAtMost (s.setStore st) (acceptGroup n g s) ∧
      (st = s.store ∧ g.lead = s.water.groups[n].lead ∨
        g.lead ≠ s.water.groups[n].lead ∧
          st = s.store.setTimeline (jetChannel n) (recomputeDispatch g.lead s.store.timelines[jetChannel n])) := by
  unfold acceptGroup
  dsimp only
  by_cases lead : g.lead = s.water.groups[n].lead
  · refine ⟨s.store, ?_, .inl ⟨rfl, lead⟩⟩
    have group : SafeAtMost (s.setStore s.store) (setGroupRec n g s) := safeAtMost_of_eq rfl
    simp only [ne_eq, lead, not_true_eq_false, if_false]
    split_ifs
    · exact group.trans (safeAtMost_evalCritical _)
    · exact group
  · refine ⟨_, ?_, .inr ⟨lead, rfl⟩⟩
    have group : SafeAtMost
        (s.setStore (s.store.setTimeline (jetChannel n) (recomputeDispatch g.lead s.store.timelines[jetChannel n])))
        ((setGroupRec n g s).setStore
          (s.store.setTimeline (jetChannel n) (recomputeDispatch g.lead s.store.timelines[jetChannel n]))) :=
      safeAtMost_of_eq rfl
    simp only [ne_eq, lead, not_false_eq_true, if_true]
    split_ifs
    · exact group.trans (safeAtMost_evalCritical _)
    · exact group

/-- A dropped node's record is written, and then the round may go on (R100). -/
theorem safeAtMost_dropNode (i : Fin 40) (s : State) : SafeAtMost s (dropNode i s) := by
  have node := safeAtMost_writeNode i Node.absentRecord s
  unfold dropNode
  dsimp only
  split
  · exact node
  · split_ifs
    · exact node
    · exact node.trans (safeAtMost_fieldReach (reach_continueRound _ _ _))
    · exact node.trans (safeAtMost_of_eq rfl)

/-- A pin reset: the records, and then the inputs found active (R118). -/
theorem pinReset_bound (cause : PinResetCause) (s : State) : SafeAtMost (pinResetRecords cause s) (pinReset cause s) := by
  have one : ∀ (b : Bool) (c : SafeCause) (u : State), SafeAtMost u (if b then addCause c u else u) := by
    intro b c u
    split_ifs
    · exact safeAtMost_addCause c u
    · exact .refl u
  exact (one _ .eStop _).trans (one _ .lowLow _)

end Sys2Proof.Machine
end

section

/-! # The blocks that an operation writes

One equation per operation of the cue store, the clock, the playback unit and the supervision unit: the blocks it names are
those it may write, and every other block is as it was. -/

namespace Sys2Proof.Machine

open Sys2Proof.Safety

section
variable (s : State)

theorem placeOn_frame (c : Fin 49) (q : Cue) :
    placeOn c q s = { s with store := (placeOn c q s).store, link := (placeOn c q s).link } := by
  unfold placeOn noticeLow
  split_ifs <;> rfl

theorem amendWaiting_frame (a : AmendArgs) (c : Fin 49) (q r : Cue) :
    amendWaiting a c q r s = { s with store := (amendWaiting a c q r s).store } := by
  unfold amendWaiting
  dsimp only
  split_ifs <;> rfl

theorem amendTaken_frame (c : Fin 49) (q r : Cue) : amendTaken c q r s =
    { s with store := (amendTaken c q r s).store, channels := (amendTaken c q r s).channels, play := (amendTaken c q r s).play } := by
  unfold amendTaken
  dsimp only
  split_ifs <;> rfl

theorem retireOn_frame (c : Fin 49) (q : Cue) : retireOn c q s =
    { s with store := (retireOn c q s).store, channels := (retireOn c q s).channels, play := (retireOn c q s).play } := by
  unfold retireOn
  dsimp only
  split_ifs <;> rfl

theorem retirePassedOn_frame (t : Nat) (c : Option (Fin 49)) :
    retirePassedOn t c s = { s with store := (retirePassedOn t c s).store } := by
  rw [retirePassedOn]
  generalize ({ s.store with timelines := _ } : Store) = x
  rfl

theorem changeMode_frame (m : ClockMode) :
    changeMode m s = { s with clock := (changeMode m s).clock, sup := (changeMode m s).sup } := by
  cases m <;> rfl

theorem restartClock_frame :
    restartClock s = { s with clock := (restartClock s).clock, play := (restartClock s).play } := by
  unfold restartClock
  split_ifs <;> rfl

/-- Entering SAFE at most: neither the cue store, nor the channels, nor the water unit, nor a field line has moved. -/
def OnlySafe (s t : State) : Prop :=
  t = { s with clock := t.clock, sup := t.sup, lights := t.lights, play := t.play, link := t.link }

theorem OnlySafe.trans {s t u : State} (h : OnlySafe s t) (h' : OnlySafe t u) : OnlySafe s u := by
  rw [OnlySafe] at *
  rw [h', h]

theorem onlySafe_addCause (c : SafeCause) : OnlySafe s (addCause c s) := by
  rcases addCause_cases c s with ⟨-, e⟩ | ⟨-, -, e⟩ | ⟨-, -, e⟩ <;> rw [e] <;> rfl

theorem onlySafe_setCondition (c : SafeCause) (b : Bool) : OnlySafe s (setCondition c b s) := by
  cases b
  · rfl
  · exact onlySafe_addCause s c

theorem onlySafe_acceptLevel (i : LevelInput) : OnlySafe s (acceptLevel i s) := by
  unfold acceptLevel
  dsimp only
  split_ifs
  · cases i
    · rfl
    · exact OnlySafe.trans (by rfl) (onlySafe_setCondition (s.setSup _) _ _)
  · rfl

theorem onlySafe_acceptIfPassed (i : LevelInput) : OnlySafe s (acceptIfPassed i s) := by
  unfold acceptIfPassed
  split_ifs
  · exact onlySafe_acceptLevel s i
  · rfl

theorem onlySafe_applySupervision (c : SupSettings) : OnlySafe s (applySupervision c s) := by
  have settings : OnlySafe s (restartSilence (s.setSup { s.sup with settings := c })) := rfl
  unfold applySupervision
  dsimp only
  split_ifs
  · exact (settings.trans (onlySafe_acceptIfPassed _ _)).trans (onlySafe_acceptIfPassed _ _)
  · exact settings

theorem onlySafe_estopFilterExpiry : OnlySafe s (estopFilterExpiry s) := by
  unfold estopFilterExpiry
  dsimp only
  split_ifs
  · exact OnlySafe.trans (by rfl) (onlySafe_setCondition (s.setSup _) _ _)
  · rfl

theorem onlySafe_silenceTimerExpiry : OnlySafe s (silenceTimerExpiry s) := by
  rcases silenceTimerExpiry_cases s with ⟨_, -, -, e⟩ | ⟨-, e⟩ <;> rw [e]
  · exact OnlySafe.trans (by rfl) (onlySafe_addCause (s.setLink _) _)
  · rfl

theorem onlySafe_wordClockLoss : OnlySafe s (wordClockLoss s) := by
  unfold wordClockLoss
  split_ifs
  · exact OnlySafe.trans (by rfl) (onlySafe_addCause (raise .clockLost (s.setClock _)) _)
  · rfl

theorem buildFrame_frame : buildFrame s = { s with play := (buildFrame s).play } := by
  unfold buildFrame
  split <;> rfl

theorem countFrame_frame : countFrame s = { s with clock := (countFrame s).clock } := by
  unfold countFrame
  split_ifs <;> rfl

theorem audioFrame_frame : audioFrame s =
    { s with clock := (audioFrame s).clock, sup := (audioFrame s).sup, play := (audioFrame s).play } := by
  unfold audioFrame
  rw [countFrame_frame, buildFrame_frame]
  split_ifs <;> rfl

theorem takeDue_frame (t : Nat) : takeDue t s =
    { s with store := (takeDue t s).store, channels := (takeDue t s).channels, play := (takeDue t s).play,
             link := (takeDue t s).link } := by
  unfold takeDue
  dsimp only
  generalize (Vector.ofFn _ : Vector (List Cue) 49) = tl
  generalize (Vector.ofFn _ : Vector ChannelRec 49) = recs
  cases actingCue t s.store.timelines[programme] <;> split_ifs <;> rfl

theorem recordCompletions_frame (t : Nat) : recordCompletions t s = { s with store := (recordCompletions t s).store } := by
  unfold recordCompletions
  generalize ({ s.store with timelines := _ } : Store) = x
  rfl

theorem advanceShow_frame : advanceShow s =
    { s with store := (advanceShow s).store, clock := (advanceShow s).clock, channels := (advanceShow s).channels,
             play := (advanceShow s).play, link := (advanceShow s).link } := by
  unfold advanceShow
  dsimp only
  split_ifs
  · rw [recordCompletions_frame]
    rfl
  · rw [takeDue_frame]
    rfl

theorem showTick_frame : showTick s =
    { s with store := (showTick s).store, clock := (showTick s).clock, channels := (showTick s).channels,
             play := (showTick s).play, link := (showTick s).link } := by
  unfold showTick
  dsimp only
  split_ifs
  · rfl
  · rw [advanceShow_frame]
    rfl
  · rfl

theorem segmentEnd_frame (i : VoiceId) : segmentEnd i s = { s with play := (segmentEnd i s).play } := by
  rcases segmentEnd_cases i s with ⟨_, _, _, _, _, e⟩ | e <;> rw [e]
  rfl

theorem safeFadeEnd_frame : safeFadeEnd s = { s with play := (safeFadeEnd s).play } := by
  unfold safeFadeEnd
  split_ifs <;> rfl

theorem lightUpdate_frame : lightUpdate s = { s with lights := (lightUpdate s).lights, now := s.now + 1 } := by
  unfold lightUpdate
  dsimp only
  generalize ({ (s.setLights _).lights with outputs := _ } : Lights) = x
  rfl

theorem pwmFrameBoundary_frame : pwmFrameBoundary s = { s with lights := (pwmFrameBoundary s).lights } := by
  unfold pwmFrameBoundary
  generalize ({ s.lights with outputs := _ } : Lights) = x
  rfl

theorem pinReset_frame (cause : PinResetCause) : OnlySafe (pinResetRecords cause s) (pinReset cause s) := by
  have one : ∀ (b : Bool) (c : SafeCause) (u : State), OnlySafe u (if b then addCause c u else u) := by
    intro b c u
    split_ifs
    · exact onlySafe_addCause u c
    · rfl
  exact (one _ .eStop _).trans (one _ .lowLow _)

end

end Sys2Proof.Machine
end

section

/-! # The show clock's law (R25, R27)

Each event and each owner that writes the clock record is looked at once; entering SAFE keeps the law because the clock's
state is then never the safe origin SAFE, and every other command leaves the record as it was. -/

namespace Sys2Proof.Machine

open Sys2Proof.Safety

/-! ### What the clock's operations write -/

theorem doReturnWork_clock (s : State) : (doReturnWork s).clock = { s.clock with returnPending := false } := by
  unfold doReturnWork
  split_ifs with h
  · rfl
  · have : s.clock.returnPending = false := by simpa using h
    rw [← this]

theorem setRunning_clock (s : State) :
    (setRunning s).clock = { s.clock with state := .running, framePhase := 0, ticksDue := 0 } := rfl

theorem wordClockEdge_clock (s : State) : (wordClockEdge s).clock = { s.clock with lossTimerRunning := true } := rfl

theorem countFrame_clock (s : State) : (countFrame s).clock =
    if s.clock.framePhase + 1 = Config.framesPerTick then
      { s.clock with framePhase := 0, ticksDue := s.clock.ticksDue + 1 }
    else { s.clock with framePhase := s.clock.framePhase + 1 } := by
  unfold countFrame
  split_ifs <;> rfl

theorem audioFrame_clock (s : State) : ∃ running, (audioFrame s).clock =
    (countFrame (s.setClock { s.clock with lossTimerRunning := running })).clock := by
  unfold audioFrame
  split_ifs
  · exact ⟨true, by simp [countFrame_clock, wordClockEdge_clock]; rfl⟩
  · exact ⟨s.clock.lossTimerRunning, by simp [countFrame_clock]; rfl⟩

theorem advanceShow_clock (s : State) : (advanceShow s).clock =
    if s.clock.showTime + 1 = s.clock.showLength then
      { s.clock with showTime := s.clock.showTime + 1, state := .paused }
    else { s.clock with showTime := s.clock.showTime + 1 } := by
  unfold advanceShow
  dsimp only
  split_ifs <;> simp

theorem showTick_clock (s : State) : ∃ due, (showTick s).clock = { s.clock with ticksDue := due } ∨
    (s.clock.state = .running ∧ (showTick s).clock = (advanceShow (s.setClock { s.clock with ticksDue := due })).clock) := by
  unfold showTick
  split_ifs with none_due running
  · exact ⟨s.clock.ticksDue, .inl rfl⟩
  · exact ⟨_, .inr ⟨running, rfl⟩⟩
  · exact ⟨_, .inl rfl⟩

theorem changeMode_clock (m : ClockMode) (s : State) : (changeMode m s).clock =
    { s.clock with mode := m, lossTimerRunning := decide (m = .follow) } := by
  cases m <;> rfl

theorem restartClock_clock (s : State) :
    (restartClock s).clock = { s.clock with state := .stopped } ∨
      (restartClock s).clock = { s.clock with state := .stopped, returnPending := true } ∨
      (s.clock.state = .safe ∧ (restartClock s).clock = { s.clock with safeOrigin := .stopped, returnPending := true }) := by
  unfold restartClock
  split_ifs with h
  · exact .inl rfl
  · exact .inr (.inr ⟨not_not.1 h, rfl⟩)
  · exact .inr (.inl rfl)

theorem segmentEnd_clock (i : VoiceId) (s : State) : (segmentEnd i s).clock = s.clock := by
  rcases segmentEnd_cases i s with ⟨_, _, _, _, _, e⟩ | e <;> rw [e]
  rfl

theorem safeFadeEnd_clock (s : State) : (safeFadeEnd s).clock = s.clock := by
  unfold safeFadeEnd
  split_ifs <;> rfl

theorem retirePassedOn_clock (t : Nat) (c : Option (Fin 49)) (s : State) : (retirePassedOn t c s).clock = s.clock := by
  rw [retirePassedOn, State.setStore_clock]

theorem lightUpdate_clock (s : State) : (lightUpdate s).clock = s.clock := by
  simp only [lightUpdate, State.setNow_clock, State.setLights_clock]

theorem pwmFrameBoundary_clock (s : State) : (pwmFrameBoundary s).clock = s.clock := by
  rw [pwmFrameBoundary, State.setLights_clock]

/-! ### The law -/

section
variable {c : Clock}

/-- A field of the clock record that the law does not speak of. -/
theorem clockLaw_withTimer (h : ClockLaw c) (mode : ClockMode) (pending running : Bool) (due : Nat) :
    ClockLaw { c with mode := mode, returnPending := pending, lossTimerRunning := running, ticksDue := due } :=
  ⟨h.time_le, h.length_le, h.running_lt, h.phase_lt, h.origin⟩

/-- Any other state than RUNNING may follow. -/
theorem clockLaw_withState (h : ClockLaw c) {k : ClockState} (hk : k ≠ .running) : ClockLaw { c with state := k } :=
  ⟨h.time_le, h.length_le, fun e => absurd e hk, h.phase_lt, h.origin⟩

theorem clockLaw_toRunning (h : ClockLaw c) (short : c.showTime < c.showLength) :
    ClockLaw { c with state := .running, framePhase := 0, ticksDue := 0, returnPending := false } :=
  ⟨h.time_le, h.length_le, fun _ => short, show 0 < Config.framesPerTick from by decide, h.origin⟩

/-- Another show time within the show length, while the clock does not run. -/
theorem clockLaw_withTime (h : ClockLaw c) {t : Nat} (ht : t ≤ c.showLength) (hk : c.state ≠ .running) :
    ClockLaw { c with showTime := t } :=
  ⟨ht, h.length_le, fun e => absurd e hk, h.phase_lt, h.origin⟩

theorem clockLaw_enteredSafe (h : ClockLaw c) (hs : c.state ≠ .safe) : ClockLaw c.enteredSafe :=
  ⟨h.time_le, h.length_le, nofun, h.phase_lt, hs⟩

end

theorem clockLaw_of_safeAtMost {s t : State} (h : SafeAtMost s t) (law : ClockLaw s.clock) : ClockLaw t.clock := by
  rcases h.entry with ⟨e, -⟩ | ⟨out, e, -⟩ <;> rw [e]
  · exact law
  · exact clockLaw_enteredSafe law out

theorem clockLaw_countFrame {s : State} (law : ClockLaw s.clock) : ClockLaw (countFrame s).clock := by
  have phase := law.phase_lt
  rw [countFrame_clock]
  split_ifs with full
  · exact ⟨law.time_le, law.length_le, law.running_lt, show 0 < Config.framesPerTick from by decide, law.origin⟩
  · exact ⟨law.time_le, law.length_le, law.running_lt, by simp only [Config.framesPerTick] at *; omega, law.origin⟩

theorem clockLaw_advanceShow {s : State} (law : ClockLaw s.clock) (running : s.clock.state = .running) :
    ClockLaw (advanceShow s).clock := by
  have short := law.running_lt running
  rw [advanceShow_clock]
  split_ifs with last
  · exact ⟨short, law.length_le, nofun, law.phase_lt, law.origin⟩
  · exact ⟨short, law.length_le, fun _ => by dsimp only; omega, law.phase_lt, law.origin⟩

theorem clockLaw_reset : ClockLaw Clock.reset := ⟨by decide, by decide, nofun, by decide, nofun⟩

theorem clockLaw_owner (r : Request) (s t : State) (h : OwnerDoes s r t) (law : ClockLaw s.clock) : ClockLaw t.clock := by
  cases h with
  | nothing => exact law
  | start _ short =>
    rw [doReturnWork_clock, setRunning_clock, chaseAll_clock]
    exact clockLaw_toRunning (c := s.clock) law short
  | pause => exact clockLaw_withState law nofun
  | resume _ short =>
    rw [doReturnWork_clock, setRunning_clock]
    split_ifs
    · rw [chaseProgramme_clock]
      exact clockLaw_toRunning (c := s.clock) law short
    · exact clockLaw_toRunning (c := s.clock) law short
  | stop =>
    rw [clearShow_clock]
    exact clockLaw_withTime (clockLaw_withState law (k := .stopped) nofun) (Nat.zero_le _) nofun
  | move time stopped => exact clockLaw_withTime law (Nat.min_le_right _ _) (by simp [stopped])
  | seek time paused =>
    rw [chaseAll_clock]
    exact clockLaw_withTime law (Nat.min_le_right _ _) (by simp [paused])
  | lengthStopped length range stopped =>
    exact ⟨Nat.min_le_right _ _, range, fun e => by simp [stopped] at e, law.phase_lt, law.origin⟩
  | lengthPaused length range paused reached =>
    exact ⟨reached, range, fun e => by simp [paused] at e, law.phase_lt, law.origin⟩
  | place a c sh p => unfold placeOn noticeLow; split_ifs <;> exact law
  | amendWaiting a c q p => unfold amendWaiting; dsimp only; split_ifs <;> exact law
  | amendTaken a c q p => unfold amendTaken; dsimp only; split_ifs <;> exact law
  | retire n c q => unfold retireOn; dsimp only; split_ifs <;> exact law
  | retirePassed t channel c => rw [retirePassedOn_clock]; exact law
  | group a n pump valve wind =>
    obtain ⟨st, bound, -⟩ := acceptGroup_bound n (configuredGroup s s.water.groups[n] a pump valve wind) s
    exact clockLaw_of_safeAtMost bound law
  | node i l k n line address kind => exact clockLaw_of_safeAtMost (safeAtMost_writeNode i _ s) law
  | dropNode n i => exact clockLaw_of_safeAtMost (safeAtMost_dropNode i s) law
  | line n c l r kept => rw [setLineRec_clock]; exact law
  | mode m f x k _ stopped =>
    rw [State.setPlay_clock, changeMode_clock]
    exact clockLaw_withTimer law k s.clock.returnPending _ s.clock.ticksDue
  | supervision c =>
    obtain ⟨since, bound⟩ := applySupervision_bound c s
    exact clockLaw_of_safeAtMost bound law
  | forceSafe => exact clockLaw_of_safeAtMost (safeAtMost_addCause .forced s) law
  | clearSafe =>
    have out : stateAfterSafe s.clock.safeOrigin ≠ .running := by cases s.clock.safeOrigin <;> nofun
    exact clockLaw_withTimer (clockLaw_withState law out) s.clock.mode true s.clock.lossTimerRunning s.clock.ticksDue
  | restart =>
    have start : ClockLaw (clearLatched (restartTime (emptyShow (restartLink s)))).clock := by
      rw [clearLatched_clock]
      exact ⟨Nat.zero_le _, law.length_le, fun e => Nat.zero_lt_of_lt (law.running_lt e), show 0 < Config.framesPerTick from by decide, law.origin⟩
    rcases restartClock_clock (clearLatched (restartTime (emptyShow (restartLink s)))) with e | e | ⟨safe, e⟩ <;> rw [e]
    · exact clockLaw_withState start nofun
    · exact clockLaw_withTimer (clockLaw_withState start (k := .stopped) nofun) _ true _ _
    · exact ⟨start.time_le, start.length_le, start.running_lt, start.phase_lt, nofun⟩
  | _ => exact law

theorem clockLaw_event (i : Instr) (s t : State) (h : EventDoes s i t) (law : ClockLaw s.clock) : ClockLaw t.clock := by
  cases h with
  | written => rw [finishLoad_clock]; exact law
  | reset cause => exact clockLaw_of_safeAtMost (pinReset_bound cause s) clockLaw_reset
  | audio =>
    obtain ⟨running, e⟩ := audioFrame_clock s
    rw [e]
    exact clockLaw_countFrame (clockLaw_withTimer law s.clock.mode s.clock.returnPending running s.clock.ticksDue)
  | tick =>
    obtain ⟨due, e | ⟨running, e⟩⟩ := showTick_clock s <;> rw [e]
    · exact clockLaw_withTimer law s.clock.mode s.clock.returnPending s.clock.lossTimerRunning due
    · exact clockLaw_advanceShow (clockLaw_withTimer law s.clock.mode s.clock.returnPending s.clock.lossTimerRunning due) running
  | segmentEnd v => rw [segmentEnd_clock]; exact law
  | fadeEnd => rw [safeFadeEnd_clock]; exact law
  | clockLoss =>
    unfold wordClockLoss
    split_ifs
    · refine clockLaw_of_safeAtMost (safeAtMost_addCause _ _) ?_
      exact clockLaw_withTimer law s.clock.mode s.clock.returnPending false s.clock.ticksDue
    · exact law
  | clockEdge =>
    rw [wordClockEdge_clock]
    exact clockLaw_withTimer law s.clock.mode s.clock.returnPending true s.clock.ticksDue
  | field _ _ reach => exact clockLaw_of_safeAtMost (safeAtMost_turnReach reach) law
  | accepted i k u same =>
    exact clockLaw_of_safeAtMost (safeAtMost_acceptLevel k _) law
  | estop => exact clockLaw_of_safeAtMost (safeAtMost_estopFilterExpiry s) law
  | light => rw [lightUpdate_clock]; exact law
  | pwm => rw [pwmFrameBoundary_clock]; exact law
  | silence =>
    obtain ⟨since, bound⟩ := silenceTimerExpiry_bound s
    exact clockLaw_of_safeAtMost bound law
  | _ => exact law

/-- Settles O54: the law from every owner and every event that writes the clock record. -/
theorem clockLawKept : Obligations.ClockLawKept := fun _ _ law step =>
  step_keeps (P := fun s => ClockLaw s.clock) (fun _ _ => id)
    (fun _ _ _ => exec_keeps (P := fun s => ClockLaw s.clock) (fun _ _ => id) clockLaw_owner clockLaw_event) law step

end Sys2Proof.Machine
end

section

/-! # Safe causes and their conditions (R110 to R114)

Every change of a condition is followed by `setCondition` on its cause, and CRITICAL_LOST by `evalCritical` after every
change of a node's state. So the cause set follows the conditions, and SAFE is entered only with a cause in it. -/

namespace Sys2Proof.Machine

open Sys2Proof.Safety

/-! ### CRITICAL_LOST (R110) -/

theorem groupCriticalLost_iff {s : State} {g : Group} :
    groupCriticalLost s g = true ↔ g.critical = true ∧ ∃ i, g.pumpNode = some i ∧ (s.node i).state ≠ .online := by
  unfold groupCriticalLost
  cases h : g.pumpNode <;> simp [State.node]

theorem criticalLostGroup_isSome {s : State} :
    (criticalLostGroup s).isSome = true ↔ ∃ n : Fin 32, groupCriticalLost s s.water.groups[n] = true := by
  simp [criticalLostGroup]

/-- Every group that makes CRITICAL_LOST true in `s` does so in `t`. -/
def CriticalStays (s t : State) : Prop :=
  ∀ n : Fin 32, groupCriticalLost s s.water.groups[n] = true → groupCriticalLost t t.water.groups[n] = true

/-- The groups and the nodes are as they were, as far as CRITICAL_LOST goes. -/
def SameCritical (s t : State) : Prop :=
  (∀ i, (t.node i).state = (s.node i).state) ∧
    ∀ n : Fin 32, t.water.groups[n].critical = s.water.groups[n].critical ∧
      t.water.groups[n].pumpNode = s.water.groups[n].pumpNode

theorem SameCritical.refl (s : State) : SameCritical s s := ⟨fun _ => rfl, fun _ => ⟨rfl, rfl⟩⟩

theorem SameCritical.trans {s t u : State} (h : SameCritical s t) (h' : SameCritical t u) : SameCritical s u :=
  ⟨fun i => (h'.1 i).trans (h.1 i), fun n => ⟨(h'.2 n).1.trans (h.2 n).1, (h'.2 n).2.trans (h.2 n).2⟩⟩

theorem SameCritical.group {s t : State} (h : SameCritical s t) (n : Fin 32) :
    groupCriticalLost t t.water.groups[n] = groupCriticalLost s s.water.groups[n] := by
  obtain ⟨critical, pump⟩ := h.2 n
  rw [Bool.eq_iff_iff, groupCriticalLost_iff, groupCriticalLost_iff, critical, pump]
  simp only [h.1]

theorem SameCritical.stays {s t : State} (h : SameCritical s t) : CriticalStays s t := fun n hn => (h.group n).trans hn

theorem criticalLostGroup_congr {s t : State} (h : SameCritical s t) : criticalLostGroup t = criticalLostGroup s := by
  simp only [criticalLostGroup, h.group]

theorem sameCritical_of_eq {s t : State} (nodes : t.fieldLines = s.fieldLines) (water : t.water = s.water) :
    SameCritical s t := ⟨fun i => by simp [State.node, nodes], fun n => by simp [water]⟩

theorem sameCritical_setGroupRec_of {k : Fin 32} {g : Group} {s : State} (critical : g.critical = s.water.groups[k].critical)
    (pump : g.pumpNode = s.water.groups[k].pumpNode) : SameCritical s (setGroupRec k g s) := by
  refine ⟨fun i => by simp [State.node], fun n => ?_⟩
  rw [setGroupRec_groups]
  split_ifs with same
  · subst same
    exact ⟨critical, pump⟩
  · exact ⟨rfl, rfl⟩

theorem sameCritical_setGroupRec {k : Fin 32} {g : Group} {s : State} (h : SameConfig g s.water.groups[k]) :
    SameCritical s (setGroupRec k g s) := by
  obtain ⟨-, pump, -, -, -, -, critical, -⟩ := h
  exact sameCritical_setGroupRec_of critical pump

theorem sameCritical_setLineRec (l : Line) (r : LineRec) (s : State) : SameCritical s (setLineRec l r s) :=
  ⟨fun i => by simp, fun n => by simp⟩

theorem sameCritical_setNodeRec {i : Fin 40} {n : Node} {s : State} (h : n.state = (s.node i).state) :
    SameCritical s (setNodeRec i n s) := by
  refine ⟨fun j => ?_, fun _ => ⟨rfl, rfl⟩⟩
  rw [State.node_setNodeRec]
  split_ifs with same
  · rw [← same, h]
  · rfl

theorem sameCritical_updatePumpGroup {i : Fin 40} {f : Group → Group} (h : ∀ g, SameConfig (f g) g) (s : State) :
    SameCritical s (updatePumpGroup i f s) := by
  unfold updatePumpGroup
  split
  · exact .refl s
  · exact sameCritical_setGroupRec (h _)

theorem sameCritical_followLost (i : Fin 40) (k : NodeState) (s : State) : SameCritical s (followLost i k s) := by
  unfold followLost
  split
  · exact sameCritical_updatePumpGroup (fun g => sameConfig_flags g _) s
  · exact sameCritical_updatePumpGroup (fun g => sameConfig_flags g _) s
  · exact .refl s

theorem sameCritical_setCondition (c : SafeCause) (b : Bool) (s : State) : SameCritical s (setCondition c b s) :=
  sameCritical_of_eq (by simp) (by simp)

/-- A node that leaves its state for one that is not ONLINE takes no group out of CRITICAL_LOST. -/
theorem criticalStays_setNodeRec {i : Fin 40} {n : Node} {s : State} (h : n.state ≠ .online) :
    CriticalStays s (setNodeRec i n s) := by
  intro k hk
  rw [groupCriticalLost_iff] at *
  obtain ⟨critical, j, pump, lost⟩ := hk
  refine ⟨critical, j, pump, ?_⟩
  rw [State.node_setNodeRec]
  split_ifs
  · exact h
  · exact lost

theorem CriticalStays.isSome {s t : State} (h : CriticalStays s t) (hs : (criticalLostGroup s).isSome = true) :
    (criticalLostGroup t).isSome = true := by
  rw [criticalLostGroup_isSome] at *
  exact hs.imp h

/-! ### One condition (R111) -/

theorem setCondition_clock_safe {c : SafeCause} {b : Bool} {s : State} (h : s.clock.state = .safe) :
    (setCondition c b s).clock.state = .safe := by
  rcases (safeAtMost_setCondition c b s).entry with ⟨e, -⟩ | ⟨out, -⟩
  · rw [e, h]
  · exact absurd h out

/-- A condition that becomes true is in the cause set, one that becomes false is not, and no other cause moves. -/
theorem memberOf_setCondition (c d : SafeCause) (b : Bool) (s : State) :
    d.memberOf (setCondition c b s).sup.causes = if d = c then b else d.memberOf s.sup.causes := by
  cases b with
  | true =>
    rw [show setCondition c true s = addCause c s from rfl, addCause_causes, SafeCause.memberOf_or_bit]
    by_cases h : d = c <;> simp [h]
  | false =>
    rw [show setCondition c false s = dropCause c s from rfl, dropCause_causes, SafeCause.memberOf_and_not_bit]
    by_cases h : d = c <;> simp [h]

/-- SAFE is entered by a condition that becomes true. -/
theorem true_of_entered {c : SafeCause} {b : Bool} {s : State} (out : s.clock.state ≠ .safe)
    (entered : (setCondition c b s).clock.state = .safe) : b = true := by
  cases b with
  | true => rfl
  | false => exact absurd entered out

/-- A cause in the cause set. -/
theorem causes_ne_zero {c : SafeCause} {x : BitVec 6} (h : c.memberOf x = true) : x ≠ 0 := by
  rintro rfl
  simp [SafeCause.memberOf] at h

/-! ### SAFE is entered with a cause -/

/-- In SAFE with CRITICAL_LOST as one of its causes, its condition true. -/
def SafeIsCritical (s : State) : Prop :=
  s.clock.state = .safe → SafeCause.criticalLost.memberOf s.sup.causes = true ∧ (criticalLostGroup s).isSome = true

theorem safeIsCritical_evalCritical {s : State} (h : s.clock.state = .safe → (criticalLostGroup s).isSome = true) :
    SafeIsCritical (evalCritical s) := by
  intro safe
  have holds : (criticalLostGroup s).isSome = true := by
    by_cases out : s.clock.state = .safe
    · exact h out
    · exact true_of_entered out safe
  refine ⟨?_, ?_⟩
  · rw [evalCritical, memberOf_setCondition, if_pos rfl]
    exact holds
  · rw [evalCritical, criticalLostGroup_congr (sameCritical_setCondition _ _ s)]
    exact holds

theorem SafeIsCritical.of_same {s t : State} (h : SafeIsCritical s) (critical : SameCritical s t) (clock : t.clock = s.clock)
    (sup : t.sup = s.sup) : SafeIsCritical t := by
  intro safe
  rw [clock] at safe
  rw [sup, criticalLostGroup_congr critical]
  exact h safe

theorem safeIsCritical_fieldWrite {s t : State} (h : FieldWrite s t) (hs : SafeIsCritical s) : SafeIsCritical t := by
  cases h with
  | line l r _ _ => exact hs.of_same (sameCritical_setLineRec l r s) rfl rfl
  | node i n _ state _ => exact hs.of_same (sameCritical_setNodeRec state) rfl rfl
  | group k g _ same _ => exact hs.of_same (sameCritical_setGroupRec same) rfl rfl
  | raise c _ => exact hs.of_same (.refl s) rfl rfl
  | leave i n _ notOnline _ _ _ =>
    rcases writeNode_cases i n s with ⟨state, e⟩ | ⟨-, e⟩ <;> rw [e]
    · exact hs.of_same (sameCritical_setNodeRec state) rfl rfl
    · refine safeIsCritical_evalCritical fun safe => ?_
      rw [followLost_clock] at safe
      rw [criticalLostGroup_congr (sameCritical_followLost _ _ _)]
      exact (criticalStays_setNodeRec notOnline).isSome (hs safe).2

theorem safeIsCritical_writeNode {i : Fin 40} {n : Node} {s : State} (out : s.clock.state ≠ .safe) :
    SafeIsCritical (writeNode i n s) := by
  rcases writeNode_cases i n s with ⟨-, e⟩ | ⟨-, e⟩ <;> rw [e]
  · exact fun safe => absurd safe out
  · refine safeIsCritical_evalCritical fun safe => absurd ?_ out
    rw [← safe, followLost_clock]
    rfl

theorem safeIsCritical_fieldReach {s t : State} (h : FieldReach s t) (hs : SafeIsCritical s) : SafeIsCritical t :=
  h.keeps (fun _ _ => safeIsCritical_fieldWrite) hs

theorem safeIsCritical_turnReach {s t : State} (h : TurnReach s t) (out : s.clock.state ≠ .safe) : SafeIsCritical t := by
  rcases h with h | ⟨u, i, n, -, calm, -, -, -, h⟩
  · exact safeIsCritical_fieldReach h fun safe => absurd safe out
  · refine safeIsCritical_fieldReach h (safeIsCritical_writeNode ?_)
    rw [calm.1]
    exact out

theorem safeIsCritical_dropNode {i : Fin 40} {s : State} (out : s.clock.state ≠ .safe) : SafeIsCritical (dropNode i s) := by
  have node := safeIsCritical_writeNode (i := i) (n := Node.absentRecord) out
  unfold dropNode
  dsimp only
  split
  · exact node
  · split_ifs
    · exact node
    · exact safeIsCritical_fieldReach (reach_continueRound _ _ _) node
    · exact node.of_same (sameCritical_setLineRec _ _ _) rfl rfl

/-- SAFE, where the state is in it, has a cause. -/
def SafeHasCause (s : State) : Prop := s.clock.state = .safe → s.sup.causes ≠ 0

theorem SafeIsCritical.hasCause {s : State} (h : SafeIsCritical s) : SafeHasCause s := fun safe => causes_ne_zero (h safe).1

theorem safeHasCause_addCause (c : SafeCause) (s : State) : SafeHasCause (addCause c s) := fun _ => by
  refine causes_ne_zero (c := c) ?_
  rw [addCause_causes, SafeCause.memberOf_or_bit]
  simp

theorem safeHasCause_setCondition {c : SafeCause} {b : Bool} {s : State} (out : s.clock.state ≠ .safe) :
    SafeHasCause (setCondition c b s) := fun safe => by
  obtain rfl := true_of_entered out safe
  exact safeHasCause_addCause c s safe

theorem safeHasCause_acceptLevel {k : LevelInput} {s : State} (out : s.clock.state ≠ .safe) :
    SafeHasCause (acceptLevel k s) := by
  unfold acceptLevel
  dsimp only
  split_ifs
  · split
    · exact fun safe => absurd safe out
    · exact safeHasCause_setCondition out
  · exact fun safe => absurd safe out

theorem acceptIfPassed_low_clock (s : State) : (acceptIfPassed .low s).clock = s.clock := by
  unfold acceptIfPassed acceptLevel
  dsimp only
  split_ifs <;> rfl

theorem safeHasCause_applySupervision {c : SupSettings} {s : State} (out : s.clock.state ≠ .safe) :
    SafeHasCause (applySupervision c s) := by
  unfold applySupervision
  dsimp only
  split_ifs
  · have out' : (acceptIfPassed .low (restartSilence (s.setSup { s.sup with settings := c }))).clock.state ≠ .safe := by
      rw [acceptIfPassed_low_clock]
      exact out
    generalize acceptIfPassed .low _ = u at out'
    unfold acceptIfPassed
    split_ifs
    · exact safeHasCause_acceptLevel out'
    · exact fun safe => absurd safe out'
  · exact fun safe => absurd safe out

theorem safeHasCause_acceptGroup {n : Fin 32} {g : Group} {s : State} (out : s.clock.state ≠ .safe) :
    SafeHasCause (acceptGroup n g s) := by
  unfold acceptGroup
  dsimp only
  split_ifs
  · exact safeHasCause_setCondition out
  · exact safeHasCause_setCondition out
  · exact fun safe => absurd safe out
  · exact fun safe => absurd safe out

end Sys2Proof.Machine
end

section

/-! # SAFE begins and ends by rule (R112, R114)

Entering SAFE is `SafeAtMost` with a cause in the set; only CLEAR SAFE, RESTART and a pin reset take the clock out of it. -/

namespace Sys2Proof.Machine

open Sys2Proof.Safety

/-! ### Entering SAFE -/

/-- SAFE is entered only with a cause in the cause set and SAFE_ENTERED raised (R112). -/
def EntersByRule (s t : State) : Prop :=
  s.clock.state ≠ .safe → t.clock.state = .safe →
    t.sup.causes ≠ 0 ∧ Attention.safeEntered.memberOf t.link.pending = true

/-- SAFE goes on, and is entered by rule alone. -/
def KeepsSafe (s t : State) : Prop := (s.clock.state = .safe → t.clock.state = .safe) ∧ EntersByRule s t

theorem keepsSafe_of_state {s t : State} (h : t.clock.state = s.clock.state) : KeepsSafe s t :=
  ⟨fun e => h.trans e, fun out e => absurd (h.symm.trans e) out⟩

theorem keepsSafe_of_clock {s t : State} (h : t.clock = s.clock) : KeepsSafe s t := keepsSafe_of_state (by rw [h])

theorem keepsSafe_of_out {s t : State} (out : s.clock.state ≠ .safe) (out' : t.clock.state ≠ .safe) : KeepsSafe s t :=
  ⟨fun e => absurd e out, fun _ e => absurd e out'⟩

/-- What entering SAFE bounds, from a state with the same clock state. -/
theorem keepsSafe_of_safeAtMost {s s' t : State} (h : SafeAtMost s' t) (clock : s'.clock.state = s.clock.state)
    (cause : s.clock.state ≠ .safe → SafeHasCause t) : KeepsSafe s t := by
  rcases h.entry with ⟨e, -⟩ | ⟨out, e, -, -, pending⟩
  · exact keepsSafe_of_state (by rw [e, clock])
  · rw [clock] at out
    exact ⟨fun safe => absurd safe out, fun _ safe => ⟨cause out safe, pending⟩⟩

/-! ### The owners and the events -/

theorem restartClock_out {s : State} (h : s.clock.state ≠ .safe) : (restartClock s).clock.state ≠ .safe := by
  unfold restartClock
  rw [if_pos h]
  nofun

/-- Every owner but those of CLEAR SAFE and RESTART keeps SAFE. -/
theorem owner_keepsSafe {r : Request} {s t : State} (h : OwnerDoes s r t) :
    EntersByRule s t ∧ (KeepsSafe s t ∨ r = .clearSafe ∨ r = .restart) := by
  suffices either : KeepsSafe s t ∨ (r = .clearSafe ∨ r = .restart) ∧
      (s.clock.state ≠ .safe → t.clock.state ≠ .safe) by
    rcases either with keeps | ⟨ends, out⟩
    · exact ⟨keeps.2, .inl keeps⟩
    · exact ⟨fun h e => absurd e (out h), .inr ends⟩
  cases h with
  | clearSafe safe _ => exact .inr ⟨.inl rfl, fun out => absurd safe out⟩
  | restart =>
    refine .inr ⟨.inr rfl, fun out => restartClock_out ?_⟩
    rw [clearLatched_clock]
    exact out
  | start stopped =>
    refine .inl (keepsSafe_of_out (by simp [stopped]) ?_)
    rw [doReturnWork_clock, setRunning_clock]
    nofun
  | resume paused =>
    refine .inl (keepsSafe_of_out (by simp [paused]) ?_)
    rw [doReturnWork_clock, setRunning_clock]
    nofun
  | pause running => exact .inl (keepsSafe_of_out (by simp [running]) nofun)
  | stop running =>
    refine .inl (keepsSafe_of_out (by rcases running with e | e <;> simp [e]) ?_)
    rw [clearShow_clock]
    nofun
  | seek time =>
    refine .inl (keepsSafe_of_state ?_)
    rw [chaseAll_clock, State.setClock_clock]
  | move time => exact .inl (keepsSafe_of_state rfl)
  | lengthStopped length => exact .inl (keepsSafe_of_state rfl)
  | lengthPaused length => exact .inl (keepsSafe_of_state rfl)
  | place a c sh p => exact .inl (keepsSafe_of_clock (by unfold placeOn noticeLow; split_ifs <;> rfl))
  | amendWaiting a c q p => exact .inl (keepsSafe_of_clock (by unfold amendWaiting; dsimp only; split_ifs <;> rfl))
  | amendTaken a c q p => exact .inl (keepsSafe_of_clock (by unfold amendTaken; dsimp only; split_ifs <;> rfl))
  | retire n c q => exact .inl (keepsSafe_of_clock (by unfold retireOn; dsimp only; split_ifs <;> rfl))
  | retirePassed t channel c => exact .inl (keepsSafe_of_clock (retirePassedOn_clock t c s))
  | line n c l r => exact .inl (keepsSafe_of_clock (setLineRec_clock l r s))
  | mode m f x k => exact .inl (keepsSafe_of_state (by rw [State.setPlay_clock, changeMode_clock]))
  | group a n pump valve wind =>
    obtain ⟨st, bound, -⟩ := acceptGroup_bound n (configuredGroup s s.water.groups[n] a pump valve wind) s
    exact .inl (keepsSafe_of_safeAtMost bound rfl safeHasCause_acceptGroup)
  | node i l k =>
    exact .inl (keepsSafe_of_safeAtMost (safeAtMost_writeNode i _ s) rfl fun out => (safeIsCritical_writeNode out).hasCause)
  | dropNode n i =>
    exact .inl (keepsSafe_of_safeAtMost (safeAtMost_dropNode i s) rfl fun out => (safeIsCritical_dropNode out).hasCause)
  | supervision c =>
    obtain ⟨since, bound⟩ := applySupervision_bound c s
    exact .inl (keepsSafe_of_safeAtMost bound rfl safeHasCause_applySupervision)
  | forceSafe =>
    exact .inl (keepsSafe_of_safeAtMost (safeAtMost_addCause .forced s) rfl fun _ => safeHasCause_addCause .forced s)
  | _ => exact .inl (keepsSafe_of_clock rfl)

/-- A pin reset finds SAFE with a cause, or does not find it (R118). -/
theorem pinReset_enters (cause : PinResetCause) (s : State) : EntersByRule s (pinReset cause s) := by
  have found := pinReset_bound cause s
  have has : SafeHasCause (pinReset cause s) := by
    unfold pinReset
    dsimp only
    split_ifs
    · exact safeHasCause_addCause .lowLow _
    · exact safeHasCause_addCause .lowLow _
    · exact safeHasCause_addCause .eStop _
    · nofun
  intro _ safe
  rcases found.entry with ⟨e, -⟩ | ⟨-, -, -, -, pending⟩
  · rw [e] at safe
    cases safe
  · exact ⟨has safe, pending⟩

theorem advanceShow_out {s : State} (h : s.clock.state ≠ .safe) : (advanceShow s).clock.state ≠ .safe := by
  rw [advanceShow_clock]
  split_ifs
  · nofun
  · exact h

/-- Every event but a pin reset keeps SAFE. -/
theorem event_keepsSafe {i : Instr} {s t : State} (h : EventDoes s i t) :
    EntersByRule s t ∧ (KeepsSafe s t ∨ ∃ cause, i = .pinReset cause) := by
  suffices either : KeepsSafe s t ∨ (∃ cause, i = .pinReset cause) ∧ EntersByRule s t by
    rcases either with keeps | ⟨ends, enters⟩
    · exact ⟨keeps.2, .inl keeps⟩
    · exact ⟨enters, .inr ends⟩
  cases h with
  | reset cause => exact .inr ⟨⟨cause, rfl⟩, pinReset_enters cause s⟩
  | written first frames => exact .inl (keepsSafe_of_clock (by rw [finishLoad_clock]))
  | audio =>
    obtain ⟨running, e⟩ := audioFrame_clock s
    refine .inl (keepsSafe_of_state ?_)
    rw [e, countFrame_clock]
    split_ifs <;> rfl
  | tick =>
    obtain ⟨due, e | ⟨running, e⟩⟩ := showTick_clock s
    · exact .inl (keepsSafe_of_state (by rw [e]))
    · refine .inl (keepsSafe_of_out (by simp [running]) ?_)
      rw [e]
      exact advanceShow_out (by rw [State.setClock_clock, running]; nofun)
  | segmentEnd v => exact .inl (keepsSafe_of_clock (segmentEnd_clock v s))
  | fadeEnd => exact .inl (keepsSafe_of_clock (safeFadeEnd_clock s))
  | clockLoss =>
    unfold wordClockLoss
    split_ifs
    · exact .inl (keepsSafe_of_safeAtMost (safeAtMost_addCause _ _) rfl fun _ => safeHasCause_addCause _ _)
    · exact .inl (keepsSafe_of_clock rfl)
  | clockEdge => exact .inl (keepsSafe_of_state (by rw [wordClockEdge_clock]))
  | field _ _ reach =>
    exact .inl (keepsSafe_of_safeAtMost (safeAtMost_turnReach reach) rfl fun out => (safeIsCritical_turnReach reach out).hasCause)
  | accepted _ k u =>
    exact .inl (keepsSafe_of_safeAtMost (safeAtMost_acceptLevel k (s.setSup u)) rfl fun out => safeHasCause_acceptLevel (s := s.setSup u) out)
  | estop =>
    refine .inl (keepsSafe_of_safeAtMost (safeAtMost_estopFilterExpiry s) rfl fun out => ?_)
    unfold estopFilterExpiry
    dsimp only
    split_ifs
    · exact safeHasCause_setCondition out
    · exact fun safe => absurd safe out
  | silence =>
    rcases silenceTimerExpiry_cases s with ⟨_, -, -, e⟩ | ⟨-, e⟩ <;> rw [e]
    · exact .inl (keepsSafe_of_safeAtMost (safeAtMost_addCause _ _) rfl fun _ => safeHasCause_addCause _ _)
    · exact .inl (keepsSafe_of_clock rfl)
  | light => exact .inl (keepsSafe_of_clock (lightUpdate_clock s))
  | pwm => exact .inl (keepsSafe_of_clock (pwmFrameBoundary_clock s))
  | _ => exact .inl (keepsSafe_of_clock rfl)

/-! ### The commands -/

/-- An owner's answer touches neither the clock nor the pending causes. -/
theorem settle_spec (own : State → Owned) (s : State) :
    ∃ st, settle own s = (own s).1.setLink { (own s).1.link with state := st } := by
  unfold settle
  rcases own s with ⟨t, _ | _⟩
  · exact ⟨t.link.state, rfl⟩
  · exact ⟨_, rfl⟩

theorem mayEndSafe_of_brings {i : Instr} {r : Request} {s : State} (brings : Instr.Brings i r) (free : LinkFree s)
    (h : r = .clearSafe ∨ r = .restart) : MayEndSafe s i := by
  rcases brings with row | ⟨bytes, rfl, sent⟩
  · rcases h with rfl | rfl <;> cases i <;> cases row <;> trivial
  · rcases h with rfl | rfl
    · exact ⟨free, .inl sent⟩
    · exact ⟨free, .inr sent⟩

/-- Settles O53: SAFE is kept by every owner and every event but the three that may end it, and entered by rule. -/
theorem safeBeginsAndEndsOnlyByRule : Obligations.SafeBeginsAndEndsOnlyByRule := by
  intro i s t h
  suffices both : EntersByRule s t ∧ (KeepsSafe s t ∨ MayEndSafe s i) from
    ⟨fun safe left => both.2.elim (fun keeps => absurd (keeps.1 safe) left) id, both.1⟩
  cases exec_does h with
  | owner r bytes due free brings =>
    obtain ⟨st, e⟩ := settle_spec (handle r) (s.setLink (takenLink bytes r s))
    rw [e]
    obtain ⟨enters, keeps⟩ := owner_keepsSafe (handle_does r (s.setLink (takenLink bytes r s)))
    exact ⟨enters, keeps.imp id (mayEndSafe_of_brings brings free)⟩
  | event t does =>
    obtain ⟨enters, keeps⟩ := event_keepsSafe does
    refine ⟨enters, keeps.imp id ?_⟩
    rintro ⟨cause, rfl⟩
    trivial

end Sys2Proof.Machine
end

section

/-! # The cause set equals the conditions (R111, R112, R114)

The law is written over all six causes at once, with a list of those whose condition has just moved and has not reached the
cause set; `setCondition` takes its cause off the list. -/

namespace Sys2Proof.Machine

open Sys2Proof.Safety

/-! ### The law over all causes -/

/-- The condition of a cause (R107, R108, R37, R110); a latched cause stands until it is cleared (R111). -/
def causeTrue (s : State) : SafeCause → Bool
  | .eStop => s.sup.estop.active
  | .lowLow => s.sup.lowLow.active
  | .clockLost => decide (s.clock.mode = .follow) && !s.clock.lossTimerRunning
  | .criticalLost => (criticalLostGroup s).isSome
  | .linkSilent => SafeCause.linkSilent.memberOf s.sup.causes
  | .forced => SafeCause.forced.memberOf s.sup.causes

/-- The law of R111 and R114 but for the causes whose condition has moved and has not yet reached the cause set. -/
structure CausesFollow (late : List SafeCause) (s : State) : Prop where
  follow : ∀ c, c ∉ late → c.memberOf s.sup.causes = causeTrue s c
  outside : s.clock.state ≠ .safe → s.sup.causes = 0
  seen : s.clock.state = .safe → s.sup.causes &&& ~~~s.sup.seen = 0
  master : s.clock.mode = .master → s.clock.lossTimerRunning = false

theorem causeLaw_iff {s : State} : CauseLaw s ↔ CausesFollow [] s := by
  constructor
  · rintro ⟨eStop, lowLow, clockLost, criticalLost, outside, seen, master⟩
    exact ⟨fun c _ => by cases c <;> first | assumption | rfl, outside, seen, master⟩
  · rintro ⟨follow, outside, seen, master⟩
    exact ⟨follow .eStop nofun, follow .lowLow nofun, follow .clockLost nofun, follow .criticalLost nofun, outside, seen, master⟩

/-! ### What moves no cause -/

/-- The causes, the clock as far as they go, and the conditions are as they were, but those of some causes. -/
structure CauseFrame (late : List SafeCause) (s t : State) : Prop where
  causes : t.sup.causes = s.sup.causes
  seen : t.sup.seen = s.sup.seen
  safe : t.clock.state = .safe ↔ s.clock.state = .safe
  master : (s.clock.mode = .master → s.clock.lossTimerRunning = false) → t.clock.mode = .master → t.clock.lossTimerRunning = false
  conditions : ∀ c, c ∉ late → causeTrue t c = causeTrue s c

theorem CauseFrame.follow {late : List SafeCause} {s t : State} (h : CauseFrame late s t) (hs : CausesFollow [] s) :
    CausesFollow late t := by
  refine ⟨fun c hc => ?_, fun out => ?_, fun safe => ?_, h.master hs.master⟩
  · rw [h.causes, h.conditions c hc]
    exact hs.follow c nofun
  · rw [h.causes]
    exact hs.outside (out ∘ h.safe.2)
  · rw [h.causes, h.seen]
    exact hs.seen (h.safe.1 safe)

/-- The clock as far as the causes go. -/
def SameForCauses (c d : Clock) : Prop :=
  (c.state = .safe ↔ d.state = .safe) ∧ c.mode = d.mode ∧ c.lossTimerRunning = d.lossTimerRunning

theorem SameForCauses.of_eq {c d : Clock} (h : c = d) : SameForCauses c d := by rw [h]; exact ⟨.rfl, rfl, rfl⟩

theorem causeFrame_of_same {s t : State} (sup : SameSupervision t.sup s.sup) (clock : SameForCauses t.clock s.clock)
    (critical : SameCritical s t) : CauseFrame [] s t := by
  obtain ⟨estop, -, lowLow, -, causes, seen⟩ := sup
  obtain ⟨safe, mode, timer⟩ := clock
  refine ⟨causes, seen, safe, fun h => by rwa [mode, timer], fun c _ => ?_⟩
  cases c <;> simp only [causeTrue, estop, lowLow, mode, timer, causes, criticalLostGroup_congr critical]

/-- Neither the supervision unit, nor the water unit, nor a node has changed. -/
theorem causeLaw_of_same {s t : State} (law : CauseLaw s) (sup : t.sup = s.sup) (clock : SameForCauses t.clock s.clock)
    (water : t.water = s.water) (nodes : t.fieldLines = s.fieldLines) : CauseLaw t := by
  refine causeLaw_iff.2 ((causeFrame_of_same ?_ clock (sameCritical_of_eq nodes water)).follow (causeLaw_iff.1 law))
  rw [sup]
  exact .refl _

theorem causeLaw_of_critical {s t : State} (law : CauseLaw s) (sup : t.sup = s.sup) (clock : t.clock = s.clock)
    (critical : SameCritical s t) : CauseLaw t := by
  refine causeLaw_iff.2 ((causeFrame_of_same ?_ (.of_eq clock) critical).follow (causeLaw_iff.1 law))
  rw [sup]
  exact .refl _

/-- Nothing but the water unit and the nodes has changed: CRITICAL_LOST may be late. -/
theorem causeFrame_critical {s t : State} (sup : t.sup = s.sup) (clock : t.clock = s.clock) :
    CauseFrame [.criticalLost] s t := by
  refine ⟨by rw [sup], by rw [sup], by rw [clock], fun h => by rwa [clock], fun c hc => ?_⟩
  cases c <;> simp_all [causeTrue]

/-! ### One condition reaches the cause set -/

theorem kept_and {x y z : BitVec 6} (h : x &&& ~~~y = 0) : (x &&& z) &&& ~~~y = 0 := by
  rw [BitVec.and_assoc, BitVec.and_comm z, ← BitVec.and_assoc, h]
  exact BitVec.zero_and

theorem kept_or {x y : BitVec 6} (b : BitVec 6) (h : x &&& ~~~y = 0) : (x ||| b) &&& ~~~(y ||| b) = 0 := by
  ext i hi
  have e := congrArg (·[i]) h
  simp at e ⊢
  grind

section
variable (c : SafeCause) (b : Bool) (s : State)

theorem addCause_levels : (addCause c s).sup.estop = s.sup.estop ∧ (addCause c s).sup.lowLow = s.sup.lowLow := by
  rcases addCause_cases c s with ⟨-, e⟩ | ⟨-, -, e⟩ | ⟨-, -, e⟩ <;> rw [e] <;> exact ⟨rfl, rfl⟩

theorem addCause_timer : (addCause c s).clock.mode = s.clock.mode ∧
    (addCause c s).clock.lossTimerRunning = s.clock.lossTimerRunning := by
  rcases addCause_cases c s with ⟨-, e⟩ | ⟨-, -, e⟩ | ⟨-, -, e⟩ <;> rw [e] <;> exact ⟨rfl, rfl⟩

theorem setCondition_levels :
    (setCondition c b s).sup.estop = s.sup.estop ∧ (setCondition c b s).sup.lowLow = s.sup.lowLow := by
  cases b
  · exact ⟨rfl, rfl⟩
  · exact addCause_levels c s

theorem setCondition_timer : (setCondition c b s).clock.mode = s.clock.mode ∧
    (setCondition c b s).clock.lossTimerRunning = s.clock.lossTimerRunning := by
  cases b
  · exact ⟨rfl, rfl⟩
  · exact addCause_timer c s

/-- A condition is what it was, once its cause has moved; a latched cause is what it has become. -/
theorem causeTrue_setCondition (d : SafeCause) : causeTrue (setCondition c b s) d =
    if d = c ∧ (d = .linkSilent ∨ d = .forced) then b else causeTrue s d := by
  obtain ⟨estop, lowLow⟩ := setCondition_levels c b s
  obtain ⟨mode, timer⟩ := setCondition_timer c b s
  cases d <;> simp [causeTrue, estop, lowLow, mode, timer, memberOf_setCondition,
    criticalLostGroup_congr (sameCritical_setCondition c b s)]

end

theorem outside_setCondition {c : SafeCause} {b : Bool} {s : State} (h : s.clock.state ≠ .safe → s.sup.causes = 0)
    (out : (setCondition c b s).clock.state ≠ .safe) : (setCondition c b s).sup.causes = 0 := by
  cases b with
  | false =>
    rw [show setCondition c false s = dropCause c s from rfl, dropCause_causes, h out]
    exact BitVec.zero_and
  | true =>
    rw [show setCondition c true s = addCause c s from rfl] at *
    rcases addCause_cases c s with ⟨-, e⟩ | ⟨-, safe, e⟩ | ⟨-, -, e⟩ <;> rw [e] at out ⊢
    · exact h out
    · exact absurd safe out
    · exact absurd rfl out

theorem seen_setCondition {c : SafeCause} {b : Bool} {s : State}
    (h : s.clock.state = .safe → s.sup.causes &&& ~~~s.sup.seen = 0) (safe : (setCondition c b s).clock.state = .safe) :
    (setCondition c b s).sup.causes &&& ~~~(setCondition c b s).sup.seen = 0 := by
  cases b with
  | false => exact kept_and (h safe)
  | true =>
    rw [show setCondition c true s = addCause c s from rfl] at *
    rcases addCause_cases c s with ⟨-, e⟩ | ⟨-, safe', e⟩ | ⟨-, -, e⟩ <;> rw [e] at safe ⊢
    · exact h safe
    · exact kept_or _ (h safe')
    · rw [(enterSafe_spec _).2.1]
      exact BitVec.and_not_self _

/-- A cause that follows its condition comes off the list; a latched one may be set. -/
theorem causesFollow_setCondition {c : SafeCause} {b : Bool} {late : List SafeCause} {s : State}
    (h : CausesFollow (c :: late) s) (hb : c = .linkSilent ∨ c = .forced ∨ b = causeTrue s c) :
    CausesFollow late (setCondition c b s) := by
  obtain ⟨mode, timer⟩ := setCondition_timer c b s
  refine ⟨fun d hd => ?_, outside_setCondition h.outside, seen_setCondition h.seen, by rw [mode, timer]; exact h.master⟩
  rw [memberOf_setCondition, causeTrue_setCondition]
  by_cases same : d = c
  · subst same
    rcases hb with rfl | rfl | rfl <;> simp
  · simp only [same, if_false, false_and]
    exact h.follow d (by simp [same, hd])

theorem CausesFollow.cons {late : List SafeCause} {s : State} (h : CausesFollow late s) (c : SafeCause) :
    CausesFollow (c :: late) s :=
  ⟨fun d hd => h.follow d (List.not_mem_of_not_mem_cons hd), h.outside, h.seen, h.master⟩

theorem causeLaw_latch {c : SafeCause} {s : State} (law : CauseLaw s) (h : c = .linkSilent ∨ c = .forced) :
    CauseLaw (addCause c s) :=
  causeLaw_iff.2 (causesFollow_setCondition (b := true) ((causeLaw_iff.1 law).cons c) (by tauto))

theorem causeLaw_evalCritical {s : State} (h : CausesFollow [.criticalLost] s) : CauseLaw (evalCritical s) :=
  causeLaw_iff.2 (causesFollow_setCondition h (.inr (.inr rfl)))

/-! ### Nodes and groups -/

theorem causeLaw_writeNode {i : Fin 40} {n : Node} {s : State} (law : CauseLaw s) : CauseLaw (writeNode i n s) := by
  rcases writeNode_cases i n s with ⟨state, e⟩ | ⟨-, e⟩ <;> rw [e]
  · exact causeLaw_of_critical law rfl rfl (sameCritical_setNodeRec state)
  · refine causeLaw_evalCritical ((causeFrame_critical ?_ ?_).follow (causeLaw_iff.1 law))
    · rw [followLost_sup, setNodeRec_sup]
    · rw [followLost_clock, setNodeRec_clock]

theorem causeLaw_fieldWrite {s t : State} (h : FieldWrite s t) (law : CauseLaw s) : CauseLaw t := by
  cases h with
  | line l r _ _ => exact causeLaw_of_critical law rfl rfl (sameCritical_setLineRec l r s)
  | node i n _ state _ => exact causeLaw_of_critical law rfl rfl (sameCritical_setNodeRec state)
  | group k g _ same _ => exact causeLaw_of_critical law rfl rfl (sameCritical_setGroupRec same)
  | raise c _ => exact causeLaw_of_critical law rfl rfl (.refl s)
  | leave i n _ _ _ _ _ => exact causeLaw_writeNode law

theorem causeLaw_turnReach {s t : State} (h : TurnReach s t) (law : CauseLaw s) : CauseLaw t :=
  h.keeps (fun _ _ => causeLaw_fieldWrite) (fun _ _ _ _ _ _ => causeLaw_writeNode) law

theorem causeLaw_dropNode {i : Fin 40} {s : State} (law : CauseLaw s) : CauseLaw (dropNode i s) := by
  have node : CauseLaw (writeNode i Node.absentRecord s) := causeLaw_writeNode law
  unfold dropNode
  dsimp only
  split
  · exact node
  · split_ifs
    · exact node
    · exact (reach_continueRound _ _ _).keeps (fun _ _ => causeLaw_fieldWrite) node
    · exact causeLaw_of_critical node rfl rfl (sameCritical_setLineRec _ _ _)

theorem causeLaw_acceptGroup {n : Fin 32} {g : Group} {s : State} (law : CauseLaw s) : CauseLaw (acceptGroup n g s) := by
  have written (u : State) (e : u = setGroupRec n g s ∨ ∃ st, u = (setGroupRec n g s).setStore st) :
      CauseLaw (if g.critical ≠ s.water.groups[n].critical ∨ g.pumpNode ≠ s.water.groups[n].pumpNode
        then evalCritical u else u) := by
    have sup : u.sup = s.sup := by rcases e with rfl | ⟨_, rfl⟩ <;> rfl
    have clock : u.clock = s.clock := by rcases e with rfl | ⟨_, rfl⟩ <;> rfl
    split_ifs with moved
    · exact causeLaw_evalCritical ((causeFrame_critical sup clock).follow (causeLaw_iff.1 law))
    · refine causeLaw_of_critical law sup clock ?_
      have nodes : u.fieldLines = s.fieldLines := by rcases e with rfl | ⟨_, rfl⟩ <;> rfl
      have water : u.water = (setGroupRec n g s).water := by rcases e with rfl | ⟨_, rfl⟩ <;> rfl
      refine ⟨fun i => by simp [State.node, nodes], fun m => ?_⟩
      rw [water, setGroupRec_groups]
      split_ifs with same
      · subst same
        simpa [not_or] using moved
      · exact ⟨rfl, rfl⟩
  unfold acceptGroup
  dsimp only
  refine written _ ?_
  split_ifs
  · exact .inr ⟨_, rfl⟩
  · exact .inl rfl

/-! ### The inputs, the word clock and the pin reset -/

theorem causeLaw_setSup {u : Supervision} {s : State} (same : SameSupervision u s.sup) (law : CauseLaw s) :
    CauseLaw (s.setSup u) :=
  causeLaw_iff.2 ((causeFrame_of_same (t := s.setSup u) same (.of_eq rfl) (.refl s)).follow (causeLaw_iff.1 law))

theorem causeFrame_setSup {late : List SafeCause} {u : Supervision} {s : State} (causes : u.causes = s.sup.causes)
    (seen : u.seen = s.sup.seen) (conditions : ∀ c, c ∉ late → causeTrue (s.setSup u) c = causeTrue s c) :
    CauseFrame late s (s.setSup u) := ⟨causes, seen, .rfl, id, conditions⟩

theorem causeLaw_acceptLevel {k : LevelInput} {s : State} (law : CauseLaw s) : CauseLaw (acceptLevel k s) := by
  unfold acceptLevel
  dsimp only
  split_ifs
  · cases k with
    | low => exact ⟨law.eStop, law.lowLow, law.clockLost, law.criticalLost, law.outside, law.seen, law.master⟩
    | lowLow =>
      refine causeLaw_iff.2 (causesFollow_setCondition (CauseFrame.follow ?_ (causeLaw_iff.1 law)) (.inr (.inr rfl)))
      exact causeFrame_setSup rfl rfl (fun c hc => by cases c <;> first | rfl | simp at hc)
  · exact law

theorem causeLaw_estopFilterExpiry {s : State} (law : CauseLaw s) : CauseLaw (estopFilterExpiry s) := by
  unfold estopFilterExpiry
  dsimp only
  split_ifs
  · refine causeLaw_iff.2 (causesFollow_setCondition (CauseFrame.follow ?_ (causeLaw_iff.1 law)) (.inr (.inr rfl)))
    exact causeFrame_setSup rfl rfl (fun c hc => by cases c <;> first | rfl | simp at hc)
  · exact law

theorem causeLaw_acceptIfPassed {k : LevelInput} {s : State} (law : CauseLaw s) : CauseLaw (acceptIfPassed k s) := by
  unfold acceptIfPassed
  split_ifs
  · exact causeLaw_acceptLevel law
  · exact law

theorem causeLaw_applySupervision {c : SupSettings} {s : State} (law : CauseLaw s) : CauseLaw (applySupervision c s) := by
  have settings : CauseLaw (restartSilence (s.setSup { s.sup with settings := c })) :=
    ⟨law.eStop, law.lowLow, law.clockLost, law.criticalLost, law.outside, law.seen, law.master⟩
  unfold applySupervision
  dsimp only
  split_ifs
  · exact causeLaw_acceptIfPassed (causeLaw_acceptIfPassed settings)
  · exact settings

/-- The clock's mode and loss timer have moved, and CLOCK_LOST has not. -/
theorem causesFollow_clock {mode : ClockMode} {running : Bool} {s : State} (h : mode = .master → running = false)
    (law : CauseLaw s) : CausesFollow [.clockLost] (s.setClock { s.clock with mode := mode, lossTimerRunning := running }) := by
  refine CauseFrame.follow (s := s) ⟨rfl, rfl, .rfl, fun _ => h, fun c hc => ?_⟩ (causeLaw_iff.1 law)
  cases c <;> first | rfl | simp at hc

theorem causeLaw_changeMode {m : ClockMode} {s : State} (law : CauseLaw s) (other : m ≠ s.clock.mode) :
    CauseLaw (changeMode m s) := by
  cases m with
  | master =>
    refine causeLaw_iff.2 (causesFollow_setCondition (c := .clockLost) (b := false) ?_ (.inr (.inr rfl)))
    exact causesFollow_clock (mode := .master) (running := false) (fun _ => rfl) law
  | follow =>
    have master : s.clock.mode = .master := by cases h : s.clock.mode <;> simp_all
    have timer := law.master master
    have lost := law.clockLost
    refine ⟨law.eStop, law.lowLow, ?_, law.criticalLost, law.outside, law.seen, nofun⟩
    simpa [master, changeMode] using lost

theorem causeLaw_wordClockEdge {s : State} (law : CauseLaw s) (follow : s.clock.mode = .follow) :
    CauseLaw (wordClockEdge s) := by
  refine causeLaw_iff.2 (causesFollow_setCondition (c := .clockLost) (b := false) ?_ (.inr (.inr ?_)))
  · exact causesFollow_clock (mode := s.clock.mode) (running := true) (by simp [follow]) law
  · simp [causeTrue]

theorem causeLaw_wordClockLoss {s : State} (law : CauseLaw s) : CauseLaw (wordClockLoss s) := by
  unfold wordClockLoss
  split_ifs with h
  · refine causeLaw_iff.2 (causesFollow_setCondition (c := .clockLost) (b := true) ?_ (.inr (.inr ?_)))
    · have := causesFollow_clock (mode := s.clock.mode) (running := false) (fun _ => rfl) law
      exact ⟨this.follow, this.outside, this.seen, this.master⟩
    · simp [causeTrue, h.1]
  · exact law

theorem causesFollow_pinResetRecords (cause : PinResetCause) (s : State) :
    CausesFollow [.eStop, .lowLow] (pinResetRecords cause s) := by
  have none : criticalLostGroup (pinResetRecords cause s) = none := by
    rw [show criticalLostGroup (pinResetRecords cause s) = criticalLostGroup State.reset from rfl]
    decide
  have empty (c : SafeCause) : c.memberOf (pinResetRecords cause s).sup.causes = false := BitVec.getLsbD_zero
  refine ⟨fun c hc => ?_, fun _ => rfl, nofun, fun _ => rfl⟩
  cases c with
  | eStop => simp at hc
  | lowLow => simp at hc
  | criticalLost => rw [empty, causeTrue, none]; rfl
  | clockLost => exact empty _
  | linkSilent => rfl
  | forced => rfl

theorem causeLaw_pinReset (cause : PinResetCause) (s : State) : CauseLaw (pinReset cause s) := by
  have start := causesFollow_pinResetRecords cause s
  have found {c : SafeCause} {late : List SafeCause} {u : State} {b : Bool} (h : CausesFollow (c :: late) u)
      (hm : c.memberOf u.sup.causes = false) (hb : b = causeTrue u c) : CausesFollow late (if b then addCause c u else u) := by
    subst hb
    split_ifs with active
    · exact causesFollow_setCondition (b := true) h (.inr (.inr active.symm))
    · refine ⟨fun d hd => ?_, h.outside, h.seen, h.master⟩
      by_cases same : d = c
      · subst same
        rw [hm]
        simpa using active
      · exact h.follow d (by simp [same, hd])
  have first : CausesFollow [.lowLow]
      (if (pinResetRecords cause s).sup.estop.active then addCause .eStop (pinResetRecords cause s) else pinResetRecords cause s) :=
    found start BitVec.getLsbD_zero rfl
  refine causeLaw_iff.2 (found first ?_ ?_)
  · split_ifs
    · rw [addCause_causes, SafeCause.memberOf_or_bit]
      exact (Bool.or_false _).trans BitVec.getLsbD_zero
    · exact BitVec.getLsbD_zero
  · split_ifs
    · rw [causeTrue, (addCause_levels _ _).2]
    · rfl

/-! ### Owners and events -/

theorem causeLaw_setStore {x : Store} {s : State} (law : CauseLaw s) : CauseLaw (s.setStore x) :=
  causeLaw_of_same law rfl (.of_eq rfl) rfl rfl

theorem causeLaw_setChannels {x : Vector ChannelRec 49} {s : State} (law : CauseLaw s) : CauseLaw (s.setChannels x) :=
  causeLaw_of_same law rfl (.of_eq rfl) rfl rfl

theorem causeLaw_setLights {x : Lights} {s : State} (law : CauseLaw s) : CauseLaw (s.setLights x) :=
  causeLaw_of_same law rfl (.of_eq rfl) rfl rfl

theorem causeLaw_setPlay {x : Playback} {s : State} (law : CauseLaw s) : CauseLaw (s.setPlay x) :=
  causeLaw_of_same law rfl (.of_eq rfl) rfl rfl

theorem causeLaw_setLink {x : Link} {s : State} (law : CauseLaw s) : CauseLaw (s.setLink x) :=
  causeLaw_of_same law rfl (.of_eq rfl) rfl rfl

theorem causeLaw_setNow {x : Nat} {s : State} (law : CauseLaw s) : CauseLaw (s.setNow x) :=
  causeLaw_of_same law rfl (.of_eq rfl) rfl rfl

/-- The latched causes leave, and no condition moves (R114, R118). -/
theorem causeLaw_clearLatched {s : State} (law : CauseLaw s) : CauseLaw (clearLatched s) := by
  refine causeLaw_iff.2 ⟨fun c _ => ?_, fun out => ?_, fun safe => kept_and (law.seen safe), law.master⟩
  · have kept : c ≠ .linkSilent → c ≠ .forced → c.memberOf (clearLatched s).sup.causes = c.memberOf s.sup.causes := by
      intro _ _
      rw [SafeCause.memberOf, SafeCause.memberOf, clearLatched, State.setSup_sup, BitVec.getLsbD_and]
      cases c <;> first | contradiction | exact Bool.and_true _
    cases c with
    | linkSilent => rfl
    | forced => rfl
    | eStop => exact (kept nofun nofun).trans law.eStop
    | lowLow => exact (kept nofun nofun).trans law.lowLow
    | clockLost => exact (kept nofun nofun).trans law.clockLost
    | criticalLost => exact (kept nofun nofun).trans law.criticalLost
  · rw [clearLatched, State.setSup_sup, law.outside out]
    exact BitVec.zero_and

/-- With the latched causes gone and no condition true, the cause set is empty. -/
theorem clearLatched_empty {s : State} (h : conditionPresent s = false) : (clearLatched s).sup.causes = 0 := by
  have : s.sup.causes &&& conditionCauses = 0 := by simpa [conditionPresent] using h
  exact this

/-- An empty cause set is that of any clock state. -/
theorem causeLaw_leaveSafe {k : ClockState} {s : State} (law : CauseLaw s) (empty : s.sup.causes = 0) :
    CauseLaw (leaveSafe k s) := by
  refine causeLaw_iff.2 ⟨fun c _ => ((causeLaw_iff.1 law).follow c nofun).trans ?_, fun _ => empty, fun _ => ?_, law.master⟩
  · cases c <;> rfl
  · rw [leaveSafe_sup, empty]
    exact BitVec.zero_and

theorem causeLaw_restartClock {s : State} (law : CauseLaw s) (cleared : s.sup.causes &&& latchedCauses = 0) :
    CauseLaw (restartClock s) := by
  unfold restartClock
  split_ifs with out condition
  · refine causeLaw_of_same law rfl ⟨?_, rfl, rfl⟩ rfl rfl
    simp [out]
  · exact causeLaw_of_same law rfl ⟨.rfl, rfl, rfl⟩ rfl rfl
  · refine causeLaw_leaveSafe law ?_
    have none : s.sup.causes &&& conditionCauses = 0 := by simpa [conditionPresent] using condition
    calc s.sup.causes = s.sup.causes &&& (conditionCauses ||| latchedCauses) := BitVec.and_allOnes.symm
      _ = 0 := by rw [BitVec.and_or_distrib_left, none, cleared]; rfl

theorem causeLaw_owner (r : Request) (s t : State) (h : OwnerDoes s r t) (law : CauseLaw s) : CauseLaw t := by
  cases h with
  | nothing => exact law
  | clearSafe safe none => exact causeLaw_leaveSafe (causeLaw_clearLatched law) (clearLatched_empty none)
  | restart =>
    refine causeLaw_restartClock (causeLaw_clearLatched ?_) ?_
    · refine causeLaw_of_same law ?_ ?_ ?_ ?_
      · simp [restartTime, restartLink]
      · rw [restartTime, State.setClock_clock, emptyShow_clock]
        exact ⟨.rfl, rfl, rfl⟩
      · simp [restartTime, restartLink]
      · simp [restartTime, restartLink]
    · rw [clearLatched, State.setSup_sup, BitVec.and_assoc]
      exact BitVec.and_zero
  | start stopped =>
    refine causeLaw_of_same law (by simp) ?_ (by simp) (by simp)
    rw [doReturnWork_clock, setRunning_clock, chaseAll_clock]
    exact ⟨by simp [stopped], rfl, rfl⟩
  | pause running => exact causeLaw_of_same law rfl ⟨by simp [running], rfl, rfl⟩ rfl rfl
  | resume paused =>
    refine causeLaw_of_same law ?_ ?_ ?_ ?_
    · rw [doReturnWork_sup, setRunning_sup]
      split_ifs <;> simp
    · rw [doReturnWork_clock, setRunning_clock]
      split_ifs
      · rw [chaseProgramme_clock]
        exact ⟨by simp [paused], rfl, rfl⟩
      · exact ⟨by simp [paused], rfl, rfl⟩
    · rw [doReturnWork_water, setRunning_water]
      split_ifs <;> simp
    · rw [doReturnWork_fieldLines, setRunning_fieldLines]
      split_ifs <;> simp
  | stop running =>
    refine causeLaw_of_same law (by simp) ?_ (by simp) (by simp)
    rw [clearShow_clock]
    exact ⟨by rcases running with e | e <;> simp [e], rfl, rfl⟩
  | move time => exact causeLaw_of_same law rfl ⟨.rfl, rfl, rfl⟩ rfl rfl
  | seek time =>
    refine causeLaw_of_same law (by simp) ?_ (by simp) (by simp)
    rw [chaseAll_clock]
    exact ⟨.rfl, rfl, rfl⟩
  | lengthStopped length => exact causeLaw_of_same law rfl ⟨.rfl, rfl, rfl⟩ rfl rfl
  | lengthPaused length => exact causeLaw_of_same law rfl ⟨.rfl, rfl, rfl⟩ rfl rfl
  | place a c sh p =>
    unfold placeOn noticeLow
    split_ifs
    · exact causeLaw_setLink (causeLaw_setStore law)
    · exact causeLaw_setStore law
  | amendWaiting a c q p =>
    unfold amendWaiting
    dsimp only
    split_ifs <;> exact causeLaw_setStore law
  | amendTaken a c q p =>
    unfold amendTaken
    dsimp only
    split_ifs
    · exact causeLaw_setPlay (causeLaw_setChannels (causeLaw_setStore law))
    · exact causeLaw_setChannels (causeLaw_setStore law)
    · exact law
  | retire n c q =>
    unfold retireOn
    dsimp only
    split_ifs
    · exact causeLaw_setPlay (causeLaw_setChannels (causeLaw_setStore law))
    · exact causeLaw_setChannels (causeLaw_setStore law)
    · exact causeLaw_setStore law
  | retirePassed t channel c => exact causeLaw_setStore law
  | threshold n => exact causeLaw_setStore law
  | sense n x o k => exact causeLaw_setLights law
  | head a n outs resp => exact causeLaw_setLights law
  | scene l => exact causeLaw_setLights law
  | master v => exact causeLaw_setLights law
  | define n first length loop k => exact causeLaw_setPlay law
  | finish n k => exact causeLaw_setPlay law
  | reopen n k => exact causeLaw_setPlay law
  | dropSegment n k => exact causeLaw_setPlay law
  | format m f x => exact causeLaw_setPlay law
  | load n offset count frames k => exact causeLaw_setLink law
  | clearAttention k => exact causeLaw_setLink law
  | attentionMask k => exact causeLaw_setLink law
  | group a n pump valve wind => exact causeLaw_acceptGroup law
  | curve group curve n => exact causeLaw_of_critical law rfl rfl (sameCritical_setGroupRec_of rfl rfl)
  | windClass k lo hi floor c => exact causeLaw_of_critical law rfl rfl ⟨fun _ => rfl, fun _ => ⟨rfl, rfl⟩⟩
  | budget b => exact causeLaw_of_critical law rfl rfl ⟨fun _ => rfl, fun _ => ⟨rfl, rfl⟩⟩
  | line n c l r => exact causeLaw_of_critical law rfl rfl (sameCritical_setLineRec l r s)
  | node i l k => exact causeLaw_writeNode law
  | dropNode n i => exact causeLaw_dropNode law
  | rejoin n i => exact causeLaw_of_critical law rfl rfl (sameCritical_setNodeRec rfl)
  | mode m f x k other => exact causeLaw_setPlay (causeLaw_changeMode law other)
  | supervision c => exact causeLaw_applySupervision law
  | forceSafe => exact causeLaw_latch law (.inr rfl)

theorem advanceShow_same (s : State) : (advanceShow s).sup = s.sup ∧ (advanceShow s).water = s.water ∧
    (advanceShow s).fieldLines = s.fieldLines := by
  unfold advanceShow
  dsimp only
  split_ifs <;> simp

theorem causeLaw_showTick {s : State} (law : CauseLaw s) : CauseLaw (showTick s) := by
  unfold showTick
  dsimp only
  split_ifs with _ running
  · exact law
  · obtain ⟨sup, water, nodes⟩ := advanceShow_same (s.setClock { s.clock with ticksDue := s.clock.ticksDue - 1 })
    refine causeLaw_of_same law sup ?_ water nodes
    rw [advanceShow_clock]
    split_ifs
    · exact ⟨by simp [running], rfl, rfl⟩
    · exact ⟨.rfl, rfl, rfl⟩
  · exact causeLaw_of_same law rfl ⟨.rfl, rfl, rfl⟩ rfl rfl

theorem causeLaw_audioFrame {s : State} (law : CauseLaw s) : CauseLaw (audioFrame s) := by
  have counted (u : State) (hu : CauseLaw u) : CauseLaw (countFrame (buildFrame u)) := by
    refine causeLaw_of_same hu (by simp) ?_ (by simp) (by simp)
    rw [countFrame_clock, buildFrame_clock]
    split_ifs <;> exact ⟨.rfl, rfl, rfl⟩
  unfold audioFrame
  split_ifs with follow
  · exact counted _ (causeLaw_wordClockEdge law follow)
  · exact counted _ law

theorem causeLaw_event (i : Instr) (s t : State) (h : EventDoes s i t) (law : CauseLaw s) : CauseLaw t := by
  cases h with
  | nothing => exact law
  | link _ x => exact causeLaw_setLink law
  | written first frames => exact causeLaw_of_same law (by simp) (.of_eq (by simp)) (by simp) (by simp)
  | reset cause => exact causeLaw_pinReset cause s
  | audio => exact causeLaw_audioFrame law
  | tick => exact causeLaw_showTick law
  | segmentEnd v =>
    rcases segmentEnd_cases v s with ⟨_, _, _, _, _, e⟩ | e <;> rw [e]
    · exact causeLaw_of_same law rfl (.of_eq rfl) rfl rfl
    · exact law
  | fadeEnd =>
    unfold safeFadeEnd
    split_ifs
    · exact causeLaw_of_same law rfl (.of_eq rfl) rfl rfl
    · exact law
  | clockLoss => exact causeLaw_wordClockLoss law
  | clockEdge follow => exact causeLaw_wordClockEdge law follow
  | field _ _ reach => exact causeLaw_turnReach reach law
  | measured _ u same => exact causeLaw_setSup same law
  | accepted _ k u same => exact causeLaw_acceptLevel (causeLaw_setSup same law)
  | estop => exact causeLaw_estopFilterExpiry law
  | silence =>
    rcases silenceTimerExpiry_cases s with ⟨_, -, -, e⟩ | ⟨-, e⟩ <;> rw [e]
    · exact causeLaw_latch (causeLaw_of_same law rfl (.of_eq rfl) rfl rfl) (.inl rfl)
    · exact law
  | light => exact causeLaw_setNow (causeLaw_setLights (causeLaw_setLights law))
  | pwm => exact causeLaw_setLights law

/-- Settles O56: the law from every owner and every event. -/
theorem causeLawKept : Obligations.CauseLawKept := fun _ _ law step =>
  step_keeps (fun _ _ law => causeLaw_of_same law rfl (.of_eq rfl) rfl rfl)
    (fun _ _ _ => exec_keeps (fun _ _ law => causeLaw_of_same law rfl (.of_eq rfl) rfl rfl) causeLaw_owner causeLaw_event)
    law step

end Sys2Proof.Machine
end

section

/-! # Nodes, bindings, curves and speeds (R61 to R65, R80, R86, R99)

A write of a field line keeps who is bound to whom; only SET GROUP, SET NODE and DROP NODE change that, and each has made
the check that the law needs. -/

namespace Sys2Proof.Machine

open Sys2Proof.Safety

/-! ### What a node's record takes along -/

/-- A group with flags of its own is as it was otherwise. -/
def SameButFlags (g h : Group) : Prop := g = { h with flags := g.flags }

theorem groups_followLost (i : Fin 40) (k : NodeState) (n : Fin 32) (s : State) :
    SameButFlags (followLost i k s).water.groups[n] s.water.groups[n] := by
  have one (b : Bool) : SameButFlags (updatePumpGroup i (Group.setLost b) s).water.groups[n] s.water.groups[n] := by
    unfold updatePumpGroup
    split
    · rfl
    · rw [updateGroup, setGroupRec_groups]
      split_ifs with same
      · subst same; rfl
      · rfl
  unfold followLost
  split
  · exact one _
  · exact one _
  · rfl

theorem groups_writeNode (i : Fin 40) (m : Node) (n : Fin 32) (s : State) :
    SameButFlags (writeNode i m s).water.groups[n] s.water.groups[n] := by
  rcases writeNode_cases i m s with ⟨-, e⟩ | ⟨-, e⟩ <;> rw [e]
  · rfl
  · rw [evalCritical_water]
    exact groups_followLost i m.state n (setNodeRec i m s)

/-! ### Bindings (R80, R86, R88, R99) -/

/-- Who is bound to whom is as it was: the law is kept. -/
theorem bindingLaw_of {s t : State} (law : BindingLaw s)
    (nodes : ∀ i, ((t.node i).state = .absent ↔ (s.node i).state = .absent) ∧ SameNode (t.node i) (s.node i))
    (groups : ∀ n : Fin 32, t.water.groups[n].pumpNode = s.water.groups[n].pumpNode ∧
      t.water.groups[n].valve = s.water.groups[n].valve)
    (lines : ∀ l, ServesAsBefore s l (t.line l)) : BindingLaw t := by
  have pump n := (groups n).1
  have valve n := (groups n).2
  have present i : (t.node i).state ≠ .absent ↔ (s.node i).state ≠ .absent := not_congr (nodes i).1
  have same i := (nodes i).2
  refine ⟨fun i j ij hi hj hl => ?_, fun m n mn hm => ?_, fun m n mn hm => ?_, fun n i hn => ?_, fun n v hn => ?_,
    fun l x hx hd => ?_⟩
  · rw [(same i).2.1, (same j).2.1]
    rw [(same i).1, (same j).1] at hl
    exact law.addresses i j ij ((present i).1 hi) ((present j).1 hj) hl
  · rw [pump] at *
    rw [pump n]
    exact law.pumps m n mn hm
  · rw [valve] at *
    rw [valve n]
    exact law.valves m n mn hm
  · rw [pump] at hn
    rw [present, (same i).2.2]
    exact law.pumpBound n i hn
  · rw [valve] at hn
    rw [present, (same v.node).2.2]
    exact law.valveBound n v hn
  · rw [present, (same x.index).1]
    rcases lines l x hx hd with served | ⟨y, hy, index, hyd⟩
    · exact served
    · rw [← index]
      exact law.served l y hy hyd

theorem servesAsBefore_self (s : State) (l : Line) : ServesAsBefore s l (s.line l) :=
  fun x hx hd => .inr ⟨x, hx, rfl, hd⟩

/-- Neither the nodes nor the lines have changed, nor a binding. -/
theorem bindingLaw_of_groups {s t : State} (law : BindingLaw s) (fieldLines : t.fieldLines = s.fieldLines)
    (groups : ∀ n : Fin 32, t.water.groups[n].pumpNode = s.water.groups[n].pumpNode ∧
      t.water.groups[n].valve = s.water.groups[n].valve) : BindingLaw t := by
  have node i : t.node i = s.node i := by rw [State.node, fieldLines]; rfl
  have line l : t.line l = s.line l := by rw [State.line, fieldLines]; rfl
  refine bindingLaw_of law (fun i => ?_) groups (fun l => ?_)
  · rw [node]; exact ⟨.rfl, .refl _⟩
  · rw [line]; exact servesAsBefore_self s l

theorem bindingLaw_of_same {s t : State} (law : BindingLaw s) (fieldLines : t.fieldLines = s.fieldLines)
    (water : t.water = s.water) : BindingLaw t :=
  bindingLaw_of_groups law fieldLines fun n => by rw [water]; exact ⟨rfl, rfl⟩

theorem bindingLaw_setGroupRec {k : Fin 32} {g : Group} {s : State} (law : BindingLaw s)
    (pump : g.pumpNode = s.water.groups[k].pumpNode) (valve : g.valve = s.water.groups[k].valve) :
    BindingLaw (setGroupRec k g s) := by
  refine bindingLaw_of_groups law rfl fun n => ?_
  rw [setGroupRec_groups]
  split_ifs with same
  · subst same; exact ⟨pump, valve⟩
  · exact ⟨rfl, rfl⟩

theorem bindingLaw_setLineRec {l : Line} {r : LineRec} {s : State} (law : BindingLaw s) (serves : ServesAsBefore s l r) :
    BindingLaw (setLineRec l r s) := by
  refine bindingLaw_of law (fun i => ?_) (fun _ => ⟨rfl, rfl⟩) (fun m => ?_)
  · rw [State.node_setLineRec]; exact ⟨.rfl, .refl _⟩
  · rw [State.line_setLineRec]
    split_ifs with same
    · rw [same]; exact serves
    · exact servesAsBefore_self s m

/-- A node that is served is not ABSENT (R88, R100). -/
theorem present_of_served {i : Fin 40} {s : State} (law : BindingLaw s) (h : ServedNode s i) : (s.node i).state ≠ .absent := by
  rcases h with h | ⟨l, x, hx, hd, rfl⟩
  · exact h
  · exact (law.served l x hx hd).1

theorem bindingLaw_writeNode {i : Fin 40} {n : Node} {s : State} (law : BindingLaw s)
    (absent : n.state = .absent ↔ (s.node i).state = .absent) (same : SameNode n (s.node i)) :
    BindingLaw (writeNode i n s) := by
  refine bindingLaw_of law (fun j => ?_) (fun k => ?_) (fun l => ?_)
  · rw [node_writeNode]
    split_ifs with here
    · rw [← here]; exact ⟨absent, same⟩
    · exact ⟨.rfl, .refl _⟩
  · rw [groups_writeNode i n k s]; exact ⟨rfl, rfl⟩
  · rw [line_writeNode]; exact servesAsBefore_self s l

theorem bindingLaw_fieldWrite {s t : State} (h : FieldWrite s t) (law : BindingLaw s) : BindingLaw t := by
  cases h with
  | line l r _ serves => exact bindingLaw_setLineRec law serves
  | node i n _ state same =>
    rw [← writeNode_same state]
    exact bindingLaw_writeNode law (by rw [state]) same
  | leave i n _ _ present same served =>
    exact bindingLaw_writeNode law (iff_of_false present (present_of_served law served)) same
  | group k g _ same _ => exact bindingLaw_setGroupRec law same.2.1 same.2.2.1
  | raise c _ => exact bindingLaw_of_same law rfl rfl

theorem bindingLaw_turnReach {s t : State} (h : TurnReach s t) (law : BindingLaw s) : BindingLaw t :=
  h.keeps (fun _ _ => bindingLaw_fieldWrite)
    (fun _ _ _ present same served law =>
      bindingLaw_writeNode law (iff_of_false present (present_of_served law served)) same) law

/-! ### DROP NODE (R100) -/

/-- A node that is bound to no group leaves, and no exchange serves it that is not to be discarded. -/
theorem bindingLaw_dropped {i : Fin 40} {s t : State} (law : BindingLaw s) (unbound : nodeBound s i = false)
    (nodes : ∀ j, t.node j = if i = j then Node.absentRecord else s.node j)
    (groups : ∀ n : Fin 32, t.water.groups[n].pumpNode = s.water.groups[n].pumpNode ∧
      t.water.groups[n].valve = s.water.groups[n].valve)
    (lines : ∀ l x, (t.line l).exchange = some x → x.discard = false → x.index ≠ i ∧ (s.line l).exchange = some x) :
    BindingLaw t := by
  have other {j : Fin 40} (h : (t.node j).state ≠ .absent) : t.node j = s.node j := by
    rw [nodes] at h ⊢
    split_ifs at h ⊢
    · exact absurd rfl h
    · rfl
  have free (n : Fin 32) : s.water.groups[n].pumpNode ≠ some i ∧ (s.water.groups[n].valve.map (·.node)) ≠ some i := by
    have := List.any_eq_false.1 unbound n (List.mem_finRange n)
    simpa using this
  refine ⟨fun j k jk hj hk hl => ?_, fun m n mn hm => ?_, fun m n mn hm => ?_, fun n j hn => ?_, fun n v hn => ?_,
    fun l x hx hd => ?_⟩
  · rw [other hj, other hk] at *
    exact law.addresses j k jk hj hk hl
  · rw [(groups m).1] at *
    rw [(groups n).1]
    exact law.pumps m n mn hm
  · rw [(groups m).2] at *
    rw [(groups n).2]
    exact law.valves m n mn hm
  · rw [(groups n).1] at hn
    rw [nodes, if_neg fun e => (free n).1 (by rw [hn, e])]
    exact law.pumpBound n j hn
  · rw [(groups n).2] at hn
    rw [nodes, if_neg fun e => (free n).2 (by rw [hn, e]; rfl)]
    exact law.valveBound n v hn
  · obtain ⟨index, before⟩ := lines l x hx hd
    rw [nodes, if_neg (Ne.symm index)]
    exact law.served l x before hd

/-- The round goes on from the line without its exchange. -/
theorem reach_continueRound_cleared (l : Line) (i : Fin 40) (s : State) :
    FieldReach (setLineRec l { s.line l with exchange := none } s) (continueRound l i s) := by
  have run := reach_visitAll l ((List.finRange 40).drop (i.val + 1)) (setLineRec l { s.line l with exchange := none } s)
  unfold continueRound
  dsimp only
  split
  · rename_i e; rw [e] at run; exact run
  · rename_i e; rw [e] at run; exact run.trans (reach_endRound l _)

theorem bindingLaw_dropNode {i : Fin 40} {s : State} (law : BindingLaw s) (unbound : nodeBound s i = false) :
    BindingLaw (dropNode i s) := by
  have elsewhere (m : Line) (x : Exchange) (hm : m ≠ (s.node i).line) (hx : (s.line m).exchange = some x)
      (hd : x.discard = false) : x.index ≠ i := fun e => hm (e ▸ (law.served m x hx hd).2).symm
  have written (r : LineRec) (hr : ∀ x, r.exchange = some x → x.discard = false →
      x.index ≠ i ∧ (s.line (s.node i).line).exchange = some x) :
      BindingLaw (setLineRec (s.node i).line r (writeNode i Node.absentRecord s)) := by
    refine bindingLaw_dropped (i := i) law unbound (fun j => ?_) (fun n => ?_) (fun m x hx hd => ?_)
    · rw [State.node_setLineRec, node_writeNode]
    · rw [setLineRec_water, groups_writeNode i Node.absentRecord n s]; exact ⟨rfl, rfl⟩
    · rw [State.line_setLineRec] at hx
      split_ifs at hx with here
      · rw [here]; exact hr x hx hd
      · rw [line_writeNode] at hx
        exact ⟨elsewhere m x here hx hd, hx⟩
  by_cases served : ∃ x, (s.line (s.node i).line).exchange = some x ∧ x.index = i
  · obtain ⟨x, hx, hi⟩ := served
    cases between : x.betweenAttempts with
    | true =>
      rw [dropNode_between hx hi between]
      refine (reach_continueRound_cleared _ i _).keeps (fun _ _ => bindingLaw_fieldWrite) (written _ ?_)
      nofun
    | false =>
      rw [dropNode_onWire hx hi between]
      refine written _ fun y hy hd => ?_
      cases hy
      cases hd
  · rw [dropNode_unserved fun x hx index => served ⟨x, hx, index⟩]
    refine bindingLaw_dropped (i := i) law unbound (node_writeNode i · _ s) (fun n => ?_) (fun m x hx hd => ?_)
    · rw [groups_writeNode i Node.absentRecord n s]; exact ⟨rfl, rfl⟩
    · rw [line_writeNode] at hx
      refine ⟨fun index => served ⟨x, ?_, index⟩, hx⟩
      rw [← index, (law.served m x hx hd).2]
      exact hx

/-! ### SET NODE and SET GROUP (R80, R99) -/

/-- A new node has a line and address of its own, and no binding names it yet. -/
theorem bindingLaw_newNode {i : Fin 40} {n : Node} {s : State} (law : BindingLaw s) (absent : (s.node i).state = .absent)
    (free : addressTaken s n.line n.address = false) : BindingLaw (writeNode i n s) := by
  have other {j : Fin 40} (h : j ≠ i) : (writeNode i n s).node j = s.node j := by rw [node_writeNode, if_neg (Ne.symm h)]
  have self : (writeNode i n s).node i = n := by rw [node_writeNode, if_pos rfl]
  have there {j : Fin 40} (h : (s.node j).state ≠ .absent) : (writeNode i n s).node j = s.node j := by
    refine other ?_
    rintro rfl
    exact h absent
  have apart {j : Fin 40} (hj : (s.node j).state ≠ .absent) (line : n.line = (s.node j).line) : n.address ≠ (s.node j).address := by
    intro address
    have := List.any_eq_false.1 free (s.node j) (Vector.mem_toList_iff.2 (Vector.getElem_mem j.isLt))
    simp [line, address, hj] at this
  refine ⟨fun j k jk hj hk hl => ?_, fun m k mk hm => ?_, fun m k mk hm => ?_, fun k j hk => ?_, fun k v hk => ?_,
    fun l x hx hd => ?_⟩
  · by_cases ji : j = i
    · subst ji
      rw [other (Ne.symm jk)] at *
      rw [self] at *
      exact apart hk hl
    · by_cases ki : k = i
      · subst ki
        rw [other jk] at *
        rw [self] at *
        exact (apart hj hl.symm).symm
      · rw [other ji, other ki] at *
        exact law.addresses j k jk hj hk hl
  · rw [groups_writeNode i n m s] at *
    rw [groups_writeNode i n k s]
    exact law.pumps m k mk hm
  · rw [groups_writeNode i n m s] at *
    rw [groups_writeNode i n k s]
    exact law.valves m k mk hm
  · rw [groups_writeNode i n k s] at hk
    have bound := law.pumpBound k j hk
    rw [there bound.1]
    exact bound
  · rw [groups_writeNode i n k s] at hk
    have bound := law.valveBound k v hk
    rw [there bound.1]
    exact bound
  · rw [line_writeNode] at hx
    have served := law.served l x hx hd
    rw [there served.1]
    exact served

theorem acceptGroup_fieldLines (n : Fin 32) (g : Group) (s : State) : (acceptGroup n g s).fieldLines = s.fieldLines := by
  unfold acceptGroup
  dsimp only
  split_ifs <;> simp

theorem acceptGroup_water (n : Fin 32) (g : Group) (s : State) : (acceptGroup n g s).water = (setGroupRec n g s).water := by
  unfold acceptGroup
  dsimp only
  split_ifs <;> simp

theorem namesAbsent_false {pump : Option (Fin 40)} {valve : Option ValveBinding} {s : State}
    (h : namesAbsent s pump valve = false) : (∀ i, pump = some i → (s.node i).state ≠ .absent) ∧
      ∀ v, valve = some v → (s.node v.node).state ≠ .absent := by
  rw [namesAbsent, Bool.or_eq_false_iff] at h
  refine ⟨?_, ?_⟩
  · rintro i rfl
    simpa [nodeAbsent, State.node] using h.1
  · rintro v rfl
    simpa [nodeAbsent, State.node] using h.2

theorem namesWrongKind_false {pump : Option (Fin 40)} {valve : Option ValveBinding} {s : State}
    (h : namesWrongKind s pump valve = false) : (∀ i, pump = some i → (s.node i).kind = .pump) ∧
      ∀ v, valve = some v → (s.node v.node).kind = .valve := by
  rw [namesWrongKind, Bool.or_eq_false_iff] at h
  refine ⟨?_, ?_⟩
  · rintro i rfl
    have other : (s.node i).kind ≠ .valve := by simpa [State.node] using h.1
    cases kind : (s.node i).kind <;> simp_all
  · rintro v rfl
    have other : (s.node v.node).kind ≠ .pump := by simpa [State.node] using h.2
    cases kind : (s.node v.node).kind <;> simp_all

/-- A group's new bindings are of nodes that are there, of their kind, and free (R80). -/
theorem bindingLaw_acceptGroup {n : Fin 32} {g : Group} {s : State} (law : BindingLaw s)
    (present : namesAbsent s g.pumpNode g.valve = false) (kind : namesWrongKind s g.pumpNode g.valve = false)
    (bound : boundElsewhere s n g.pumpNode g.valve = false) : BindingLaw (acceptGroup n g s) := by
  have group (m : Fin 32) : (acceptGroup n g s).water.groups[m] = if n = m then g else s.water.groups[m] := by
    rw [acceptGroup_water, setGroupRec_groups]
  have node (i : Fin 40) : (acceptGroup n g s).node i = s.node i := by rw [State.node, acceptGroup_fieldLines]; rfl
  have line (l : Line) : (acceptGroup n g s).line l = s.line l := by rw [State.line, acceptGroup_fieldLines]; rfl
  have elsewhere {m : Fin 32} (h : m ≠ n) : (g.pumpNode ≠ none → s.water.groups[m].pumpNode ≠ g.pumpNode) ∧
      (g.valve ≠ none → s.water.groups[m].valve ≠ g.valve) := by
    have := List.any_eq_false.1 bound m (List.mem_finRange m)
    simpa [h, Option.isSome_iff_ne_none] using this
  refine ⟨fun i j ij hi hj hl => ?_, fun m k mk hm => ?_, fun m k mk hm => ?_, fun m i hm => ?_, fun m v hm => ?_,
    fun l x hx hd => ?_⟩
  · simp only [node] at *
    exact law.addresses i j ij hi hj hl
  · rw [group] at *
    rw [group]
    split_ifs at hm ⊢ with m_n k_n k_n
    · exact absurd (m_n.symm.trans k_n) mk
    · exact ((elsewhere (Ne.symm k_n)).1 hm).symm
    · intro e
      exact (elsewhere (Ne.symm m_n)).1 (e ▸ hm) e
    · exact law.pumps m k mk hm
  · rw [group] at *
    rw [group]
    split_ifs at hm ⊢ with m_n k_n k_n
    · exact absurd (m_n.symm.trans k_n) mk
    · exact ((elsewhere (Ne.symm k_n)).2 hm).symm
    · intro e
      exact (elsewhere (Ne.symm m_n)).2 (e ▸ hm) e
    · exact law.valves m k mk hm
  · rw [group] at hm
    rw [node]
    split_ifs at hm
    · exact ⟨(namesAbsent_false present).1 i hm, (namesWrongKind_false kind).1 i hm⟩
    · exact law.pumpBound m i hm
  · rw [group] at hm
    rw [node]
    split_ifs at hm
    · exact ⟨(namesAbsent_false present).2 v hm, (namesWrongKind_false kind).2 v hm⟩
    · exact law.valveBound m v hm
  · rw [line] at hx
    rw [node]
    exact law.served l x hx hd

/-! ### Curves and speeds (R61 to R65) -/

/-- What the law of R61 to R65 says of one group. -/
structure GroupFits (g : Group) : Prop where
  curve : curveAllZero g.curve = true ∨ curveValid g.curve = true
  enabled : g.enabled = true → curveValid g.curve = true ∧ g.pumpNode.isSome = true
  limits : g.heightLimit ≤ 6000 ∧ g.lead ≤ 5000 ∧ g.bypass ≤ 1000
  speeds : SpeedsFit g

theorem waterLaw_iff {s : State} : WaterLaw s ↔ ∀ n : Fin 32, GroupFits s.water.groups[n] := by
  constructor
  · rintro ⟨curve, enabled, limits, speeds, unbound⟩ n
    exact ⟨curve n, enabled n, limits n, (speeds n).1, (speeds n).2, unbound n⟩
  · intro h
    exact ⟨fun n => (h n).curve, fun n => (h n).enabled, fun n => (h n).limits,
      fun n => ⟨(h n).speeds.1, (h n).speeds.2.1⟩, fun n => (h n).speeds.2.2⟩

theorem waterLaw_setGroupRec {k : Fin 32} {g : Group} {s : State} (law : WaterLaw s) (fits : GroupFits g) :
    WaterLaw (setGroupRec k g s) := by
  rw [waterLaw_iff] at *
  intro n
  rw [setGroupRec_groups]
  split_ifs
  · exact fits
  · exact law n

theorem waterLaw_of_groups {s t : State} (law : WaterLaw s) (h : ∀ n : Fin 32, t.water.groups[n] = s.water.groups[n]) :
    WaterLaw t := by
  rw [waterLaw_iff] at *
  exact fun n => h n ▸ law n

theorem waterLaw_of_same {s t : State} (law : WaterLaw s) (h : t.water = s.water) : WaterLaw t :=
  waterLaw_of_groups law fun n => by rw [h]

theorem waterLaw_writeNode {i : Fin 40} {n : Node} {s : State} (law : WaterLaw s) : WaterLaw (writeNode i n s) := by
  rw [waterLaw_iff] at *
  intro k
  rw [groups_writeNode i n k s]
  obtain ⟨curve, enabled, limits, speeds⟩ := law k
  exact ⟨curve, enabled, limits, speeds⟩

/-- A group that is configured as before fits with its new speeds. -/
theorem groupFits_of_sameConfig {g h : Group} (fits : GroupFits h) (same : SameConfig g h) (speeds : SpeedsFit g) :
    GroupFits g := by
  obtain ⟨enabled, pump, -, limit, lead, bypass, -, curve⟩ := same
  refine ⟨?_, ?_, ?_, speeds⟩
  · rw [curve]; exact fits.curve
  · rw [curve, enabled, pump]; exact fits.enabled
  · rw [limit, lead, bypass]; exact fits.limits

theorem waterLaw_fieldWrite {s t : State} (h : FieldWrite s t) (law : WaterLaw s) : WaterLaw t := by
  cases h with
  | line l r _ _ => exact waterLaw_of_same law rfl
  | node i n _ _ _ => exact waterLaw_of_same law rfl
  | leave i n _ _ _ _ _ => exact waterLaw_writeNode law
  | group k g _ same speeds =>
    exact waterLaw_setGroupRec law (groupFits_of_sameConfig (waterLaw_iff.1 law k) same (speeds law))
  | raise c _ => exact waterLaw_of_same law rfl

theorem waterLaw_turnReach {s t : State} (h : TurnReach s t) (law : WaterLaw s) : WaterLaw t :=
  h.keeps (fun _ _ => waterLaw_fieldWrite) (fun _ _ _ _ _ _ => waterLaw_writeNode) law

theorem waterLaw_dropNode {i : Fin 40} {s : State} (law : WaterLaw s) : WaterLaw (dropNode i s) := by
  have node : WaterLaw (writeNode i Node.absentRecord s) := waterLaw_writeNode law
  unfold dropNode
  dsimp only
  split
  · exact node
  · split_ifs
    · exact node
    · exact (reach_continueRound _ _ _).keeps (fun _ _ => waterLaw_fieldWrite) node
    · exact waterLaw_of_same node rfl

/-- The ranges and the curve check of SET GROUP give the law (R80, R81). -/
theorem groupFits_configured {g : Group} {a : GroupArgs} {pump : Option (Fin 40)} {valve : Option ValveBinding}
    {wind : Option (Fin 4)} {s : State} (fits : GroupFits g) (pumpArg : a.pumpNode = pump.map (·.val))
    (range : groupInRange a = true) (curve : (a.enabled && curveAllZero g.curve) = false) :
    GroupFits (configuredGroup s g a pump valve wind) := by
  simp only [groupInRange, Bool.and_eq_true, decide_eq_true_eq, Bool.or_eq_true, Bool.not_eq_true'] at range
  obtain ⟨⟨⟨⟨⟨⟨⟨⟨⟨⟨height, lead⟩, -⟩, -⟩, -⟩, -⟩, -⟩, -⟩, bypass⟩, -⟩, pumped⟩ := range
  refine ⟨fits.curve, fun enabled => ?_, ⟨height, lead, bypass⟩, ?_⟩
  · have enabled : a.enabled = true := enabled
    refine ⟨?_, ?_⟩
    · rw [enabled, Bool.true_and] at curve
      exact fits.curve.resolve_left (by simp [curve])
    · rw [pumpArg, enabled] at pumped
      simpa [configuredGroup] using pumped
  · obtain ⟨issued, delivered, unbound⟩ := fits.speeds
    simp only [configuredGroup, SpeedsFit]
    by_cases changed : pump = g.pumpNode
    · subst changed
      simpa using ⟨issued, delivered, unbound⟩
    · simp [changed]

/-! ### Owners and events -/

/-- What each owner keeps. -/
def KeepsBindings (s t : State) : Prop := (BindingLaw s → BindingLaw t) ∧ (WaterLaw s → WaterLaw t)

theorem keepsBindings_of_same {s t : State} (water : t.water = s.water) (fieldLines : t.fieldLines = s.fieldLines) :
    KeepsBindings s t := ⟨(bindingLaw_of_same · fieldLines water), (waterLaw_of_same · water)⟩

theorem keepsBindings_of_onlySafe {s t : State} (h : OnlySafe s t) : KeepsBindings s t := by
  rw [show t = _ from h]
  exact keepsBindings_of_same rfl rfl

theorem groups_reset (n : Fin 32) : State.reset.water.groups[n] = Group.reset := by
  simp [State.reset, Water.reset]

theorem node_reset (i : Fin 40) : State.reset.node i = Node.absentRecord := by
  simp [State.node, State.reset, FieldLines.reset]

/-- After a pin reset no node is there and nothing is bound (R62, R86). -/
theorem bindingLaw_reset : BindingLaw State.reset := by
  refine ⟨fun i j _ hi => ?_, fun m n _ hm => ?_, fun m n _ hm => ?_, fun n i hn => ?_, fun n v hn => ?_, fun l x hx => ?_⟩
  · rw [node_reset] at hi; exact absurd rfl hi
  · rw [groups_reset] at hm; exact absurd rfl hm
  · rw [groups_reset] at hm; exact absurd rfl hm
  · rw [groups_reset] at hn; cases hn
  · rw [groups_reset] at hn; cases hn
  · cases l <;> cases hx

theorem waterLaw_reset : WaterLaw State.reset := by
  rw [waterLaw_iff]
  intro n
  rw [groups_reset]
  exact ⟨.inl (by decide), nofun, by decide, by decide, by decide, fun _ => ⟨rfl, rfl⟩⟩

theorem keepsBindings_owner (r : Request) (s t : State) (h : OwnerDoes s r t) : KeepsBindings s t := by
  cases h with
  | group a n pump valve wind pumpArg range present kind bound curve =>
    refine ⟨(bindingLaw_acceptGroup · present kind bound), fun law => ?_⟩
    refine waterLaw_of_same (waterLaw_setGroupRec law ?_) (acceptGroup_water _ _ s)
    exact groupFits_configured (waterLaw_iff.1 law n) pumpArg range curve
  | curve group curve n valid =>
    refine ⟨(bindingLaw_setGroupRec · rfl rfl), fun law => waterLaw_setGroupRec law ?_⟩
    obtain ⟨-, enabled, limits, speeds⟩ := waterLaw_iff.1 law n
    exact ⟨.inr valid, fun h => ⟨valid, (enabled h).2⟩, limits, speeds⟩
  | windClass k lo hi floor c =>
    exact ⟨(bindingLaw_of_groups · rfl fun _ => ⟨rfl, rfl⟩), (waterLaw_of_groups · fun _ => rfl)⟩
  | budget b => exact ⟨(bindingLaw_of_groups · rfl fun _ => ⟨rfl, rfl⟩), (waterLaw_of_groups · fun _ => rfl)⟩
  | line n c l r kept =>
    refine ⟨(bindingLaw_setLineRec · fun x hx hd => .inr ⟨x, ?_, rfl, hd⟩), (waterLaw_of_same · rfl)⟩
    rw [← kept]
    exact hx
  | node i l k node line address kind absent free =>
    exact ⟨(bindingLaw_newNode · absent free), waterLaw_writeNode⟩
  | dropNode n i present unbound => exact ⟨(bindingLaw_dropNode · unbound), waterLaw_dropNode⟩
  | rejoin n i =>
    rw [← writeNode_same (s := s) (i := i) (n := { s.node i with rejoin := true }) rfl]
    exact ⟨(bindingLaw_writeNode · .rfl ⟨rfl, rfl, rfl⟩), waterLaw_writeNode⟩
  | nothing => exact keepsBindings_of_same rfl rfl
  | start => exact keepsBindings_of_same (by simp) (by simp)
  | pause => exact keepsBindings_of_same rfl rfl
  | resume =>
    refine keepsBindings_of_same ?_ ?_
    · rw [doReturnWork_water, setRunning_water]
      split_ifs <;> simp
    · rw [doReturnWork_fieldLines, setRunning_fieldLines]
      split_ifs <;> simp
  | stop => exact keepsBindings_of_same (by simp) (by simp)
  | move => exact keepsBindings_of_same rfl rfl
  | seek => exact keepsBindings_of_same (by simp) (by simp)
  | lengthStopped => exact keepsBindings_of_same rfl rfl
  | lengthPaused => exact keepsBindings_of_same rfl rfl
  | place => rw [placeOn_frame]; exact keepsBindings_of_same rfl rfl
  | amendWaiting => rw [amendWaiting_frame]; exact keepsBindings_of_same rfl rfl
  | amendTaken => rw [amendTaken_frame]; exact keepsBindings_of_same rfl rfl
  | retire => rw [retireOn_frame]; exact keepsBindings_of_same rfl rfl
  | retirePassed => rw [retirePassedOn_frame]; exact keepsBindings_of_same rfl rfl
  | threshold => exact keepsBindings_of_same rfl rfl
  | sense => exact keepsBindings_of_same rfl rfl
  | head => exact keepsBindings_of_same rfl rfl
  | scene => exact keepsBindings_of_same rfl rfl
  | master => exact keepsBindings_of_same rfl rfl
  | define => exact keepsBindings_of_same rfl rfl
  | load => exact keepsBindings_of_same rfl rfl
  | finish => exact keepsBindings_of_same rfl rfl
  | reopen => exact keepsBindings_of_same rfl rfl
  | dropSegment => exact keepsBindings_of_same rfl rfl
  | format => exact keepsBindings_of_same rfl rfl
  | mode => rw [changeMode_frame]; exact keepsBindings_of_same rfl rfl
  | supervision c => exact keepsBindings_of_onlySafe (onlySafe_applySupervision s c)
  | forceSafe => exact keepsBindings_of_onlySafe (onlySafe_addCause s .forced)
  | clearSafe => exact keepsBindings_of_same (by simp) (by simp)
  | clearAttention => exact keepsBindings_of_same rfl rfl
  | attentionMask => exact keepsBindings_of_same rfl rfl
  | restart => rw [restartClock_frame]; exact keepsBindings_of_same rfl rfl

theorem keepsBindings_event (i : Instr) (s t : State) (h : EventDoes s i t) : KeepsBindings s t := by
  cases h with
  | nothing => exact keepsBindings_of_same rfl rfl
  | link => exact keepsBindings_of_same rfl rfl
  | written => exact keepsBindings_of_same (by simp) (by simp)
  | reset cause =>
    have frame : OnlySafe _ _ := pinReset_frame s cause
    rw [show pinReset cause s = _ from frame]
    exact ⟨fun _ => bindingLaw_of_same bindingLaw_reset rfl rfl, fun _ => waterLaw_of_same waterLaw_reset rfl⟩
  | audio => rw [audioFrame_frame]; exact keepsBindings_of_same rfl rfl
  | tick => rw [showTick_frame]; exact keepsBindings_of_same rfl rfl
  | segmentEnd v => rw [segmentEnd_frame]; exact keepsBindings_of_same rfl rfl
  | fadeEnd => rw [safeFadeEnd_frame]; exact keepsBindings_of_same rfl rfl
  | clockLoss => exact keepsBindings_of_onlySafe (onlySafe_wordClockLoss s)
  | clockEdge => exact keepsBindings_of_same rfl rfl
  | field _ _ reach => exact ⟨bindingLaw_turnReach reach, waterLaw_turnReach reach⟩
  | measured => exact keepsBindings_of_same rfl rfl
  | accepted _ k u => exact keepsBindings_of_onlySafe ((by rfl : OnlySafe s (s.setSup u)).trans (onlySafe_acceptLevel _ k))
  | estop => exact keepsBindings_of_onlySafe (onlySafe_estopFilterExpiry s)
  | silence => exact keepsBindings_of_onlySafe (onlySafe_silenceTimerExpiry s)
  | light => rw [lightUpdate_frame]; exact keepsBindings_of_same rfl rfl
  | pwm => rw [pwmFrameBoundary_frame]; exact keepsBindings_of_same rfl rfl

/-- Settles O57: both laws from every owner and every event. -/
theorem bindingAndWaterLawsKept : Obligations.BindingAndWaterLawsKept := by
  intro s t step
  have link : ∀ u x, KeepsBindings s u → KeepsBindings s (u.setLink x) :=
    fun _ _ h => ⟨fun law => bindingLaw_of_same (h.1 law) rfl rfl, fun law => waterLaw_of_same (h.2 law) rfl⟩
  have queue : ∀ u q, KeepsBindings s u → KeepsBindings s (u.withQueue q) :=
    fun _ _ h => ⟨fun law => bindingLaw_of_same (h.1 law) rfl rfl, fun law => waterLaw_of_same (h.2 law) rfl⟩
  refine step_keeps (P := KeepsBindings s) queue (fun _ _ _ => exec_keeps link ?_ ?_) ⟨id, id⟩ step
  · intro r u v does h
    obtain ⟨binding, water⟩ := keepsBindings_owner r u v does
    exact ⟨binding ∘ h.1, water ∘ h.2⟩
  · intro i u v does h
    obtain ⟨binding, water⟩ := keepsBindings_event i u v does
    exact ⟨binding ∘ h.1, water ∘ h.2⟩

end Sys2Proof.Machine
end

section

/-! # Lights, sample memory and the link (R119, R121, R135, R155, R157)

What each owner and each event makes of the outputs and heads, of the bytes of sample memory, and of the link record. -/

namespace Sys2Proof.Machine

open Sys2Proof.Safety

/-! ### Lights -/

/-- The outputs that a head's assignment names. -/
def Head.named (h : Head) : List (Fin 64) := (h.outputs.map HeadOutputs.list).getD []

theorem headNames_iff {h : Head} {o : Fin 64} : headNames h o = true ↔ o ∈ Head.named h := by
  unfold headNames Head.named
  cases h.outputs <;> simp

theorem named_nodup {h : Head} (distinct : h.outputs.any repeatsOutput = false) : (Head.named h).Nodup := by
  unfold Head.named
  cases outs : h.outputs with
  | none => simp
  | some a => simpa [outs, repeatsOutput] using distinct

theorem named_disjoint {n k : Fin 16} {h : Head} {s : State} (free : h.outputs.any (namedElsewhere s n) = false)
    (kn : k ≠ n) : List.Disjoint (Head.named h) (Head.named s.lights.heads[k]) := by
  intro o ho hk
  unfold Head.named at ho
  cases outs : h.outputs with
  | none => simp [outs] at ho
  | some a =>
    rw [outs] at free ho
    have named := List.any_eq_false.1 free k (List.mem_finRange k)
    rw [bne_iff_ne.2 kn, Bool.true_and] at named
    exact named (List.any_eq_true.2 ⟨o, ho, headNames_iff.2 hk⟩)

/-- What an owner can do to the outputs and the heads: nothing, give a sense once, or write a head that names no output
twice and none of another head (R120, R122). -/
inductive LightsDo (l : Lights) : Lights → Prop
  | kept (u : Lights) (outputs : u.outputs = l.outputs) (heads : u.heads = l.heads) : LightsDo l u
  | sense (o : Fin 64) (k : Sense) (unset : l.outputs[o].sense = .unset) (given : k ≠ .unset) :
      LightsDo l { l with outputs := l.outputs.set o { l.outputs[o] with sense := k } }
  | head (n : Fin 16) (h : Head) (distinct : (Head.named h).Nodup)
      (free : ∀ k, k ≠ n → List.Disjoint (Head.named h) (Head.named l.heads[k])) :
      LightsDo l { l with heads := l.heads.set n h }

theorem LightsDo.same {l u : Lights} (h : u = l) : LightsDo l u := by
  rw [h]; exact .kept _ rfl rfl

theorem lightsDo_of_safeAtMost {s s' t : State} (h : SafeAtMost s' t) (same : s'.lights = s.lights) :
    LightsDo s.lights t.lights := by
  rcases h.entry with ⟨-, e, -⟩ | ⟨-, -, e, -⟩ <;> rw [e, same]
  · exact .same rfl
  · exact .kept _ rfl rfl

theorem doReturnWork_lights (s : State) : ∃ b, (doReturnWork s).lights = { s.lights with blend := b } := by
  unfold doReturnWork
  split_ifs
  · exact ⟨_, rfl⟩
  · exact ⟨s.lights.blend, rfl⟩

theorem owner_lights {r : Request} {s t : State} (h : OwnerDoes s r t) : LightsDo s.lights t.lights := by
  cases h with
  | sense n x o k unset given => exact .sense o k unset given
  | head a n outs resp distinct free => exact .head n _ (named_nodup distinct) fun k => named_disjoint free
  | scene l => exact .kept _ rfl rfl
  | master v => exact .kept _ rfl rfl
  | start =>
    obtain ⟨b, e⟩ := doReturnWork_lights (setRunning (chaseAll s.clock.showTime s.clock.showTime s))
    rw [e, setRunning_lights, chaseAll_lights]
    exact .kept _ rfl rfl
  | resume =>
    obtain ⟨b, e⟩ := doReturnWork_lights
      (setRunning (if s.clock.returnPending then chaseProgramme s.clock.showTime s else s))
    rw [e, setRunning_lights]
    split_ifs
    · rw [chaseProgramme_lights]; exact .kept _ rfl rfl
    · exact .kept _ rfl rfl
  | stop => exact .same (by simp)
  | seek => exact .same (by simp)
  | place => rw [placeOn_frame]; exact .same rfl
  | amendWaiting => rw [amendWaiting_frame]; exact .same rfl
  | amendTaken => rw [amendTaken_frame]; exact .same rfl
  | retire => rw [retireOn_frame]; exact .same rfl
  | retirePassed => rw [retirePassedOn_frame]; exact .same rfl
  | line => exact .same (by simp)
  | group a n pump valve wind =>
    obtain ⟨st, bound, -⟩ := acceptGroup_bound n (configuredGroup s s.water.groups[n] a pump valve wind) s
    exact lightsDo_of_safeAtMost bound rfl
  | node i l k => exact lightsDo_of_safeAtMost (safeAtMost_writeNode i _ s) rfl
  | dropNode n i => exact lightsDo_of_safeAtMost (safeAtMost_dropNode i s) rfl
  | mode => rw [changeMode_frame]; exact .same rfl
  | supervision c =>
    obtain ⟨since, bound⟩ := applySupervision_bound c s
    exact lightsDo_of_safeAtMost bound rfl
  | forceSafe => exact lightsDo_of_safeAtMost (safeAtMost_addCause .forced s) rfl
  | clearSafe => exact .same (by simp)
  | restart => rw [restartClock_frame]; exact .same (by simp [restartTime, restartLink])
  | _ => exact .same rfl

/-- An event that is neither a light update, nor a PWM frame, nor a pin reset leaves the outputs and the heads alone. -/
theorem event_lights {i : Instr} {s t : State} (h : EventDoes s i t) : LightsDo s.lights t.lights ∨
    (i = .lightUpdate ∧ t = lightUpdate s) ∨ (i = .pwmFrameBoundary ∧ t = pwmFrameBoundary s) ∨
      ∃ cause, i = .pinReset cause ∧ t = pinReset cause s := by
  cases h with
  | light => exact .inr (.inl ⟨rfl, rfl⟩)
  | pwm => exact .inr (.inr (.inl ⟨rfl, rfl⟩))
  | reset cause => exact .inr (.inr (.inr ⟨cause, rfl, rfl⟩))
  | nothing => exact .inl (.same rfl)
  | link => exact .inl (.same rfl)
  | written => exact .inl (.same (by simp))
  | audio => rw [audioFrame_frame]; exact .inl (.same rfl)
  | tick => rw [showTick_frame]; exact .inl (.same rfl)
  | segmentEnd v => rw [segmentEnd_frame]; exact .inl (.same rfl)
  | fadeEnd => rw [safeFadeEnd_frame]; exact .inl (.same rfl)
  | clockLoss =>
    unfold wordClockLoss
    split_ifs
    · exact .inl (lightsDo_of_safeAtMost (safeAtMost_addCause _ _) rfl)
    · exact .inl (.same rfl)
  | clockEdge => exact .inl (.same (by simp))
  | field _ _ reach => exact .inl (lightsDo_of_safeAtMost (safeAtMost_turnReach reach) rfl)
  | measured => exact .inl (.same rfl)
  | accepted _ k u => exact .inl (lightsDo_of_safeAtMost (safeAtMost_acceptLevel k (s.setSup u)) rfl)
  | estop => exact .inl (lightsDo_of_safeAtMost (safeAtMost_estopFilterExpiry s) rfl)
  | silence =>
    obtain ⟨since, bound⟩ := silenceTimerExpiry_bound s
    exact .inl (lightsDo_of_safeAtMost bound rfl)

/-! ### The law of the lights -/

/-- The lists that the entries of a vector give hold nothing twice: no list does, and no two share an element. -/
theorem nodup_flatMap_vector {α β : Type} {n : Nat} {v : Vector α n} {f : α → List β} : (v.toList.flatMap f).Nodup ↔
    (∀ i : Fin n, (f v[i]).Nodup) ∧ ∀ i j : Fin n, i ≠ j → List.Disjoint (f v[i]) (f v[j]) := by
  have entries : v.toList = (List.finRange n).map (fun i => v[i]) := List.ext_getElem (by simp) fun k _ _ => by simp
  rw [entries, List.flatMap_map, List.nodup_flatMap]
  constructor
  · rintro ⟨each, apart⟩
    have symm : Std.Symm (Function.onFun List.Disjoint fun i : Fin n => f v[i]) := ⟨fun _ _ h => h.symm⟩
    exact ⟨fun i => each i (List.mem_finRange i), fun i j ij =>
      apart.forall (List.mem_finRange i) (List.mem_finRange j) ij⟩
  · rintro ⟨each, apart⟩
    exact ⟨fun i _ => each i, (List.nodup_finRange n).imp fun ij => apart _ _ ij⟩

/-- No output is named twice: not within a head, nor by two heads. -/
theorem namedOutputs_nodup {u : Lights} : (namedOutputs u).Nodup ↔
    (∀ n : Fin 16, (Head.named u.heads[n]).Nodup) ∧
      ∀ m n : Fin 16, m ≠ n → List.Disjoint (Head.named u.heads[m]) (Head.named u.heads[n]) :=
  nodup_flatMap_vector (v := u.heads) (f := Head.named)

theorem namedOutputs_setHead {n : Fin 16} {h : Head} {l : Lights} (law : (namedOutputs l).Nodup)
    (own : (Head.named h).Nodup) (away : ∀ k, k ≠ n → List.Disjoint (Head.named h) (Head.named l.heads[k])) :
    (namedOutputs { l with heads := l.heads.set n h }).Nodup := by
  rw [namedOutputs_nodup] at *
  obtain ⟨each, apart⟩ := law
  have here (k : Fin 16) : (l.heads.set n h)[k] = if n = k then h else l.heads[k] := by
    simp [Vector.getElem_set, Fin.ext_iff]
  refine ⟨fun k => ?_, fun j k jk => ?_⟩
  · rw [here]
    split_ifs
    · exact own
    · exact each k
  · rw [here, here]
    split_ifs with j_n k_n k_n
    · exact absurd (j_n.symm.trans k_n) jk
    · exact away k (Ne.symm k_n)
    · exact (away j (Ne.symm j_n)).symm
    · exact apart j k jk

/-- The names are those of the heads alone. -/
theorem namedOutputs_congr {l u : Lights} (h : u.heads = l.heads) : namedOutputs u = namedOutputs l := by
  rw [namedOutputs, h]
  rfl

theorem lightLaw_lightsDo {l u : Lights} (h : LightsDo l u) (law : LightLaw l) : LightLaw u := by
  cases h with
  | kept _ outputs heads =>
    refine ⟨?_, fun o => ?_⟩
    · rw [namedOutputs_congr heads]
      exact law.named
    · rw [outputs]
      exact law.unset o
  | sense o k unset given =>
    refine ⟨law.named, fun p hp => ?_⟩
    have here : (l.outputs.set o { l.outputs[o] with sense := k })[p] =
        if o = p then { l.outputs[o] with sense := k } else l.outputs[p] := by
      simp [Vector.getElem_set, Fin.ext_iff]
    rw [here] at hp ⊢
    split_ifs at hp ⊢
    · exact absurd hp given
    · exact law.unset p hp
  | head n h distinct free => exact ⟨namedOutputs_setHead law.named distinct free, law.unset⟩

/-- A light update gives an UNSET output the code 0 (R129). -/
theorem lightUpdate_outputs (s : State) (o : Fin 64) : ∃ code, (lightUpdate s).lights.outputs[o] =
    { s.lights.outputs[o] with buffered := code } ∧ (s.lights.outputs[o].sense = .unset → code = 0) := by
  refine ⟨outputCode (s.setLights { s.lights with blend := s.lights.blend.advance }) o, by simp [lightUpdate], fun unset => ?_⟩
  exact if_pos unset

theorem lightUpdate_heads (s : State) : (lightUpdate s).lights.heads = s.lights.heads := by
  simp only [lightUpdate, State.setNow_lights, State.setLights_lights]

theorem pwmFrameBoundary_heads (s : State) : (pwmFrameBoundary s).lights.heads = s.lights.heads := by
  simp only [pwmFrameBoundary, State.setLights_lights]

theorem pwmFrameBoundary_outputs (s : State) (o : Fin 64) : (pwmFrameBoundary s).lights.outputs[o] =
    { s.lights.outputs[o] with
      committed := s.lights.outputs[o].buffered, driven := s.lights.outputs[o].sense != .unset } := by
  simp [pwmFrameBoundary]

theorem lightLaw_reset : LightLaw Lights.reset := ⟨by decide, fun o _ => by simp [Lights.reset]⟩

theorem pinReset_lights (cause : PinResetCause) (s : State) : LightsDo Lights.reset (pinReset cause s).lights :=
  lightsDo_of_safeAtMost (pinReset_bound cause s) rfl

/-- A law of a head and an output each keeps, where the heads are the same. -/
theorem lightLaw_of_outputs {l u : Lights} (law : LightLaw l) (heads : u.heads = l.heads)
    (unset : ∀ o : Fin 64, u.outputs[o].sense = .unset →
      u.outputs[o].buffered = 0 ∧ u.outputs[o].committed = 0 ∧ u.outputs[o].driven = false) : LightLaw u :=
  ⟨by rw [namedOutputs_congr heads]; exact law.named, unset⟩

theorem lightLaw_event {i : Instr} {s t : State} (h : EventDoes s i t) (law : LightLaw s.lights) : LightLaw t.lights := by
  rcases event_lights h with kept | ⟨-, e⟩ | ⟨-, e⟩ | ⟨cause, -, e⟩
  · exact lightLaw_lightsDo kept law
  · rw [e]
    refine lightLaw_of_outputs law (lightUpdate_heads s) fun o ho => ?_
    obtain ⟨code, written, zero⟩ := lightUpdate_outputs s o
    rw [written] at ho ⊢
    exact ⟨zero ho, (law.unset o ho).2⟩
  · rw [e]
    refine lightLaw_of_outputs law (pwmFrameBoundary_heads s) fun o ho => ?_
    rw [pwmFrameBoundary_outputs] at ho ⊢
    have ho : s.lights.outputs[o].sense = .unset := ho
    exact ⟨(law.unset o ho).1, (law.unset o ho).1, bne_eq_false_iff_eq.2 ho⟩
  · rw [e]
    exact lightLaw_lightsDo (pinReset_lights cause s) lightLaw_reset

/-- The outputs after an owner's action: a sense given once, and no code or pin changed (R120, R129, R130). -/
theorem LightsDo.outputs {l u : Lights} (h : LightsDo l u) (o : Fin 64) :
    ∃ k, u.outputs[o] = { l.outputs[o] with sense := k } ∧ (l.outputs[o].sense ≠ .unset → k = l.outputs[o].sense) := by
  cases h with
  | kept _ outputs _ => exact ⟨_, by rw [outputs], fun _ => rfl⟩
  | sense p k unset given =>
    by_cases same : p = o
    · subst same
      exact ⟨k, by simp, fun given => absurd unset given⟩
    · exact ⟨l.outputs[o].sense, by simp [Fin.val_ne_of_ne same], fun _ => rfl⟩
  | head n h _ _ => exact ⟨_, rfl, fun _ => rfl⟩

/-- Settles O44: an owner gives a sense at most, and of the events only a light update and a PWM frame touch an output. -/
theorem lightOutputsChangeOnlyAtTheirEvents : Obligations.LightOutputsChangeOnlyAtTheirEvents := by
  intro i s t h notReset o
  have kept (does : LightsDo s.lights t.lights) :
      (s.lights.outputs[o].sense ≠ .unset → t.lights.outputs[o].sense = s.lights.outputs[o].sense) ∧
        (i ≠ .pwmFrameBoundary → t.lights.outputs[o].committed = s.lights.outputs[o].committed ∧
          t.lights.outputs[o].driven = s.lights.outputs[o].driven) ∧
        (i ≠ .lightUpdate → t.lights.outputs[o].buffered = s.lights.outputs[o].buffered) := by
    obtain ⟨k, e, once⟩ := does.outputs o
    rw [e]
    exact ⟨once, fun _ => ⟨rfl, rfl⟩, fun _ => rfl⟩
  cases exec_does h with
  | owner r bytes due free brings =>
    obtain ⟨x, e⟩ := settle_blocks (handle r) (s.setLink (takenLink bytes r s))
    have does := owner_lights (handle_does r (s.setLink (takenLink bytes r s)))
    refine kept ?_
    rw [setRowDue, e, State.setLink_lights, State.setLink_lights]
    exact does
  | event t does =>
    rcases event_lights does with does | ⟨rfl, rfl⟩ | ⟨rfl, rfl⟩ | ⟨cause, rfl, -⟩
    · exact kept does
    · obtain ⟨code, e, -⟩ := lightUpdate_outputs s o
      rw [e]
      exact ⟨fun _ => rfl, fun _ => ⟨rfl, rfl⟩, fun h => absurd rfl h⟩
    · rw [pwmFrameBoundary_outputs]
      exact ⟨fun _ => rfl, fun h => absurd rfl h, fun _ => rfl⟩
    · exact absurd rfl (notReset cause)

/-! ### Sample memory (R135) -/

/-- The segments and the bytes of sample memory are as they were. -/
def SameSamples (p q : Playback) : Prop := q.segments = p.segments ∧ q.memory = p.memory

section
variable (p : Playback)

theorem SameSamples.refl : SameSamples p p := ⟨rfl, rfl⟩

theorem sameSamples_beginSafeFade (fade : Nat) : SameSamples p (p.beginSafeFade fade) := by
  unfold Playback.beginSafeFade
  split_ifs <;> exact .refl _

theorem sameSamples_actPlay (segment : Fin 64) (gain dispatch ramp cue t : Nat) :
    SameSamples p (p.actPlay segment gain dispatch ramp cue t) := by
  unfold Playback.actPlay
  dsimp only
  split_ifs <;> exact .refl _

theorem sameSamples_handOver (c : Cue) (t : Nat) : SameSamples p (p.handOver c t) := by
  unfold Playback.handOver
  split
  · exact sameSamples_actPlay ..
  all_goals exact .refl _

theorem sameSamples_amendTaken (c : Cue) (t : Nat) : SameSamples p (p.amendTaken c t) := by
  unfold Playback.amendTaken
  split <;> exact .refl _

theorem sameSamples_chase (cues : List Cue) (rec : ChannelRec) (t : Nat) : SameSamples p (p.chase cues rec t) := by
  unfold Playback.chase
  dsimp only
  split
  · exact .refl _
  · split
    · split <;> exact .refl _
    · exact .refl _

theorem sameSamples_safeFrame (t : Nat) (origin : ClockState) : SameSamples p (p.safeFrame t origin) := by
  unfold Playback.safeFrame
  dsimp only
  split_ifs <;> exact .refl _

end

section
variable (s : State)

theorem sameSamples_handOverChase {u : State} (t : Nat) (h : u.play = s.play) :
    SameSamples s.play (handOverChase t u).play := by
  rw [handOverChase, State.setPlay_play, h]
  exact sameSamples_chase ..

theorem sameSamples_chaseAll (t t0 : Nat) : SameSamples s.play (chaseAll t t0 s).play := by
  unfold chaseAll
  exact sameSamples_handOverChase s t (by simp)

theorem sameSamples_chaseProgramme (t : Nat) : SameSamples s.play (chaseProgramme t s).play := by
  unfold chaseProgramme
  exact sameSamples_handOverChase s t (by simp)

theorem sameSamples_takeDue (t : Nat) : SameSamples s.play (takeDue t s).play := by
  unfold takeDue
  dsimp only
  generalize (Vector.ofFn _ : Vector (List Cue) 49) = tl
  generalize (Vector.ofFn _ : Vector ChannelRec 49) = recs
  cases actingCue t s.store.timelines[programme]
  · split_ifs <;> exact .refl _
  · split_ifs <;> exact sameSamples_handOver ..

theorem sameSamples_clearShow : SameSamples s.play (clearShow s).play := by
  unfold clearShow
  dsimp only
  rw [State.setPlay_play, State.setChannels_play, State.setStore_play]
  exact .refl _

theorem sameSamples_showTick : SameSamples s.play (showTick s).play := by
  unfold showTick advanceShow
  dsimp only
  split_ifs
  · exact .refl _
  · rw [raise_play, recordCompletions_play]; exact .refl _
  · exact sameSamples_takeDue _ _
  · exact .refl _

theorem sameSamples_amendTakenOn (c : Fin 49) (q r : Cue) : SameSamples s.play (amendTaken c q r s).play := by
  unfold amendTaken
  dsimp only
  split_ifs
  · exact sameSamples_amendTaken ..
  · exact .refl _
  · exact .refl _

theorem sameSamples_retireOn (c : Fin 49) (q : Cue) : SameSamples s.play (retireOn c q s).play := by
  unfold retireOn
  dsimp only
  split_ifs <;> exact .refl _

theorem sameSamples_restartClock : SameSamples s.play (restartClock s).play := by
  unfold restartClock
  split_ifs <;> exact .refl _

theorem sameSamples_buildFrame : SameSamples s.play (buildFrame s).play := by
  unfold buildFrame
  split
  · exact .refl _
  · exact sameSamples_safeFrame ..
  · exact .refl _
  · exact .refl _

theorem sameSamples_audioFrame : SameSamples s.play (audioFrame s).play := by
  unfold audioFrame
  rw [countFrame_play]
  split_ifs
  · exact sameSamples_buildFrame (wordClockEdge s)
  · exact sameSamples_buildFrame s

theorem sameSamples_segmentEnd (i : VoiceId) : SameSamples s.play (segmentEnd i s).play := by
  rcases segmentEnd_cases i s with ⟨_, _, _, _, _, e⟩ | e <;> rw [e]
  · cases i <;> exact .refl _
  · exact .refl _

theorem sameSamples_safeFadeEnd : SameSamples s.play (safeFadeEnd s).play := by
  unfold safeFadeEnd
  split_ifs <;> exact .refl _

end

theorem sameSamples_of_safeAtMost {s s' t : State} (h : SafeAtMost s' t) (same : s'.play = s.play) :
    SameSamples s.play t.play := by
  rcases h.entry with ⟨-, -, e⟩ | ⟨-, -, -, ⟨fade, e⟩, -⟩ <;> rw [e, same]
  · exact .refl _
  · exact sameSamples_beginSafeFade ..

/-- An owner changes the segments' records at most. -/
theorem owner_samples {r : Request} {s t : State} (h : OwnerDoes s r t) :
    SameSamples s.play t.play ∨ ∃ k g, t = setSegment k g s := by
  cases h with
  | define n first length loop k => exact .inr ⟨k, _, rfl⟩
  | finish n k => exact .inr ⟨k, _, rfl⟩
  | reopen n k => exact .inr ⟨k, _, rfl⟩
  | dropSegment n k => exact .inr ⟨k, _, rfl⟩
  | start =>
    rw [doReturnWork_play, setRunning_play]
    exact .inl (sameSamples_chaseAll ..)
  | resume =>
    rw [doReturnWork_play, setRunning_play]
    split_ifs
    · exact .inl (sameSamples_chaseProgramme ..)
    · exact .inl (.refl _)
  | stop => exact .inl (sameSamples_clearShow _)
  | seek => exact .inl (sameSamples_chaseAll ..)
  | place => rw [placeOn_frame]; exact .inl (.refl _)
  | amendWaiting => rw [amendWaiting_frame]; exact .inl (.refl _)
  | amendTaken => exact .inl (sameSamples_amendTakenOn ..)
  | retire => exact .inl (sameSamples_retireOn ..)
  | retirePassed => rw [retirePassedOn_frame]; exact .inl (.refl _)
  | line => rw [setLineRec_play]; exact .inl (.refl _)
  | group a n pump valve wind =>
    obtain ⟨st, bound, -⟩ := acceptGroup_bound n (configuredGroup s s.water.groups[n] a pump valve wind) s
    exact .inl (sameSamples_of_safeAtMost bound rfl)
  | node i l k => exact .inl (sameSamples_of_safeAtMost (safeAtMost_writeNode i _ s) rfl)
  | dropNode n i => exact .inl (sameSamples_of_safeAtMost (safeAtMost_dropNode i s) rfl)
  | mode => rw [changeMode_frame]; exact .inl ⟨rfl, rfl⟩
  | supervision c =>
    obtain ⟨since, bound⟩ := applySupervision_bound c s
    exact .inl (sameSamples_of_safeAtMost bound rfl)
  | forceSafe => exact .inl (sameSamples_of_safeAtMost (safeAtMost_addCause .forced s) rfl)
  | restart => exact .inl (sameSamples_restartClock _)
  | _ => exact .inl (.refl _)

/-- An event writes sample memory only where a load is done, and at a pin reset. -/
theorem event_samples {i : Instr} {s t : State} (h : EventDoes s i t) : SameSamples s.play t.play ∨
    (∃ first frames, s.link.state = .handling (.writing first frames) ∧ writesExist first frames = true ∧
      t = finishLoad first frames s) ∨ ∃ cause, t = pinReset cause s := by
  cases h with
  | written first frames writing fit => exact .inr (.inl ⟨first, frames, writing, fit, rfl⟩)
  | reset cause => exact .inr (.inr ⟨cause, rfl⟩)
  | nothing => exact .inl (.refl _)
  | link => exact .inl (.refl _)
  | audio => exact .inl (sameSamples_audioFrame s)
  | tick => exact .inl (sameSamples_showTick s)
  | segmentEnd v => exact .inl (sameSamples_segmentEnd s v)
  | fadeEnd => exact .inl (sameSamples_safeFadeEnd s)
  | clockLoss =>
    unfold wordClockLoss
    split_ifs
    · exact .inl (sameSamples_of_safeAtMost (safeAtMost_addCause _ _) rfl)
    · exact .inl (.refl _)
  | clockEdge => exact .inl (.refl _)
  | field _ _ reach => exact .inl (sameSamples_of_safeAtMost (safeAtMost_turnReach reach) rfl)
  | measured => exact .inl (.refl _)
  | accepted _ k u => exact .inl (sameSamples_of_safeAtMost (safeAtMost_acceptLevel k (s.setSup u)) rfl)
  | estop => exact .inl (sameSamples_of_safeAtMost (safeAtMost_estopFilterExpiry s) rfl)
  | silence =>
    obtain ⟨since, bound⟩ := silenceTimerExpiry_bound s
    exact .inl (sameSamples_of_safeAtMost bound rfl)
  | light => rw [lightUpdate_frame]; exact .inl (.refl _)
  | pwm => rw [pwmFrameBoundary_frame]; exact .inl (.refl _)

/-- Frames that lie in sample memory keep its law. -/
theorem memoryLaw_memWriteFrames {m : Memory} {k : Nat} {fs : List Frame} (law : MemoryLaw m)
    (fit : k + fs.length ≤ Config.memoryFrames ∨ fs = []) : MemoryLaw (memWriteFrames m k fs) := by
  refine ⟨memWf_memWriteFrames law.1 k fs, fun x hx => ?_⟩
  rcases mem_memWriteFrames hx with h | ⟨_, h⟩
  · exact law.2 x h
  · rcases fit with fit | rfl
    · simp only [Config.memoryFrames, Config.memoryBytes] at *
      omega
    · exact law.2 x hx

theorem framesCut_fit (n first : Nat) (frames : List Frame) :
    first + (framesCut n first frames).length ≤ Config.memoryFrames ∨ framesCut n first frames = [] := by
  by_cases h : first ≤ Config.memoryFrames
  · refine .inl ?_
    have := List.length_take_le (Config.memoryFrames - first) (frames.take (Config.framesWrittenAtCut n))
    unfold framesCut
    omega
  · refine .inr (List.eq_nil_of_length_eq_zero ?_)
    rw [framesCut, Nat.sub_eq_zero_of_le (Nat.le_of_not_le h), List.take_zero]
    rfl

theorem memoryLaw_memoryAtReset {s : State} (law : MemoryLaw s.play.memory) : MemoryLaw (memoryAtReset s) := by
  unfold memoryAtReset
  split
  · exact memoryLaw_memWriteFrames law (framesCut_fit _ _ _)
  · exact law

theorem memoryLaw_event {i : Instr} {s t : State} (h : EventDoes s i t) (law : MemoryLaw s.play.memory) :
    MemoryLaw t.play.memory := by
  rcases event_samples h with ⟨-, e⟩ | ⟨first, frames, -, fit, e⟩ | ⟨cause, e⟩ <;> rw [e]
  · exact law
  · exact memoryLaw_memWriteFrames law (.inl (by simpa [writesExist] using fit))
  · obtain ⟨-, e⟩ := sameSamples_of_safeAtMost (pinReset_bound cause s) rfl
    rw [e]
    cases cause with
    | resetLine => exact memoryLaw_memoryAtReset law
    | powerOn => exact ⟨List.Pairwise.nil, nofun⟩

theorem memoryLaw_owner {r : Request} {s t : State} (h : OwnerDoes s r t) (law : MemoryLaw s.play.memory) :
    MemoryLaw t.play.memory := by
  rcases owner_samples h with ⟨-, e⟩ | ⟨k, g, e⟩ <;> rw [e] <;> exact law

/-! ### The link (R155, R157) -/

/-- Of the link record only the attention sets, the reset cause and the silence timer may have changed, and no pending
cause has left. -/
def LinkKept (s t : State) : Prop :=
  t.link = { s.link with
    pending := t.link.pending, silenceSince := t.link.silenceSince, mask := t.link.mask, lastReset := t.link.lastReset } ∧
    PendingKept s t

theorem linkKept_of_link {s t : State} (h : t.link = s.link) : LinkKept s t := by
  rw [LinkKept, PendingKept, h]
  exact ⟨rfl, pendingKept_self _⟩

theorem linkKept_raise (c : Attention) (s : State) : LinkKept s (raise c s) := ⟨rfl, pendingKept_or _ _⟩

theorem LinkKept.trans {s t u : State} (h : LinkKept s t) (h' : LinkKept t u) : LinkKept s u :=
  ⟨by rw [h'.1, h.1], pendingKept_trans h.2 h'.2⟩

theorem linkKept_of_safeAtMost {s t : State} (h : SafeAtMost s t) : LinkKept s t := by
  refine ⟨?_, h.kept⟩
  rw [h.link]

theorem linkKept_silence (since : Option Nat) (s : State) :
    LinkKept s (s.setLink { s.link with silenceSince := since }) := ⟨rfl, pendingKept_self _⟩

theorem linkKept_placeOn (c : Fin 49) (q : Cue) (s : State) : LinkKept s (placeOn c q s) := by
  unfold placeOn noticeLow
  split_ifs
  · exact (linkKept_of_link (by simp)).trans (linkKept_raise _ _)
  · exact linkKept_of_link rfl

theorem linkKept_takeDue (t : Nat) (s : State) : LinkKept s (takeDue t s) := by
  unfold takeDue
  dsimp only
  generalize (Vector.ofFn _ : Vector (List Cue) 49) = tl
  generalize (Vector.ofFn _ : Vector ChannelRec 49) = recs
  cases actingCue t s.store.timelines[programme] <;> split_ifs
  · exact .trans (linkKept_of_link rfl) (linkKept_raise _ _)
  · exact linkKept_of_link rfl
  · exact .trans (linkKept_of_link rfl) (linkKept_raise _ _)
  · exact linkKept_of_link rfl

theorem linkKept_showTick (s : State) : LinkKept s (showTick s) := by
  unfold showTick advanceShow
  dsimp only
  split_ifs
  · exact linkKept_of_link rfl
  · exact .trans (linkKept_of_link (by simp)) (linkKept_raise _ _)
  · exact .trans (linkKept_of_link (by simp)) (linkKept_takeDue _ _)
  · exact linkKept_of_link rfl

/-- Every owner keeps the link record, but that of a LOAD FRAMES that begins to write and the two of the attention sets. -/
theorem owner_link {r : Request} {s t : State} (h : OwnerDoes s r t) : LinkKept s t ∨
    (∃ n offset count frames first, r = .loadFrames n offset count frames ∧
      t = s.setLink { s.link with state := .handling (.writing first frames) }) ∨
    ∃ k pending, r = .clearAttention k ∧ t = s.setLink { s.link with pending := pending } := by
  cases h with
  | load n offset count frames k => exact .inr (.inl ⟨n, offset, count, frames, _, rfl, rfl⟩)
  | clearAttention k => exact .inr (.inr ⟨k, _, rfl, rfl⟩)
  | attentionMask => exact .inl ⟨rfl, pendingKept_self _⟩
  | start => exact .inl (linkKept_of_link (by simp))
  | resume =>
    refine .inl (linkKept_of_link ?_)
    rw [doReturnWork_link, setRunning_link]
    split_ifs <;> simp
  | stop => exact .inl (linkKept_of_link (by simp))
  | seek => exact .inl (linkKept_of_link (by simp))
  | place a c sh p => exact .inl (linkKept_placeOn ..)
  | amendWaiting => rw [amendWaiting_frame]; exact .inl (linkKept_of_link rfl)
  | amendTaken => rw [amendTaken_frame]; exact .inl (linkKept_of_link rfl)
  | retire => rw [retireOn_frame]; exact .inl (linkKept_of_link rfl)
  | retirePassed => rw [retirePassedOn_frame]; exact .inl (linkKept_of_link rfl)
  | line => exact .inl (linkKept_of_link (by simp))
  | group a n pump valve wind =>
    obtain ⟨st, bound, -⟩ := acceptGroup_bound n (configuredGroup s s.water.groups[n] a pump valve wind) s
    exact .inl ((linkKept_of_link (t := s.setStore st) rfl).trans (linkKept_of_safeAtMost bound))
  | node i l k => exact .inl (linkKept_of_safeAtMost (safeAtMost_writeNode i _ s))
  | dropNode n i => exact .inl (linkKept_of_safeAtMost (safeAtMost_dropNode i s))
  | mode => rw [changeMode_frame]; exact .inl (linkKept_of_link rfl)
  | supervision c =>
    obtain ⟨since, bound⟩ := applySupervision_bound c s
    exact .inl ((linkKept_silence since s).trans (linkKept_of_safeAtMost bound))
  | forceSafe => exact .inl (linkKept_of_safeAtMost (safeAtMost_addCause .forced s))
  | clearSafe => exact .inl (linkKept_of_link (by simp))
  | restart =>
    rw [restartClock_frame]
    exact .inl ⟨by simp [restartTime, restartLink], by simp [PendingKept, restartTime, restartLink]⟩
  | _ => exact .inl (linkKept_of_link rfl)

/-- Every event keeps the link record, but those of the link itself, a load that is done, and a pin reset. -/
theorem event_link {i : Instr} {s t : State} (h : EventDoes s i t) : LinkKept s t ∨
    (∃ x, LinkAside s x ∧ t = s.setLink x) ∨ (∃ first frames, t = finishLoad first frames s) ∨
      ∃ cause, i = .pinReset cause ∧ t = pinReset cause s := by
  cases h with
  | link _ x aside => exact .inr (.inl ⟨x, aside, rfl⟩)
  | written first frames => exact .inr (.inr (.inl ⟨first, frames, rfl⟩))
  | reset cause => exact .inr (.inr (.inr ⟨cause, rfl, rfl⟩))
  | nothing => exact .inl (linkKept_of_link rfl)
  | audio => rw [audioFrame_frame]; exact .inl (linkKept_of_link rfl)
  | tick => exact .inl (linkKept_showTick s)
  | segmentEnd v => rw [segmentEnd_frame]; exact .inl (linkKept_of_link rfl)
  | fadeEnd => rw [safeFadeEnd_frame]; exact .inl (linkKept_of_link rfl)
  | clockLoss =>
    unfold wordClockLoss
    split_ifs
    · refine .inl (LinkKept.trans (linkKept_raise .clockLost s) (.trans (linkKept_of_link ?_)
        (linkKept_of_safeAtMost (safeAtMost_addCause _ _))))
      rfl
    · exact .inl (linkKept_of_link rfl)
  | clockEdge => exact .inl (linkKept_of_link (by simp))
  | field _ _ reach => exact .inl (linkKept_of_safeAtMost (safeAtMost_turnReach reach))
  | measured => exact .inl (linkKept_of_link rfl)
  | accepted _ k u =>
    exact .inl ((linkKept_of_link (t := s.setSup u) rfl).trans (linkKept_of_safeAtMost (safeAtMost_acceptLevel k _)))
  | estop => exact .inl (linkKept_of_safeAtMost (safeAtMost_estopFilterExpiry s))
  | silence =>
    obtain ⟨since, bound⟩ := silenceTimerExpiry_bound s
    exact .inl ((linkKept_silence since s).trans (linkKept_of_safeAtMost bound))
  | light => rw [lightUpdate_frame]; exact .inl (linkKept_of_link rfl)
  | pwm => rw [pwmFrameBoundary_frame]; exact .inl (linkKept_of_link rfl)

/-- Once its owner has acted, a request is being handled still: its answer is worked out, or its load writes (R156). -/
theorem settle_handling (r : Request) (bytes : List Byte) (s : State) :
    ∃ w, (settle (handle r) (s.setLink (takenLink bytes r s))).link.state = .handling w := by
  have owned : ∃ w, (handle r (s.setLink (takenLink bytes r s))).1.link.state = .handling w := by
    rcases owner_link (handle_does r (s.setLink (takenLink bytes r s))) with ⟨e, -⟩ | ⟨_, _, _, frames, first, -, e⟩ |
      ⟨_, _, -, e⟩ <;> rw [e]
    · exact ⟨.taken, rfl⟩
    · exact ⟨.writing first frames, rfl⟩
    · exact ⟨.taken, rfl⟩
  revert owned
  unfold settle
  rcases handle r (s.setLink (takenLink bytes r s)) with ⟨t, _ | a⟩ <;> intro owned
  · exact owned
  · exact ⟨_, rfl⟩

/-- While a request is handled the answer buffer is empty and the request buffer is not overrun (R155, R156). -/
theorem linkLaw_taken (due : Bool) (r : Request) (bytes : List Byte) (s : State) :
    LinkLaw (setRowDue due (settle (handle r) (s.setLink (takenLink bytes r s)))) := by
  obtain ⟨w, state⟩ := settle_handling r bytes s
  have held := (settle_linkHeld (handle r) (s.setLink (takenLink bytes r s))).trans (handle_linkHeld r _)
  have request : (settle (handle r) (s.setLink (takenLink bytes r s))).link.request = bytes.take Config.largestRequest :=
    congrArg (·.1) held
  have answer : (settle (handle r) (s.setLink (takenLink bytes r s))).link.answer = none := congrArg (·.2.1) held
  constructor
  · rw [setRowDue, State.ardy, State.setLink_link, answer, state]
    rfl
  · rw [setRowDue, State.setLink_link, request]
    exact List.length_take_le _ _

theorem linkLaw_event {i : Instr} {s t : State} (h : EventDoes s i t) (law : LinkLaw s) : LinkLaw t := by
  rcases event_link h with ⟨e, -⟩ | ⟨x, aside, e⟩ | ⟨first, frames, e⟩ | ⟨cause, -, e⟩
  · rw [LinkLaw, State.ardy, e]
    exact law
  · rw [e]
    exact ⟨aside.answer law.1, aside.request law.2⟩
  · rw [e]
    exact ⟨rfl, law.2⟩
  · rw [e, LinkLaw, State.ardy, (pinReset_bound cause s).link]
    exact ⟨rfl, Nat.zero_le _⟩

theorem linkLaw_exec {i : Instr} {s t : State} (h : exec i s = .next t) (law : LinkLaw s) : LinkLaw t := by
  cases exec_does h with
  | owner r bytes due free brings => exact linkLaw_taken due r bytes s
  | event t does => exact linkLaw_event does law

/-- Settles O58: each law from the owners and events that touch its record. -/
theorem lightMemoryAndLinkLawsKept : Obligations.LightMemoryAndLinkLawsKept := by
  intro s t step
  refine ⟨fun law => ?lights, fun law => ?memory, fun law => ?link⟩
  case lights =>
    exact step_keeps (P := fun s => LightLaw s.lights) (fun _ _ => id)
      (fun _ _ _ => exec_keeps (P := fun s => LightLaw s.lights) (fun _ _ => id)
        (fun _ _ _ does => lightLaw_lightsDo (owner_lights does)) (fun _ _ _ => lightLaw_event)) law step
  case memory =>
    exact step_keeps (P := fun s => MemoryLaw s.play.memory) (fun _ _ => id)
      (fun _ _ _ => exec_keeps (P := fun s => MemoryLaw s.play.memory) (fun _ _ => id)
        (fun _ _ _ => memoryLaw_owner) (fun _ _ _ => memoryLaw_event)) law step
  case link => exact step_keeps (fun _ _ => id) (fun _ _ _ => linkLaw_exec) law step

/-! ### The pending causes (R159, R160, R162) -/

theorem pendingKept_finishLoad (first : Nat) (frames : List Frame) (s : State) : PendingKept s (finishLoad first frames s) :=
  pendingKept_self _

/-- Settles O8: an owner keeps the pending causes but for CLEAR ATTENTION, and only a RESTART empties them at its taking. -/
theorem pendingCausesStayUntilCleared : Obligations.PendingCausesStayUntilCleared := by
  intro i s t h
  cases exec_does h with
  | owner r bytes due free brings =>
    by_cases clears : r = .restart ∨ ∃ k, r = .clearAttention k
    · left
      rcases brings with row | ⟨bytes, rfl, sent⟩
      · rcases clears with rfl | ⟨k, rfl⟩ <;> cases i <;> cases row <;> trivial
      · refine ⟨free, clears.imp ?_ ?_⟩
        · rintro rfl; exact sent
        · rintro ⟨k, rfl⟩; exact ⟨k, sent⟩
    · right
      rw [not_or] at clears
      obtain ⟨st, e⟩ := settle_spec (handle r) (s.setLink (takenLink bytes r s))
      have taken : (takenLink bytes r s).pending = s.link.pending := if_neg clears.1
      have owned : PendingKept (s.setLink (takenLink bytes r s)) (handle r (s.setLink (takenLink bytes r s))).1 := by
        rcases owner_link (handle_does r (s.setLink (takenLink bytes r s))) with ⟨-, kept⟩ | ⟨_, _, _, _, _, -, e⟩ |
          ⟨k, _, rfl, -⟩
        · exact kept
        · rw [e]; exact pendingKept_self _
        · exact absurd ⟨k, rfl⟩ clears.2
      rw [PendingKept, State.setLink_link, taken] at owned
      rw [e]
      exact owned
  | event t does =>
    rcases event_link does with ⟨-, kept⟩ | ⟨x, aside, e⟩ | ⟨first, frames, e⟩ | ⟨cause, rfl, -⟩
    · exact .inr kept
    · rw [e]; exact .inr aside.pending
    · rw [e]; exact .inr (pendingKept_finishLoad first frames s)
    · exact .inl trivial

end Sys2Proof.Machine
end

section

/-! # Timelines (R5, R6, R41)

The law of one timeline, and what each operation of the cue store and of the timeline unit makes of it: takes and chases
change the cues' states alone, and divide the timeline at the cue that acts. -/

namespace Sys2Proof.Machine

open Sys2Proof.Safety

/-! ### The law of one timeline -/

/-- The law of R5, R6 and R41 on one channel: its timeline and its channel record. -/
structure TimelineLaw (lead : Nat) (c : Fin 49) (tl : List Cue) (rec : ChannelRec) : Prop where
  fits : ∀ q ∈ tl, CueFits lead c q
  starts : StartsRise tl
  states : StatesOrdered tl
  taken : TakenAgrees tl rec

theorem isTaken_iff {q : Cue} : q.isTaken = true ↔ stateRank q.state = 1 := by
  cases h : q.state <;> simp [Cue.isTaken, h, stateRank]

theorem waiting_iff {q : Cue} : q.state = .waiting ↔ stateRank q.state = 2 := by
  cases h : q.state <;> simp [stateRank]

theorem stateRank_le (k : CueState) : stateRank k ≤ 2 := by cases k <;> simp [stateRank]

theorem isTaken_of_waiting {q : Cue} (h : q.state = .waiting) : q.isTaken = false := by simp [Cue.isTaken, h]

theorem isTaken_of_passed {q : Cue} (h : q.state = .passed) : q.isTaken = false := by simp [Cue.isTaken, h]

/-- Of two taken cues of a timeline neither stands before the other. -/
theorem taken_unique {before after : List Cue} {x q : Cue} (h : StatesOrdered (before ++ x :: after)) (hx : x.isTaken = true)
    (hq : q ∈ before ∨ q ∈ after) : q.isTaken = false := by
  obtain ⟨-, rest, cross⟩ := List.pairwise_append.1 h
  rw [isTaken_iff] at hx
  rw [Bool.eq_false_iff, ne_eq, isTaken_iff]
  rcases hq with hq | hq
  · exact fun taken => (cross q hq x List.mem_cons_self).2 taken hx
  · exact fun taken => ((List.pairwise_cons.1 rest).1 q hq).2 hx taken

/-- The cues after a WAITING one are WAITING. -/
theorem waiting_after {before after : List Cue} {x q : Cue} (h : StatesOrdered (before ++ x :: after))
    (hx : x.state = .waiting) (hq : q ∈ after) : q.state = .waiting := by
  have := ((List.pairwise_cons.1 (List.pairwise_append.1 h).2.1).1 q hq).1
  have := stateRank_le q.state
  rw [waiting_iff] at *
  omega

/-- PASSED cues, a taken one, WAITING ones. -/
theorem statesOrdered_divided {before after : List Cue} {x : Cue} (passed : ∀ q ∈ before, q.state = .passed)
    (taken : x.isTaken = true) (waiting : ∀ q ∈ after, q.state = .waiting) : StatesOrdered (before ++ x :: after) := by
  rw [isTaken_iff] at taken
  refine List.pairwise_append.2 ⟨List.pairwise_iff_forall_sublist.2 ?_, List.pairwise_cons.2 ⟨fun q hq => ?_,
    List.pairwise_iff_forall_sublist.2 ?_⟩, fun p hp q hq => ?_⟩
  · intro p q sub
    have hp := passed p (sub.subset (by simp))
    simp [hp, stateRank]
  · rw [waiting q hq, taken]
    decide
  · intro p q sub
    have hp := waiting p (sub.subset (by simp))
    have hq := waiting q (sub.subset (by simp))
    simp [hp, hq, stateRank]
  · simp [passed p hp, stateRank]

theorem takenAgrees_divided {before after : List Cue} {x : Cue} {rec : ChannelRec}
    (passed : ∀ q ∈ before, q.state = .passed) (taken : x.isTaken = true) (hr : rec.taken = some x.number) :
    TakenAgrees (before ++ x :: after) rec := by
  have none : before.find? Cue.isTaken = none := List.find?_eq_none.2 fun q hq => by simp [isTaken_of_passed (passed q hq)]
  rw [TakenAgrees, List.find?_append, none, List.find?_cons, taken, hr]
  rfl

theorem statesOrdered_waiting {tl : List Cue} (h : ∀ q ∈ tl, q.state = .waiting) : StatesOrdered tl :=
  List.pairwise_iff_forall_sublist.2 fun {p q} sub => by
    have hp := h p (sub.subset (by simp))
    have hq := h q (sub.subset (by simp))
    simp [hp, hq, stateRank]

theorem takenAgrees_none {tl : List Cue} {rec : ChannelRec} (h : ∀ q ∈ tl, q.isTaken = false) (hr : rec.taken = none) :
    TakenAgrees tl rec := by
  rw [TakenAgrees, hr, List.find?_eq_none.2 fun q hq => by simp [h q hq]]
  rfl

/-! ### Operations that change states alone -/

/-- The same cues, but for state and skipped. -/
def SameCues (tl tl' : List Cue) : Prop := tl'.map Cue.toWaiting = tl.map Cue.toWaiting

theorem SameCues.numbers {tl tl' : List Cue} (h : SameCues tl tl') : tl'.map (·.number) = tl.map (·.number) := by
  have := congrArg (List.map (·.number)) h
  simpa [Cue.toWaiting, Function.comp_def] using this

theorem SameCues.length {tl tl' : List Cue} (h : SameCues tl tl') : tl'.length = tl.length := by
  simpa using congrArg List.length h

/-- What holds of every cue, whatever its state and mark, is kept. -/
theorem SameCues.forall {P : Cue → Prop} {tl tl' : List Cue} (h : SameCues tl tl') (hP : ∀ q, P q ↔ P q.toWaiting)
    (all : ∀ q ∈ tl, P q) : ∀ q ∈ tl', P q := by
  intro q hq
  have mem : q.toWaiting ∈ tl.map Cue.toWaiting := h ▸ List.mem_map_of_mem hq
  obtain ⟨p, hp, e⟩ := List.mem_map.1 mem
  rw [hP, ← e, ← hP]
  exact all p hp

theorem SameCues.startsRise {tl tl' : List Cue} (h : SameCues tl tl') (rise : StartsRise tl) : StartsRise tl' := by
  have iff (l : List Cue) : StartsRise l ↔ StartsRise (l.map Cue.toWaiting) := by
    rw [StartsRise, StartsRise, List.pairwise_map]
    rfl
  rw [iff, h, ← iff]
  exact rise

theorem timelineLaw_of_sameCues {lead : Nat} {c : Fin 49} {tl tl' : List Cue} {rec rec' : ChannelRec}
    (law : TimelineLaw lead c tl rec) (same : SameCues tl tl') (states : StatesOrdered tl') (taken : TakenAgrees tl' rec') :
    TimelineLaw lead c tl' rec' :=
  ⟨same.forall (fun _ => .rfl) law.fits, same.startsRise law.starts, states, taken⟩

theorem sameCues_map {f : Cue → Cue} (h : ∀ q, (f q).toWaiting = q.toWaiting) (tl : List Cue) : SameCues tl (tl.map f) := by
  rw [SameCues, List.map_map]
  exact List.map_congr_left fun q _ => h q

/-- A change that keeps every cue's place in the order of R6. -/
theorem statesOrdered_map {f : Cue → Cue} {tl : List Cue} (h : ∀ q ∈ tl, stateRank (f q).state = stateRank q.state)
    (ordered : StatesOrdered tl) : StatesOrdered (tl.map f) := by
  refine List.pairwise_map.2 (ordered.imp_of_mem fun hp hq both => ?_)
  rw [h _ hp, h _ hq]
  exact both

theorem takenAgrees_map {f : Cue → Cue} {tl : List Cue} {rec rec' : ChannelRec}
    (rank : ∀ q ∈ tl, stateRank (f q).state = stateRank q.state) (number : ∀ q, (f q).number = q.number)
    (hr : rec'.taken = rec.taken) (taken : TakenAgrees tl rec) : TakenAgrees (tl.map f) rec' := by
  have agree : tl.find? (Cue.isTaken ∘ f) = tl.find? Cue.isTaken := List.find?_congr fun q hq => by
    rw [Function.comp, Bool.eq_iff_iff, isTaken_iff, isTaken_iff, rank q hq]
  rw [TakenAgrees, hr, taken, List.find?_map, agree, Option.map_map]
  congr 1
  exact funext fun q => (number q).symm

/-- A completion is recorded: LIVE and STANDING stand in the same place (R46). -/
theorem timelineLaw_recordCompletion {lead : Nat} {c : Fin 49} {tl : List Cue} {rec : ChannelRec} (t : Nat)
    (law : TimelineLaw lead c tl rec) : TimelineLaw lead c (recordCompletion rec t tl) rec := by
  have rank : ∀ q ∈ tl, stateRank (if q.state = .live ∧ rec.taken = some q.number ∧ rec.completeAt t then
      { q with state := .standing } else q).state = stateRank q.state := by
    intro q _
    split_ifs with h
    · rw [h.1]; rfl
    · rfl
  have number : ∀ q : Cue, (if q.state = .live ∧ rec.taken = some q.number ∧ rec.completeAt t then
      { q with state := .standing } else q).number = q.number := by
    intro q
    split_ifs <;> rfl
  refine timelineLaw_of_sameCues law (sameCues_map (fun q => ?_) tl) (statesOrdered_map rank law.states)
    (takenAgrees_map rank number rfl law.taken)
  split_ifs <;> rfl

/-! ### Takes (R48 to R50) -/

/-- The acting cue stands where the timeline divides: no cue after it is due. -/
theorem actingCue_split {t : Nat} {tl : List Cue} {a : Cue} (h : actingCue t tl = some a) :
    ∃ before after, tl = before ++ a :: after ∧ dueAt t a = true ∧ ∀ q ∈ after, dueAt t q = false := by
  obtain ⟨init, hinit⟩ := List.getLast?_eq_some_iff.1 h
  obtain ⟨l₁, l₂, rfl, -, hl₂⟩ := List.filter_eq_append_iff.1 hinit
  obtain ⟨l₃, l₄, rfl, -, due, none⟩ := List.filter_eq_cons_iff.1 hl₂
  exact ⟨l₁ ++ l₃, l₄, by simp, due, by simpa using none⟩

/-- A cue that has passed, skipped where it was due (R49, R50). -/
def Cue.passedBy (t : Nat) (q : Cue) : Cue :=
  if dueAt t q then { q with state := .passed, skipped := true }
  else if q.isTaken then { q with state := .passed, skipped := false }
  else q

theorem cueFits_dispatch {lead : Nat} {c : Fin 49} {q : Cue} (h : CueFits lead c q) : q.dispatch = dispatchTime lead q.start :=
  h.2.2.2.2.2

theorem dispatchTime_mono {lead m n : Nat} (h : m ≤ n) : dispatchTime lead m ≤ dispatchTime lead n := Nat.sub_le_sub_right h _

theorem dueAt_iff {t : Nat} {q : Cue} : dueAt t q = true ↔ q.state = .waiting ∧ q.dispatch ≤ t := by
  simp [dueAt]

/-- A take passes the cues before the acting one and leaves those after it, which are WAITING and not due (R49, R50). -/
theorem tickTimeline_split {lead : Nat} {c : Fin 49} {t : Nat} {tl : List Cue} {rec : ChannelRec} {a : Cue}
    (law : TimelineLaw lead c tl rec) (numbers : (tl.map (·.number)).Nodup) (h : actingCue t tl = some a) :
    ∃ before after, tl = before ++ a :: after ∧ dueAt t a = true ∧ (∀ q ∈ after, dueAt t q = false ∧ q.state = .waiting) ∧
      tickTimeline t tl rec = before.map (Cue.passedBy t) ++
        { a with state := takenState (takenRecord a (rec.valueAt t)) t, skipped := false } :: after ∧
      ∀ q ∈ before, (q.passedBy t).state = .passed := by
  obtain ⟨before, after, rfl, due, none⟩ := actingCue_split h
  have waiting : ∀ q ∈ after, q.state = .waiting := fun q => waiting_after law.states (dueAt_iff.1 due).1
  have distinct : ∀ q ∈ before, q.number ≠ a.number := by
    rw [List.map_append, List.map_cons] at numbers
    intro q hq e
    exact (List.disjoint_of_nodup_append numbers) (List.mem_map_of_mem hq) (by rw [e]; exact List.mem_cons_self)
  refine ⟨before, after, rfl, due, fun q hq => ⟨none q hq, waiting q hq⟩, ?_, fun q hq => ?_⟩
  · unfold tickTimeline
    rw [h]
    simp only [List.map_append, List.map_cons]
    have here : ∀ k, takeCue t a k a = { a with state := k, skipped := false } := fun k => by simp [takeCue, due]
    have earlier : ∀ k, before.map (takeCue t a k) = before.map (Cue.passedBy t) := fun k =>
      List.map_congr_left fun q hq => by simp [takeCue, Cue.passedBy, distinct q hq]
    have later : ∀ k, after.map (takeCue t a k) = after := fun k => by
      refine (List.map_congr_left fun q hq => ?_).trans (List.map_id after)
      simp [takeCue, none q hq, isTaken_of_waiting (waiting q hq)]
    rw [here, earlier, later]
  · have start : q.start < a.start := (List.pairwise_append.1 law.starts).2.2 q hq a List.mem_cons_self
    have dispatch : q.dispatch ≤ t := by
      rw [cueFits_dispatch (law.fits q (by simp [hq]))]
      refine (dispatchTime_mono start.le).trans ?_
      rw [← cueFits_dispatch (law.fits a (by simp))]
      exact (dueAt_iff.1 due).2
    unfold Cue.passedBy
    split_ifs with isDue taken
    · rfl
    · rfl
    · cases state : q.state with
      | passed => rfl
      | waiting => exact absurd (dueAt_iff.2 ⟨state, dispatch⟩) isDue
      | live => simp [Cue.isTaken, state] at taken
      | standing => simp [Cue.isTaken, state] at taken

theorem isTaken_takenState (q : Cue) (rec : ChannelRec) (t : Nat) (b : Bool) :
    Cue.isTaken { q with state := takenState rec t, skipped := b } = true := by
  unfold takenState
  split_ifs <;> rfl

theorem Cue.passedBy_toWaiting (t : Nat) (q : Cue) : (q.passedBy t).toWaiting = q.toWaiting := by
  unfold Cue.passedBy
  split_ifs <;> rfl

theorem sameCues_tickTimeline (t : Nat) (tl : List Cue) (rec : ChannelRec) : SameCues tl (tickTimeline t tl rec) := by
  unfold tickTimeline
  split
  · refine sameCues_map (fun q => ?_) tl
    split_ifs <;> rfl
  · refine sameCues_map (fun q => ?_) tl
    unfold takeCue
    split_ifs <;> rfl

theorem timelineLaw_tick {lead : Nat} {c : Fin 49} {tl : List Cue} {rec : ChannelRec} (t : Nat)
    (law : TimelineLaw lead c tl rec) (numbers : (tl.map (·.number)).Nodup) :
    TimelineLaw lead c (tickTimeline t tl rec) (tickRecord t tl rec) := by
  cases h : actingCue t tl with
  | none =>
    rw [tickTimeline, tickRecord, h]
    exact timelineLaw_recordCompletion t law
  | some a =>
    obtain ⟨before, after, -, -, later, e, passed⟩ := tickTimeline_split law numbers h
    have earlier : ∀ q ∈ before.map (Cue.passedBy t), q.state = .passed := by simpa using passed
    refine timelineLaw_of_sameCues law (sameCues_tickTimeline t tl rec) ?_ ?_
    · rw [e]
      exact statesOrdered_divided earlier (isTaken_takenState ..) fun q hq => (later q hq).2
    · rw [e, tickRecord, h]
      exact takenAgrees_divided earlier (isTaken_takenState ..) rfl

/-! ### Chases and STOP (R53, R54, R57) -/

theorem sameCues_chaseTimeline (t t0 : Nat) (tl : List Cue) (rec : ChannelRec) :
    SameCues tl (chaseTimeline t t0 tl rec) := by
  unfold chaseTimeline
  split
  · rename_i before x after h
    rw [(chasedCue_some h).1, SameCues]
    simp only [List.map_append, List.map_cons, List.map_map]
    rfl
  · exact sameCues_map (f := Cue.toWaiting) (fun _ => rfl) tl

theorem timelineLaw_chase {lead : Nat} {c : Fin 49} {tl : List Cue} {rec : ChannelRec} (t t0 : Nat)
    (law : TimelineLaw lead c tl rec) : TimelineLaw lead c (chaseTimeline t t0 tl rec) (chaseRecord t t0 tl rec) := by
  refine timelineLaw_of_sameCues law (sameCues_chaseTimeline t t0 tl rec) ?_ ?_
  · unfold chaseTimeline
    split
    · refine statesOrdered_divided ?_ (isTaken_takenState ..) ?_
      · simp [Cue.toPassed]
      · simp [Cue.toWaiting]
    · exact statesOrdered_waiting (by simp [Cue.toWaiting])
  · unfold chaseTimeline chaseRecord
    split
    · refine takenAgrees_divided ?_ (isTaken_takenState ..) rfl
      simp [Cue.toPassed]
    · refine takenAgrees_none (fun q hq => ?_) rfl
      obtain ⟨p, -, rfl⟩ := List.mem_map.1 hq
      rfl

theorem timelineLaw_stop {lead : Nat} {c : Fin 49} {tl : List Cue} {rec : ChannelRec}
    (law : TimelineLaw lead c tl rec) : TimelineLaw lead c (tl.map Cue.toWaiting) ChannelRec.reset := by
  refine timelineLaw_of_sameCues law (sameCues_map (f := Cue.toWaiting) (fun _ => rfl) tl) (statesOrdered_waiting (by simp [Cue.toWaiting])) ?_
  refine takenAgrees_none (fun q hq => ?_) rfl
  obtain ⟨p, -, rfl⟩ := List.mem_map.1 hq
  rfl

/-! ### A cue placed, moved, replaced or removed -/

theorem statesOrdered_insertCue {q : Cue} {tl : List Cue} (ordered : StatesOrdered tl) (waiting : q.state = .waiting)
    (late : ∀ d ∈ tl, q.start < d.start → d.state = .waiting) : StatesOrdered (insertCue q tl) := by
  induction tl with
  | nil => exact List.pairwise_singleton ..
  | cons d rest ih =>
    obtain ⟨first, tail⟩ := List.pairwise_cons.1 ordered
    have hq := waiting_iff.1 waiting
    simp only [insertCue]
    split_ifs with before
    · refine List.pairwise_cons.2 ⟨fun e he => ?_, ordered⟩
      have hd := waiting_iff.1 (late d List.mem_cons_self before)
      rcases List.mem_cons.1 he with rfl | he
      · omega
      · have := (first e he).1
        omega
    · refine List.pairwise_cons.2 ⟨fun e he => ?_, ih tail fun e he => late e (List.mem_cons_of_mem _ he)⟩
      rcases mem_insertCue.1 he with rfl | he
      · have := stateRank_le d.state
        omega
      · exact first e he

theorem find?_insertCue {q : Cue} {tl : List Cue} (waiting : q.state = .waiting) :
    (insertCue q tl).find? Cue.isTaken = tl.find? Cue.isTaken := by
  induction tl with
  | nil => simp [insertCue, isTaken_of_waiting waiting]
  | cons d rest ih =>
    simp only [insertCue]
    split_ifs
    · simp [isTaken_of_waiting waiting]
    · simp only [List.find?_cons, ih]

/-- A WAITING cue at a start of its own, not before a cue that is not WAITING (R9, R10, R14). -/
theorem timelineLaw_insertCue {lead : Nat} {c : Fin 49} {q : Cue} {tl : List Cue} {rec : ChannelRec}
    (law : TimelineLaw lead c tl rec) (fits : CueFits lead c q) (waiting : q.state = .waiting)
    (clash : ∀ d ∈ tl, d.start ≠ q.start) (late : ∀ d ∈ tl, q.start < d.start → d.state = .waiting) :
    TimelineLaw lead c (insertCue q tl) rec := by
  refine ⟨fun d hd => ?_, startsRise_insertCue law.starts clash, statesOrdered_insertCue law.states waiting late, ?_⟩
  · rcases mem_insertCue.1 hd with rfl | hd
    · exact fits
    · exact law.fits d hd
  · rw [TakenAgrees, find?_insertCue waiting]
    exact law.taken

theorem find?_filter_of_kept {p : Cue → Bool} {tl : List Cue} (h : ∀ q ∈ tl, q.isTaken = true → p q = true) :
    (tl.filter p).find? Cue.isTaken = tl.find? Cue.isTaken := by
  rw [List.find?_filter]
  refine List.find?_congr fun q hq => ?_
  cases taken : q.isTaken
  · simp
  · simp [h q hq taken]

/-- Cues that are not taken leave a timeline (R17, R19). -/
theorem timelineLaw_filter {lead : Nat} {c : Fin 49} {p : Cue → Bool} {tl : List Cue} {rec : ChannelRec}
    (law : TimelineLaw lead c tl rec) (kept : ∀ q ∈ tl, q.isTaken = true → p q = true) :
    TimelineLaw lead c (tl.filter p) rec := by
  refine ⟨fun q hq => law.fits q (List.mem_filter.1 hq).1, law.starts.filter _, law.states.filter _, ?_⟩
  rw [TakenAgrees, find?_filter_of_kept kept]
  exact law.taken

/-- The taken cue leaves its timeline, and the channel has none (R18). -/
theorem timelineLaw_removeTaken {lead : Nat} {c : Fin 49} {q : Cue} {tl : List Cue} {rec rec' : ChannelRec}
    (law : TimelineLaw lead c tl rec) (mem : q ∈ tl) (taken : q.isTaken = true) (hr : rec'.taken = none) :
    TimelineLaw lead c (removeCue q.number tl) rec' := by
  refine ⟨fun d hd => law.fits d (removeCue_subset hd), startsRise_removeCue law.starts _, law.states.filter _, ?_⟩
  refine takenAgrees_none (fun d hd => ?_) hr
  obtain ⟨dmem, other⟩ := List.mem_filter.1 hd
  obtain ⟨before, after, rfl⟩ := List.append_of_mem mem
  rcases List.mem_append.1 dmem with h | h
  · exact taken_unique law.states taken (.inl h)
  · rcases List.mem_cons.1 h with rfl | h
    · simp at other
    · exact taken_unique law.states taken (.inr h)

/-- A cue replaced in its place. -/
def replaceCue (number : Nat) (r : Cue) (tl : List Cue) : List Cue := tl.map (fun d => if d.number = number then r else d)

theorem map_replaceCue {α : Type} (f : Cue → α) {q r : Cue} {tl : List Cue} (numbers : (tl.map (·.number)).Nodup)
    (mem : q ∈ tl) (h : f r = f q) : (replaceCue q.number r tl).map f = tl.map f := by
  rw [replaceCue, List.map_map]
  refine List.map_congr_left fun d hd => ?_
  simp only [Function.comp]
  split_ifs with same
  · rw [h, List.inj_on_of_nodup_map numbers hd mem same]
  · rfl

/-- A cue that keeps its number, its start and its place in the order of R6 takes the place of the one it amends. -/
theorem timelineLaw_replaceCue {lead : Nat} {c : Fin 49} {q r : Cue} {tl : List Cue} {rec rec' : ChannelRec}
    (law : TimelineLaw lead c tl rec) (numbers : (tl.map (·.number)).Nodup) (mem : q ∈ tl) (fits : CueFits lead c r)
    (number : r.number = q.number) (start : r.start = q.start) (rank : stateRank r.state = stateRank q.state)
    (hr : rec'.taken = rec.taken) : TimelineLaw lead c (replaceCue q.number r tl) rec' := by
  have same {d : Cue} (hd : d ∈ tl) (e : d.number = q.number) : d = q := List.inj_on_of_nodup_map numbers hd mem e
  refine ⟨fun d hd => ?_, ?_, ?_, ?_⟩
  · obtain ⟨e, he, rfl⟩ := List.mem_map.1 hd
    split_ifs
    · exact fits
    · exact law.fits e he
  · have starts := map_replaceCue (·.start) numbers mem start
    have iff (l : List Cue) : StartsRise l ↔ (l.map (·.start)).Pairwise (· < ·) := List.pairwise_map.symm
    rw [iff, starts, ← iff]
    exact law.starts
  · refine statesOrdered_map (fun d hd => ?_) law.states
    split_ifs with e
    · rw [rank, same hd e]
    · rfl
  · refine takenAgrees_map (fun d hd => ?_) (fun d => ?_) hr law.taken
    · split_ifs with e
      · rw [rank, same hd e]
      · rfl
    · split_ifs with e
      · rw [number, e]
      · rfl

/-- New dispatch times for a new lead (R23). -/
theorem timelineLaw_recompute {lead lead' : Nat} {c : Fin 49} {tl : List Cue} {rec : ChannelRec}
    (law : TimelineLaw lead c tl rec) : TimelineLaw lead' c (recomputeDispatch lead' tl) rec := by
  refine ⟨fun q hq => ?_, List.pairwise_map.2 law.starts, statesOrdered_map (fun _ _ => rfl) law.states,
    takenAgrees_map (fun _ _ => rfl) (fun _ => rfl) rfl law.taken⟩
  obtain ⟨p, hp, rfl⟩ := List.mem_map.1 hq
  obtain ⟨low, high, start, ramp, payload, -⟩ := law.fits p hp
  exact ⟨low, high, start, ramp, payload, rfl⟩

end Sys2Proof.Machine
end

section

/-! # The cue store's law (R5, R6, R41)

The law of every timeline, the number map and the count, from what each owner and each event makes of the timelines. -/

namespace Sys2Proof.Machine

open Sys2Proof.Safety

/-! ### The law, channel by channel -/

/-- The show rests: the clock is STOPPED, or in SAFE with safe origin STOPPED. -/
def AtRest (c : Clock) : Prop := c.state = .stopped ∨ (c.state = .safe ∧ c.safeOrigin = .stopped)

/-- The numbers of a timeline. -/
def numbersOf (tl : List Cue) : List Nat := tl.map (·.number)

theorem numbers_nodup {st : Store} : (st.timelines.toList.flatten.map (·.number)).Nodup ↔
    (∀ c : Fin 49, (numbersOf st.timelines[c]).Nodup) ∧
      ∀ c d : Fin 49, c ≠ d → List.Disjoint (numbersOf st.timelines[c]) (numbersOf st.timelines[d]) := by
  rw [List.map_flatten]
  exact nodup_flatMap_vector (v := st.timelines) (f := numbersOf)

theorem occupied_eq_sum (st : Store) : st.occupied = ∑ c : Fin 49, st.timelines[c].length := by
  have entries : st.timelines.toList = (List.finRange 49).map (fun c => st.timelines[c]) :=
    List.ext_getElem (by simp) fun k _ _ => by simp
  rw [Store.occupied, entries, List.map_map, Fin.sum_univ_def]
  rfl

theorem occupied_le {st st' : Store} (h : ∀ c : Fin 49, st'.timelines[c].length ≤ st.timelines[c].length) :
    st'.occupied ≤ st.occupied := by
  rw [occupied_eq_sum, occupied_eq_sum]
  exact Finset.sum_le_sum fun c _ => h c

theorem timelines_setTimeline (st : Store) (c d : Fin 49) (tl : List Cue) :
    (st.setTimeline c tl).timelines[d] = if c = d then tl else st.timelines[d] := by
  simp [Store.setTimeline, Vector.getElem_set, Fin.ext_iff]

theorem occupied_setTimeline (st : Store) (c : Fin 49) (tl : List Cue) :
    (st.setTimeline c tl).occupied + st.timelines[c].length = st.occupied + tl.length := by
  rw [occupied_eq_sum, occupied_eq_sum, ← Finset.add_sum_erase _ _ (Finset.mem_univ c),
    ← Finset.add_sum_erase Finset.univ (fun d : Fin 49 => st.timelines[d].length) (Finset.mem_univ c)]
  have others : ∑ d ∈ Finset.univ.erase c, (st.setTimeline c tl).timelines[d].length =
      ∑ d ∈ Finset.univ.erase c, st.timelines[d].length :=
    Finset.sum_congr rfl fun d hd => by rw [timelines_setTimeline, if_neg (Finset.ne_of_mem_erase hd).symm]
  rw [others, timelines_setTimeline, if_pos rfl]
  omega

section
variable {s t : State}

theorem storeLaw_iff : StoreLaw s ↔ s.store.occupied ≤ Config.cueSlots ∧
    (∀ c : Fin 49, (numbersOf s.store.timelines[c]).Nodup) ∧
    (∀ c d : Fin 49, c ≠ d → List.Disjoint (numbersOf s.store.timelines[c]) (numbersOf s.store.timelines[d])) ∧
    (∀ c : Fin 49, TimelineLaw (leadOf s c) c s.store.timelines[c] s.channels[c]) ∧
    (AtRest s.clock → NothingTaken s) := by
  constructor
  · rintro ⟨count, numbers, fits, starts, states, taken, stopped⟩
    obtain ⟨each, apart⟩ := numbers_nodup.1 numbers
    exact ⟨count, each, apart, fun c => ⟨fits c, starts c, states c, taken c⟩, stopped⟩
  · rintro ⟨count, each, apart, timeline, stopped⟩
    exact ⟨count, numbers_nodup.2 ⟨each, apart⟩, fun c => (timeline c).fits, fun c => (timeline c).starts,
      fun c => (timeline c).states, fun c => (timeline c).taken, stopped⟩

theorem timelineLaw_of_storeLaw (law : StoreLaw s) (c : Fin 49) :
    TimelineLaw (leadOf s c) c s.store.timelines[c] s.channels[c] := (storeLaw_iff.1 law).2.2.2.1 c

theorem numbers_of_storeLaw (law : StoreLaw s) (c : Fin 49) : (numbersOf s.store.timelines[c]).Nodup :=
  (storeLaw_iff.1 law).2.1 c

/-- The leads are as they were. -/
def SameLeads (s t : State) : Prop := ∀ n : Fin 32, t.water.groups[n].lead = s.water.groups[n].lead

theorem leadOf_congr (h : SameLeads s t) (c : Fin 49) : leadOf t c = leadOf s c := by
  unfold leadOf
  split
  · exact h _
  · rfl

theorem sameLeads_of_water (h : t.water = s.water) : SameLeads s t := fun n => by rw [h]

theorem storeLaw_of_same (law : StoreLaw s) (store : t.store = s.store) (channels : t.channels = s.channels)
    (leads : SameLeads s t) (rest : AtRest t.clock → AtRest s.clock) : StoreLaw t := by
  obtain ⟨count, each, apart, timeline, stopped⟩ := storeLaw_iff.1 law
  refine storeLaw_iff.2 ⟨by rwa [store], by rwa [store], by rwa [store], fun c => ?_, fun h => ?_⟩
  · rw [store, channels, leadOf_congr leads]
    exact timeline c
  · rw [NothingTaken, store, channels]
    exact stopped (rest h)

/-- The cues have changed their states alone. -/
theorem storeLaw_of_sameCues (law : StoreLaw s) (cues : ∀ c : Fin 49, SameCues s.store.timelines[c] t.store.timelines[c])
    (leads : SameLeads s t)
    (timeline : ∀ c : Fin 49, TimelineLaw (leadOf s c) c t.store.timelines[c] t.channels[c])
    (stopped : AtRest t.clock → NothingTaken t) : StoreLaw t := by
  obtain ⟨count, each, apart, -, -⟩ := storeLaw_iff.1 law
  have numbers (c : Fin 49) : numbersOf t.store.timelines[c] = numbersOf s.store.timelines[c] := (cues c).numbers
  refine storeLaw_iff.2 ⟨?_, fun c => ?_, fun c d cd => ?_, fun c => ?_, stopped⟩
  · exact (occupied_le fun c => (cues c).length.le).trans count
  · rw [numbers]; exact each c
  · rw [numbers, numbers]; exact apart c d cd
  · rw [leadOf_congr leads]; exact timeline c

/-- One timeline has changed. -/
theorem storeLaw_of_setTimeline {c : Fin 49} {tl : List Cue} (law : StoreLaw s)
    (store : t.store = s.store.setTimeline c tl) (channels : ∀ d : Fin 49, d ≠ c → t.channels[d] = s.channels[d])
    (leads : ∀ d, d ≠ c → leadOf t d = leadOf s d) (timeline : TimelineLaw (leadOf t c) c tl t.channels[c])
    (room : t.store.occupied ≤ Config.cueSlots) (distinct : (numbersOf tl).Nodup)
    (new : ∀ n ∈ numbersOf tl, n ∈ numbersOf s.store.timelines[c] ∨ ∀ d : Fin 49, n ∉ numbersOf s.store.timelines[d])
    (stopped : AtRest t.clock → NothingTaken t) : StoreLaw t := by
  obtain ⟨-, each, apart, old, -⟩ := storeLaw_iff.1 law
  have here (d : Fin 49) : t.store.timelines[d] = if c = d then tl else s.store.timelines[d] := by
    rw [store, timelines_setTimeline]
  have away (d : Fin 49) (dc : d ≠ c) : List.Disjoint (numbersOf tl) (numbersOf s.store.timelines[d]) := by
    intro n hn hd
    rcases new n hn with mem | none
    · exact apart c d (Ne.symm dc) mem hd
    · exact none d hd
  refine storeLaw_iff.2 ⟨room, fun d => ?_, fun d e de => ?_, fun d => ?_, stopped⟩
  · rw [here]
    split_ifs
    · exact distinct
    · exact each d
  · rw [here, here]
    split_ifs with cd ce ce
    · exact absurd (cd.symm.trans ce) de
    · exact away e (Ne.symm ce)
    · exact (away d (Ne.symm cd)).symm
    · exact apart d e de
  · rw [here]
    split_ifs with cd
    · rw [← cd]; exact timeline
    · rw [channels d (Ne.symm cd), leads d (Ne.symm cd)]
      exact old d

end

/-! ### Events -/

theorem atRest_of_safeAtMost {s t : State} (h : SafeAtMost s t) (rest : AtRest t.clock) : AtRest s.clock := by
  rcases h.entry with ⟨e, -⟩ | ⟨out, e, -⟩ <;> rw [e] at rest
  · exact rest
  · rcases rest with h | ⟨-, h⟩
    · cases h
    · exact .inl h

theorem sameLeads_writeNode (i : Fin 40) (n : Node) (s : State) : SameLeads s (writeNode i n s) := fun k => by
  rw [groups_writeNode i n k s]

theorem sameLeads_fieldWrite {s t : State} (h : FieldWrite s t) : SameLeads s t := by
  cases h with
  | line l r _ _ => exact fun _ => rfl
  | node i n _ _ _ => exact fun _ => rfl
  | leave i n _ _ _ _ _ => exact sameLeads_writeNode i n s
  | group k g _ same _ =>
    obtain ⟨-, -, -, -, lead, -⟩ := same
    intro n
    rw [setGroupRec_groups]
    split_ifs with e
    · rw [← e]; exact lead
    · rfl
  | raise c _ => exact fun _ => rfl

theorem SameLeads.trans {s t u : State} (h : SameLeads s t) (h' : SameLeads t u) : SameLeads s u :=
  fun n => (h' n).trans (h n)

theorem sameLeads_turnReach {s t : State} (h : TurnReach s t) : SameLeads s t :=
  h.keeps (P := SameLeads s) (fun _ _ w k => k.trans (sameLeads_fieldWrite w))
    (fun i n u _ _ _ k => k.trans (sameLeads_writeNode i n u)) fun _ => rfl

theorem sameLeads_dropNode (i : Fin 40) (s : State) : SameLeads s (dropNode i s) := by
  have node := sameLeads_writeNode i Node.absentRecord s
  unfold dropNode
  dsimp only
  split
  · exact node
  · split_ifs
    · exact node
    · exact node.trans (sameLeads_turnReach (reach_continueRound _ _ _).turn)
    · exact node.trans fun _ => rfl

theorem storeLaw_of_safeAtMost {s t : State} (law : StoreLaw s) (h : SafeAtMost s t) (leads : SameLeads s t) : StoreLaw t :=
  storeLaw_of_same law h.store h.channels leads (atRest_of_safeAtMost h)

theorem storeLaw_of_onlySafe {s t : State} (law : StoreLaw s) (h : OnlySafe s t) (rest : AtRest t.clock → AtRest s.clock) :
    StoreLaw t := by
  rw [OnlySafe] at h
  exact storeLaw_of_same law (by rw [h]) (by rw [h]) (sameLeads_of_water (by rw [h])) rest

theorem storeLaw_recordCompletions {s : State} (t : Nat) (law : StoreLaw s) (moving : ¬AtRest s.clock) :
    StoreLaw (recordCompletions t s) := by
  have timelines (c : Fin 49) : (recordCompletions t s).store.timelines[c] =
      recordCompletion s.channels[c] t s.store.timelines[c] := by simp [recordCompletions]
  refine storeLaw_of_sameCues law (fun c => ?_) (sameLeads_of_water (by simp)) (fun c => ?_) fun rest => absurd ?_ moving
  · rw [timelines]
    refine sameCues_map (fun q => ?_) _
    split_ifs <;> rfl
  · rw [timelines, recordCompletions_channels]
    exact timelineLaw_recordCompletion t (timelineLaw_of_storeLaw law c)
  · rwa [recordCompletions_clock] at rest

theorem takeDue_timelines (t : Nat) (s : State) (c : Fin 49) :
    (takeDue t s).store.timelines[c] = tickTimeline t s.store.timelines[c] s.channels[c] := by
  unfold takeDue
  dsimp only
  cases actingCue t s.store.timelines[programme] <;> split_ifs <;> simp

theorem takeDue_channels (t : Nat) (s : State) (c : Fin 49) :
    (takeDue t s).channels[c] = tickRecord t s.store.timelines[c] s.channels[c] := by
  unfold takeDue
  dsimp only
  cases actingCue t s.store.timelines[programme] <;> split_ifs <;> simp

theorem storeLaw_takeDue {s : State} (t : Nat) (law : StoreLaw s) (moving : ¬AtRest s.clock) : StoreLaw (takeDue t s) := by
  refine storeLaw_of_sameCues law (fun c => ?_) (sameLeads_of_water (by simp)) (fun c => ?_) fun rest => absurd ?_ moving
  · rw [takeDue_timelines]
    exact sameCues_tickTimeline ..
  · rw [takeDue_timelines, takeDue_channels]
    exact timelineLaw_tick t (timelineLaw_of_storeLaw law c) (numbers_of_storeLaw law c)
  · rwa [takeDue_clock] at rest

theorem storeLaw_setClock {s : State} {c : Clock} (law : StoreLaw s) (rest : AtRest c → AtRest s.clock) :
    StoreLaw (s.setClock c) := storeLaw_of_same law rfl rfl (fun _ => rfl) rest

theorem storeLaw_showTick {s : State} (law : StoreLaw s) : StoreLaw (showTick s) := by
  unfold showTick advanceShow
  dsimp only
  split_ifs with none running last
  · exact law
  · have paused : ¬AtRest { s.clock with ticksDue := s.clock.ticksDue - 1, showTime := s.clock.showTime + 1, state := .paused } := by
      rintro (h | ⟨h, -⟩) <;> cases h
    refine storeLaw_of_same (storeLaw_recordCompletions _ (storeLaw_setClock law fun rest => absurd rest paused) paused)
      rfl rfl (fun _ => rfl) id
  · have moving : ¬AtRest { s.clock with ticksDue := s.clock.ticksDue - 1, showTime := s.clock.showTime + 1 } := by
      rintro (h | ⟨h, -⟩)
      · exact absurd (running.symm.trans h) nofun
      · exact absurd (running.symm.trans h) nofun
    exact storeLaw_takeDue _ (storeLaw_of_same law rfl rfl (fun _ => rfl) fun rest => absurd rest moving) moving
  · exact storeLaw_setClock law id

theorem storeLaw_reset : StoreLaw State.reset := by
  have timelines (c : Fin 49) : State.reset.store.timelines[c] = [] := by simp [State.reset, Store.reset]
  have channels (c : Fin 49) : State.reset.channels[c] = ChannelRec.reset := by simp [State.reset]
  refine storeLaw_iff.2 ⟨by decide, fun c => ?_, fun c d _ => ?_, fun c => ?_, fun _ c => ?_⟩
  · rw [timelines]; exact List.nodup_nil
  · rw [timelines]; exact List.disjoint_nil_left _
  · rw [timelines, channels]
    exact ⟨nofun, List.Pairwise.nil, List.Pairwise.nil, rfl⟩
  · rw [timelines, channels]
    exact ⟨nofun, rfl⟩

theorem storeLaw_event (i : Instr) (s t : State) (h : EventDoes s i t) (law : StoreLaw s) : StoreLaw t := by
  cases h with
  | nothing => exact law
  | link => exact storeLaw_of_same law rfl rfl (fun _ => rfl) id
  | written => exact storeLaw_of_same law (by simp) (by simp) (sameLeads_of_water (by simp)) (by simp)
  | reset cause =>
    have records : StoreLaw (pinResetRecords cause s) := storeLaw_of_same storeLaw_reset rfl rfl (fun _ => rfl) id
    exact storeLaw_of_onlySafe records (pinReset_frame s cause) (atRest_of_safeAtMost (pinReset_bound cause s))
  | audio =>
    obtain ⟨running, clock⟩ := audioFrame_clock s
    refine storeLaw_of_same law ?_ ?_ (sameLeads_of_water ?_) fun rest => ?_
    · rw [audioFrame_frame]
    · rw [audioFrame_frame]
    · rw [audioFrame_frame]
    · rw [clock, countFrame_clock] at rest
      split_ifs at rest <;> exact rest
  | tick => exact storeLaw_showTick law
  | segmentEnd v => rw [segmentEnd_frame]; exact storeLaw_of_same law rfl rfl (fun _ => rfl) id
  | fadeEnd => rw [safeFadeEnd_frame]; exact storeLaw_of_same law rfl rfl (fun _ => rfl) id
  | clockLoss =>
    refine storeLaw_of_onlySafe law (onlySafe_wordClockLoss s) fun rest => ?_
    unfold wordClockLoss at rest
    split_ifs at rest
    · have before := atRest_of_safeAtMost (safeAtMost_addCause _ _) rest
      exact before
    · exact rest
  | clockEdge => exact storeLaw_of_same law rfl rfl (fun _ => rfl) id
  | field _ _ reach => exact storeLaw_of_safeAtMost law (safeAtMost_turnReach reach) (sameLeads_turnReach reach)
  | measured => exact storeLaw_of_same law rfl rfl (fun _ => rfl) id
  | accepted _ k u =>
    refine storeLaw_of_onlySafe (s := s.setSup u) (storeLaw_of_same law rfl rfl (fun _ => rfl) id) (onlySafe_acceptLevel _ k)
      (atRest_of_safeAtMost (safeAtMost_acceptLevel k _))
  | estop =>
    exact storeLaw_of_onlySafe law (onlySafe_estopFilterExpiry s) (atRest_of_safeAtMost (safeAtMost_estopFilterExpiry s))
  | silence =>
    obtain ⟨since, bound⟩ := silenceTimerExpiry_bound s
    exact storeLaw_of_onlySafe law (onlySafe_silenceTimerExpiry s) fun rest => by
      have before := atRest_of_safeAtMost bound rest
      exact before
  | light => rw [lightUpdate_frame]; exact storeLaw_of_same law rfl rfl (fun _ => rfl) id
  | pwm => rw [pwmFrameBoundary_frame]; exact storeLaw_of_same law rfl rfl (fun _ => rfl) id

/-! ### Owners -/

theorem chaseAll_timelines (t t0 : Nat) (s : State) (c : Fin 49) :
    (chaseAll t t0 s).store.timelines[c] = chaseTimeline t t0 s.store.timelines[c] s.channels[c] := by
  simp [chaseAll]

theorem chaseAll_channels (t t0 : Nat) (s : State) (c : Fin 49) :
    (chaseAll t t0 s).channels[c] = chaseRecord t t0 s.store.timelines[c] s.channels[c] := by
  simp [chaseAll]

theorem chaseProgramme_timelines (t : Nat) (s : State) (c : Fin 49) :
    (chaseProgramme t s).store.timelines[c] =
      if programme = c then chaseTimeline t t s.store.timelines[c] s.channels[c] else s.store.timelines[c] := by
  rw [chaseProgramme, handOverChase_store, State.setChannels_store, State.setStore_store, timelines_setTimeline]
  split_ifs with e
  · subst e; rfl
  · rfl

theorem chaseProgramme_channels (t : Nat) (s : State) (c : Fin 49) :
    (chaseProgramme t s).channels[c] =
      if programme = c then chaseRecord t t s.store.timelines[c] s.channels[c] else s.channels[c] := by
  rw [chaseProgramme, handOverChase_channels, State.setChannels_channels]
  split_ifs with e
  · subst e; simp
  · simp [Fin.val_ne_of_ne e]

section
variable {s t : State}

theorem storeLaw_chaseAll (now t0 : Nat) (law : StoreLaw s) (store : t.store = (chaseAll now t0 s).store)
    (channels : t.channels = (chaseAll now t0 s).channels) (water : t.water = s.water) (moving : ¬AtRest t.clock) :
    StoreLaw t := by
  refine storeLaw_of_sameCues law (fun c => ?_) (sameLeads_of_water water) (fun c => ?_) fun rest => absurd rest moving
  · rw [store, chaseAll_timelines]
    exact sameCues_chaseTimeline ..
  · rw [store, channels, chaseAll_timelines, chaseAll_channels]
    exact timelineLaw_chase now t0 (timelineLaw_of_storeLaw law c)

theorem storeLaw_chaseProgramme (now : Nat) (law : StoreLaw s) (store : t.store = (chaseProgramme now s).store)
    (channels : t.channels = (chaseProgramme now s).channels) (water : t.water = s.water) (moving : ¬AtRest t.clock) :
    StoreLaw t := by
  refine storeLaw_of_sameCues law (fun c => ?_) (sameLeads_of_water water) (fun c => ?_) fun rest => absurd rest moving
  · rw [store, chaseProgramme_timelines]
    split_ifs
    · exact sameCues_chaseTimeline ..
    · rfl
  · rw [store, channels, chaseProgramme_timelines, chaseProgramme_channels]
    split_ifs
    · exact timelineLaw_chase now now (timelineLaw_of_storeLaw law c)
    · exact timelineLaw_of_storeLaw law c

theorem atRest_running {c : Clock} (h : c.state = .running) : ¬AtRest c := by
  rintro (e | ⟨e, -⟩)
  · exact absurd (h.symm.trans e) nofun
  · exact absurd (h.symm.trans e) nofun

theorem atRest_paused {c : Clock} (h : c.state = .paused) : ¬AtRest c := by
  rintro (e | ⟨e, -⟩)
  · exact absurd (h.symm.trans e) nofun
  · exact absurd (h.symm.trans e) nofun

theorem storeLaw_stop (k : Clock) (law : StoreLaw s) : StoreLaw (clearShow (s.setClock k)) := by
  have timelines (c : Fin 49) : (clearShow (s.setClock k)).store.timelines[c] = s.store.timelines[c].map Cue.toWaiting := by
    simp [clearShow]
  have channels (c : Fin 49) : (clearShow (s.setClock k)).channels[c] = ChannelRec.reset := by simp [clearShow]
  refine storeLaw_of_sameCues law (fun c => ?_) (sameLeads_of_water (by simp)) (fun c => ?_) fun _ c => ?_
  · rw [timelines]
    exact sameCues_map (f := Cue.toWaiting) (fun _ => rfl) _
  · rw [timelines, channels]
    exact timelineLaw_stop (timelineLaw_of_storeLaw law c)
  · rw [timelines, channels]
    refine ⟨fun q hq => ?_, rfl⟩
    obtain ⟨p, -, rfl⟩ := List.mem_map.1 hq
    rfl

/-! #### PLACE CUE -/

theorem payloadFits_of_readPayload {c : Fin 49} {raw : RawPayload} {p : Payload} (h : readPayload c raw = some p) :
    payloadFits c p = true := by
  unfold readPayload at h
  split_ifs at h with jet _ head _
  · cases h; simpa [payloadFits] using jet
  · cases h; simp [payloadFits, head, Nat.not_lt.1 jet]
  · have here : c.val = 48 := by omega
    unfold readProgramme at h
    split at h
    · split_ifs at h
      obtain ⟨k, -, rfl⟩ := Option.map_eq_some_iff.1 h
      simpa [payloadFits] using here
    · split_ifs at h
      cases h; simpa [payloadFits] using here
    · cases h; simpa [payloadFits] using here
    · cases h

theorem not_mem_numbersOf {n : Nat} (h : s.store.find n = none) (c : Fin 49) : n ∉ numbersOf s.store.timelines[c] := by
  intro mem
  obtain ⟨q, hq, e⟩ := List.mem_map.1 mem
  exact Store.find_none h c q hq e

theorem waiting_of_not_late {start : Nat} {tl : List Cue} (h : tooLate start tl = false) :
    ∀ d ∈ tl, start < d.start → d.state = .waiting := by
  intro d hd before
  have := List.any_eq_false.1 h d hd
  simpa [before] using this

theorem placeOn_spec (c : Fin 49) (q : Cue) (s : State) :
    (placeOn c q s).store = s.store.setTimeline c (insertCue q s.store.timelines[c]) := by
  unfold placeOn noticeLow
  split_ifs <;> rfl

theorem storeLaw_place {a : CueArgs} {c : Fin 49} {sh : Shape} {p : Payload} (law : StoreLaw s)
    (payload : readPayload c a.payload = some p) (range : cueFieldsInRange a.number a.start a.ramp = true)
    (new : s.store.find a.number = none) (clash : startPresent a.start s.store.timelines[c] = false)
    (room : s.store.occupied < Config.cueSlots) (late : tooLate a.start s.store.timelines[c] = false) :
    StoreLaw (placeOn c (newCue s c a sh p) s) := by
  have frame := placeOn_frame s c (newCue s c a sh p)
  have store := placeOn_spec c (newCue s c a sh p) s
  have channels : (placeOn c (newCue s c a sh p) s).channels = s.channels := by rw [frame]
  have leads : SameLeads s (placeOn c (newCue s c a sh p) s) := sameLeads_of_water (by rw [frame])
  have clock : (placeOn c (newCue s c a sh p) s).clock = s.clock := by rw [frame]
  have perm : (numbersOf (insertCue (newCue s c a sh p) s.store.timelines[c])).Perm
      (a.number :: numbersOf s.store.timelines[c]) := (insertCue_perm _ _).map _
  simp only [cueFieldsInRange, Bool.and_eq_true, decide_eq_true_eq] at range
  obtain ⟨⟨⟨low, high⟩, start⟩, ramp⟩ := range
  refine storeLaw_of_setTimeline law store (fun d _ => by rw [channels]) (fun d _ => leadOf_congr leads d) ?_ ?_ ?_ ?_ ?_
  · rw [channels, leadOf_congr leads]
    refine timelineLaw_insertCue (timelineLaw_of_storeLaw law c) ?_ rfl (fun d hd => ?_) (waiting_of_not_late late)
    · exact ⟨low, high, start, ramp, payloadFits_of_readPayload payload, rfl⟩
    · show d.start ≠ a.start
      simpa using List.any_eq_false.1 clash d hd
  · have := occupied_setTimeline s.store c (insertCue (newCue s c a sh p) s.store.timelines[c])
    rw [length_insertCue] at this
    rw [store]
    omega
  · rw [perm.nodup_iff, List.nodup_cons]
    exact ⟨not_mem_numbersOf new c, numbers_of_storeLaw law c⟩
  · intro n hn
    rcases List.mem_cons.1 (perm.mem_iff.1 hn) with rfl | mem
    · exact .inr (not_mem_numbersOf new)
    · exact .inl mem
  · rw [clock]
    intro rest d
    have nothing := law.stopped rest d
    rw [store, channels, timelines_setTimeline]
    refine ⟨fun q hq => ?_, nothing.2⟩
    split_ifs at hq with e
    · subst e
      rcases mem_insertCue.1 hq with rfl | hq
      · rfl
      · exact nothing.1 q hq
    · exact nothing.1 q hq

/-! #### AMEND CUE -/

theorem numbersOf_replaceCue {q r : Cue} {tl : List Cue} (numbers : (numbersOf tl).Nodup) (mem : q ∈ tl)
    (h : r.number = q.number) : numbersOf (replaceCue q.number r tl) = numbersOf tl :=
  map_replaceCue (fun d => d.number) numbers mem h

theorem length_replaceCue (n : Nat) (r : Cue) (tl : List Cue) : (replaceCue n r tl).length = tl.length := List.length_map ..

theorem count_setTimeline {c : Fin 49} {tl : List Cue} (law : StoreLaw s) (shorter : tl.length ≤ s.store.timelines[c].length) :
    (s.store.setTimeline c tl).occupied ≤ Config.cueSlots := by
  have := occupied_setTimeline s.store c tl
  have := law.count
  omega

/-- The fields that an amendment writes keep to their ranges and to the channel's kind (R1, R2, R8). -/
theorem amended_fits {a : AmendArgs} {lead : Nat} {c : Fin 49} {q : Cue} {p : Payload} (fits : CueFits lead c q)
    (range : amendInRange a = true) (payload : amendedPayload a c q = some p) : CueFits lead c (amendedCue a q p) := by
  obtain ⟨low, high, start, ramp, kind, dispatch⟩ := fits
  simp only [amendInRange, Bool.and_eq_true, Bool.or_eq_true, decide_eq_true_eq, Bool.not_eq_true'] at range
  obtain ⟨⟨-, newRamp⟩, -⟩ := range
  refine ⟨low, high, start, ?_, ?_, dispatch⟩
  · show (if AmendArgs.selects a 1 then a.ramp else q.ramp) ≤ Config.rampMax
    split_ifs with sel
    · exact newRamp.resolve_left (by simp [sel])
    · exact ramp
  · unfold amendedPayload at payload
    split_ifs at payload
    · exact payloadFits_of_readPayload payload
    · cases payload; exact kind

theorem amendStart_le {a : AmendArgs} (range : amendInRange a = true) (sel : AmendArgs.selects a 0 = true) :
    a.start ≤ Config.showTimeMax := by
  simp only [amendInRange, Bool.and_eq_true, Bool.or_eq_true, decide_eq_true_eq, Bool.not_eq_true'] at range
  obtain ⟨⟨⟨-, start⟩, -⟩, -⟩ := range
  exact start.resolve_left (by simp [sel])

theorem numbersOf_removeCue (n : Nat) (tl : List Cue) : n ∉ numbersOf (removeCue n tl) := by
  intro mem
  obtain ⟨q, hq, e⟩ := List.mem_map.1 mem
  simpa [e] using (List.mem_filter.1 hq).2

theorem length_removeCue_lt {q : Cue} {tl : List Cue} (mem : q ∈ tl) : (removeCue q.number tl).length < tl.length :=
  List.length_filter_lt_length_iff_exists.2 ⟨q, mem, by simp⟩

theorem not_taken_of_number {lead : Nat} {c : Fin 49} {q d : Cue} {tl : List Cue} {rec : ChannelRec}
    (_ : TimelineLaw lead c tl rec) (numbers : (numbersOf tl).Nodup) (mem : q ∈ tl) (out : q.isTaken = false) (hd : d ∈ tl)
    (taken : d.isTaken = true) : d.number ≠ q.number := by
  intro e
  rw [List.inj_on_of_nodup_map numbers hd mem e, out] at taken
  cases taken

theorem storeLaw_amendWaiting {a : AmendArgs} {c : Fin 49} {q : Cue} {p : Payload} (law : StoreLaw s)
    (range : amendInRange a = true) (mem : q ∈ s.store.timelines[c]) (payload : amendedPayload a c q = some p)
    (waiting : q.state = .waiting)
    (clash : AmendArgs.selects a 0 = true → otherHasStart q.number a.start s.store.timelines[c] = false)
    (late : AmendArgs.selects a 0 = true → tooLate a.start s.store.timelines[c] = false) :
    StoreLaw (amendWaiting a c q (amendedCue a q p) s) := by
  have old := timelineLaw_of_storeLaw law c
  have numbers := numbers_of_storeLaw law c
  have fits := amended_fits (old.fits q mem) range payload
  unfold amendWaiting
  dsimp only
  split_ifs with moves
  · obtain ⟨sel, -⟩ := Bool.and_eq_true_iff.1 moves
    obtain ⟨low, high, -, ramp, kind, -⟩ := fits
    have subset {d : Cue} (hd : d ∈ removeCue q.number s.store.timelines[c]) : d ∈ s.store.timelines[c] := removeCue_subset hd
    set moved : Cue := { amendedCue a q p with start := a.start, dispatch := dispatchTime (leadOf s c) a.start } with hm
    have perm : (numbersOf (insertCue moved (removeCue q.number s.store.timelines[c]))).Perm
        (q.number :: numbersOf (removeCue q.number s.store.timelines[c])) := (insertCue_perm _ _).map _
    refine storeLaw_of_setTimeline law rfl (fun _ _ => rfl) (fun _ _ => rfl) ?_ ?_ ?_ ?_ ?_
    · refine timelineLaw_insertCue (timelineLaw_filter old fun d hd taken => ?_) ?_ waiting (fun d hd => ?_) fun d hd before => ?_
      · simpa using not_taken_of_number old numbers mem (isTaken_of_waiting waiting) hd taken
      · exact ⟨low, high, amendStart_le range sel, ramp, kind, rfl⟩
      · have other := List.any_eq_false.1 (clash sel) d (subset hd)
        have number : d.number ≠ q.number := by simpa using (List.mem_filter.1 hd).2
        simpa [number] using other
      · exact waiting_of_not_late (late sel) d (subset hd) before
    · refine count_setTimeline law ?_
      rw [length_insertCue]
      exact length_removeCue_lt mem
    · rw [perm.nodup_iff, List.nodup_cons]
      exact ⟨numbersOf_removeCue _ _, numbers.sublist (List.filter_sublist.map _)⟩
    · intro n hn
      refine .inl ?_
      rcases List.mem_cons.1 (perm.mem_iff.1 hn) with rfl | hn
      · exact List.mem_map_of_mem mem
      · exact (List.filter_sublist.map _).subset hn
    · intro rest d
      have nothing := law.stopped rest d
      rw [State.setStore_store, timelines_setTimeline]
      refine ⟨fun e he => ?_, nothing.2⟩
      split_ifs at he with cd
      · subst cd
        rcases mem_insertCue.1 he with rfl | he
        · exact waiting
        · exact nothing.1 e (subset he)
      · exact nothing.1 e he
  · refine storeLaw_of_setTimeline (tl := replaceCue q.number (amendedCue a q p) s.store.timelines[c]) law rfl (fun _ _ => rfl)
      (fun _ _ => rfl) ?_ ?_ ?_ ?_ ?_
    · exact timelineLaw_replaceCue old numbers mem fits rfl rfl rfl rfl
    · exact count_setTimeline law (length_replaceCue ..).le
    · rw [numbersOf_replaceCue numbers mem (by rfl)]
      exact numbers
    · rw [numbersOf_replaceCue numbers mem (by rfl)]
      exact fun n hn => .inl hn
    · intro rest d
      have nothing := law.stopped rest d
      rw [State.setStore_store, timelines_setTimeline]
      refine ⟨fun e he => ?_, nothing.2⟩
      split_ifs at he with cd
      · subst cd
        obtain ⟨f, hf, rfl⟩ := List.mem_map.1 he
        split_ifs
        · exact waiting
        · exact nothing.1 f hf
      · exact nothing.1 e he

/-- The taken cue of a timeline is the channel's (R41). -/
theorem taken_of_mem {lead : Nat} {c : Fin 49} {q : Cue} {tl : List Cue} {rec : ChannelRec} (law : TimelineLaw lead c tl rec)
    (mem : q ∈ tl) (taken : q.isTaken = true) : rec.taken = some q.number := by
  obtain ⟨before, after, rfl⟩ := List.append_of_mem mem
  have none : before.find? Cue.isTaken = none :=
    List.find?_eq_none.2 fun d hd => by simp [taken_unique law.states taken (.inl hd)]
  rw [law.taken, List.find?_append, none, List.find?_cons, taken]
  rfl

theorem not_atRest_of_taken {c : Fin 49} {q : Cue} (law : StoreLaw s) (mem : q ∈ s.store.timelines[c])
    (taken : q.isTaken = true) : ¬AtRest s.clock := by
  intro rest
  rw [isTaken_of_waiting ((law.stopped rest c).1 q mem)] at taken
  cases taken

theorem storeLaw_amendTaken {a : AmendArgs} {c : Fin 49} {q : Cue} {p : Payload} (law : StoreLaw s)
    (range : amendInRange a = true) (mem : q ∈ s.store.timelines[c]) (payload : amendedPayload a c q = some p)
    (taken : q.isTaken = true) : StoreLaw (amendTaken c q (amendedCue a q p) s) := by
  have old := timelineLaw_of_storeLaw law c
  have numbers := numbers_of_storeLaw law c
  obtain ⟨low, high, start, ramp, kind, dispatch⟩ := amended_fits (old.fits q mem) range payload
  have frame := amendTaken_frame s c q (amendedCue a q p)
  by_cases changes : amendChanges q (amendedCue a q p) = true
  · set rec' := restartedRecord (amendedCue a q p) s.channels[c] s.clock.showTime with hrec
    set cue : Cue := { amendedCue a q p with state := takenState rec' s.clock.showTime } with hcue
    have store : (amendTaken c q (amendedCue a q p) s).store =
        s.store.setTimeline c (replaceCue q.number cue s.store.timelines[c]) := by
      rw [amendTaken, if_pos changes]
      dsimp only
      split_ifs <;> rfl
    have channels : (amendTaken c q (amendedCue a q p) s).channels = s.channels.set c rec' := by
      rw [amendTaken, if_pos changes]
      dsimp only
      split_ifs <;> rfl
    have rank : stateRank cue.state = stateRank q.state := by
      rw [isTaken_iff.1 taken]
      exact isTaken_iff.1 (isTaken_takenState (amendedCue a q p) rec' s.clock.showTime (amendedCue a q p).skipped)
    have leads : SameLeads s (amendTaken c q (amendedCue a q p) s) := sameLeads_of_water (by rw [frame])
    refine storeLaw_of_setTimeline law store (fun d dc => ?_) (fun d _ => leadOf_congr leads d) ?_ ?_ ?_ ?_ ?_
    · rw [channels]
      simp [Fin.val_ne_of_ne (Ne.symm dc)]
    · rw [channels, leadOf_congr leads, show (s.channels.set c rec')[c] = rec' by simp]
      refine timelineLaw_replaceCue old numbers mem ⟨low, high, start, ramp, kind, dispatch⟩ rfl rfl rank ?_
      rw [taken_of_mem old mem taken]
      rfl
    · rw [store]
      exact count_setTimeline law (length_replaceCue ..).le
    · rw [numbersOf_replaceCue numbers mem (by rfl)]
      exact numbers
    · rw [numbersOf_replaceCue numbers mem (by rfl)]
      exact fun n hn => .inl hn
    · rw [show (amendTaken c q (amendedCue a q p) s).clock = s.clock by rw [frame]]
      exact fun rest => absurd rest (not_atRest_of_taken law mem taken)
  · rw [amendTaken, if_neg changes]
    exact law

/-! #### RETIRE CUE and RETIRE PASSED -/

theorem retireOn_store (c : Fin 49) (q : Cue) (s : State) :
    (retireOn c q s).store = s.store.setTimeline c (removeCue q.number s.store.timelines[c]) := by
  unfold retireOn
  dsimp only
  split_ifs <;> rfl

theorem retireOn_channels (c : Fin 49) (q : Cue) (s : State) : (retireOn c q s).channels =
    if q.isTaken then s.channels.set c (frozenRecord s.channels[c] s.clock.showTime) else s.channels := by
  unfold retireOn
  dsimp only
  split_ifs <;> rfl

theorem storeLaw_retireOn {c : Fin 49} {q : Cue} (law : StoreLaw s) (mem : q ∈ s.store.timelines[c]) :
    StoreLaw (retireOn c q s) := by
  have old := timelineLaw_of_storeLaw law c
  have numbers := numbers_of_storeLaw law c
  have frame := retireOn_frame s c q
  have leads : SameLeads s (retireOn c q s) := sameLeads_of_water (by rw [frame])
  have clock : (retireOn c q s).clock = s.clock := by rw [frame]
  have sub : (removeCue q.number s.store.timelines[c]).Sublist s.store.timelines[c] := List.filter_sublist
  refine storeLaw_of_setTimeline law (retireOn_store c q s) (fun d dc => ?_) (fun d _ => leadOf_congr leads d) ?_ ?_ ?_ ?_ ?_
  · rw [retireOn_channels]
    split_ifs
    · simp [Fin.val_ne_of_ne (Ne.symm dc)]
    · rfl
  · rw [retireOn_channels, leadOf_congr leads]
    cases taken : q.isTaken with
    | true => exact timelineLaw_removeTaken old mem taken (by simp [frozenRecord])
    | false =>
      refine timelineLaw_filter old fun d hd dt => ?_
      simpa using not_taken_of_number old numbers mem taken hd dt
  · rw [retireOn_store]
    exact count_setTimeline law sub.length_le
  · exact numbers.sublist (sub.map _)
  · exact fun n hn => .inl ((sub.map _).subset hn)
  · rw [clock]
    intro rest d
    have nothing := law.stopped rest d
    rw [retireOn_store, retireOn_channels, timelines_setTimeline, isTaken_of_waiting ((law.stopped rest c).1 q mem)]
    refine ⟨fun e he => ?_, nothing.2⟩
    split_ifs at he with cd
    · subst cd
      exact nothing.1 e (sub.subset he)
    · exact nothing.1 e he

theorem storeLaw_retirePassedOn (time : Nat) (channel : Option (Fin 49)) (law : StoreLaw s) :
    StoreLaw (retirePassedOn time channel s) := by
  obtain ⟨count, each, apart, timeline, stopped⟩ := storeLaw_iff.1 law
  have frame := retirePassedOn_frame s time channel
  have timelines (c : Fin 49) : (retirePassedOn time channel s).store.timelines[c] = if channel = none ∨ channel = some c then
      s.store.timelines[c].filter (fun q => !passedBefore time q) else s.store.timelines[c] := by
    rw [retirePassedOn, State.setStore_store]
    simp only [Fin.getElem_fin, Vector.getElem_ofFn, Fin.eta]
  have sub (c : Fin 49) : ((retirePassedOn time channel s).store.timelines[c]).Sublist s.store.timelines[c] := by
    rw [timelines]
    split_ifs
    · exact List.filter_sublist
    · exact .refl _
  have channels : (retirePassedOn time channel s).channels = s.channels := by rw [frame]
  have leads : SameLeads s (retirePassedOn time channel s) := sameLeads_of_water (by rw [frame])
  have clock : (retirePassedOn time channel s).clock = s.clock := by rw [frame]
  refine storeLaw_iff.2 ⟨(occupied_le fun c => (sub c).length_le).trans count, fun c => (each c).sublist ((sub c).map _),
    fun c d cd n hc hd => apart c d cd (((sub c).map _).subset hc) (((sub d).map _).subset hd), fun c => ?_, fun rest c => ?_⟩
  · rw [channels, leadOf_congr leads, timelines]
    split_ifs
    · refine timelineLaw_filter (timeline c) fun q _ taken => ?_
      rw [passedBefore]
      cases state : q.state with
      | passed => rw [isTaken_of_passed state] at taken; cases taken
      | _ => rfl
    · exact timeline c
  · rw [clock] at rest
    rw [channels]
    exact ⟨fun q hq => (stopped rest c).1 q ((sub c).subset hq), (stopped rest c).2⟩

/-! #### SET GROUP -/

theorem leadOf_jetChannel (n : Fin 32) (s : State) : leadOf s (jetChannel n) = s.water.groups[n].lead := by
  rw [leadOf, show jetOf (jetChannel n) = some n from fin?_val n]

theorem jetChannel_of_jetOf {c : Fin 49} {n : Fin 32} (h : jetOf c = some n) : c = jetChannel n := by
  have e : c.val = n.val := fin?_eq_some.1 h
  exact Fin.ext e

theorem storeLaw_acceptGroup {n : Fin 32} {g : Group} (law : StoreLaw s) : StoreLaw (acceptGroup n g s) := by
  obtain ⟨st, bound, recomputed⟩ := acceptGroup_bound n g s
  have store : (acceptGroup n g s).store = st := bound.store
  have channels : (acceptGroup n g s).channels = s.channels := bound.channels
  have rest (h : AtRest (acceptGroup n g s).clock) : AtRest s.clock := by
    have before := atRest_of_safeAtMost bound h
    exact before
  have lead (m : Fin 32) : (acceptGroup n g s).water.groups[m].lead = if n = m then g.lead else s.water.groups[m].lead := by
    rw [acceptGroup_water, setGroupRec_groups]
    split_ifs <;> rfl
  rcases recomputed with ⟨rfl, same⟩ | ⟨-, rfl⟩
  · refine storeLaw_of_same law store channels (fun m => ?_) rest
    rw [lead]
    split_ifs with e
    · rw [← e, same]
    · rfl
  · have numbers : numbersOf (recomputeDispatch g.lead s.store.timelines[jetChannel n]) =
        numbersOf s.store.timelines[jetChannel n] := by simp [numbersOf, recomputeDispatch]
    refine storeLaw_of_setTimeline law store (fun d _ => by rw [channels]) (fun d dn => ?_) ?_ ?_ ?_ ?_ fun h d => ?_
    · unfold leadOf
      cases jet : jetOf d with
      | none => rfl
      | some m =>
        dsimp only
        rw [lead, if_neg]
        rintro rfl
        exact dn (jetChannel_of_jetOf jet)
    · rw [channels, leadOf_jetChannel, lead, if_pos rfl]
      exact timelineLaw_recompute (timelineLaw_of_storeLaw law _)
    · rw [store]
      exact count_setTimeline law (List.length_map ..).le
    · rw [numbers]
      exact numbers_of_storeLaw law _
    · rw [numbers]
      exact fun m hm => .inl hm
    · have nothing := law.stopped (rest h) d
      rw [store, channels, timelines_setTimeline]
      refine ⟨fun e he => ?_, nothing.2⟩
      split_ifs at he with cd
      · subst cd
        obtain ⟨f, hf, rfl⟩ := List.mem_map.1 he
        exact nothing.1 f hf
      · exact nothing.1 e he

/-! #### RESTART and the rest -/

theorem storeLaw_restart (law : StoreLaw s) : StoreLaw (restartClock (clearLatched (restartTime (emptyShow (restartLink s))))) := by
  set u := clearLatched (restartTime (emptyShow (restartLink s))) with hu
  have timelines (c : Fin 49) : (restartClock u).store.timelines[c] = [] := by
    rw [restartClock_frame]
    simp [hu, restartTime, emptyShow, restartLink]
  have channels (c : Fin 49) : (restartClock u).channels[c] = ChannelRec.reset := by
    rw [restartClock_frame]
    simp [hu, restartTime, emptyShow, restartLink]
  refine storeLaw_iff.2 ⟨?_, fun c => ?_, fun c d _ => ?_, fun c => ?_, fun _ c => ?_⟩
  · refine (occupied_le (st := s.store) fun c => ?_).trans law.count
    rw [timelines]
    exact Nat.zero_le _
  · rw [timelines]; exact List.nodup_nil
  · rw [timelines]; exact List.disjoint_nil_left _
  · rw [timelines, channels]
    exact ⟨nofun, List.Pairwise.nil, List.Pairwise.nil, rfl⟩
  · rw [timelines, channels]
    exact ⟨nofun, rfl⟩

end

theorem storeLaw_owner (r : Request) (s t : State) (h : OwnerDoes s r t) (law : StoreLaw s) : StoreLaw t := by
  cases h with
  | nothing => exact law
  | start =>
    refine storeLaw_chaseAll s.clock.showTime s.clock.showTime law (by simp) (by simp) (by simp) (atRest_running ?_)
    rw [doReturnWork_clock, setRunning_clock]
  | pause => exact storeLaw_setClock law fun rest => absurd rest (atRest_paused rfl)
  | resume =>
    have moving (u : State) : ¬AtRest (doReturnWork (setRunning u)).clock :=
      atRest_running (by rw [doReturnWork_clock, setRunning_clock])
    split_ifs
    · exact storeLaw_chaseProgramme s.clock.showTime law (by simp) (by simp) (by simp) (moving _)
    · exact storeLaw_of_same law (by simp) (by simp) (sameLeads_of_water (by simp)) fun rest => absurd rest (moving s)
  | stop => exact storeLaw_stop _ law
  | move time stopped => exact storeLaw_setClock law id
  | seek time paused =>
    refine storeLaw_chaseAll _ _ (storeLaw_setClock law id) rfl rfl (by simp) (atRest_paused ?_)
    rw [chaseAll_clock]
    exact paused
  | lengthStopped length => exact storeLaw_setClock law id
  | lengthPaused length => exact storeLaw_setClock law id
  | place a c sh p payload range new clash room late => exact storeLaw_place law payload range new clash room late
  | amendWaiting a c q p range found payload waiting clash late =>
    exact storeLaw_amendWaiting law range (Store.find_some found).1 payload waiting clash late
  | amendTaken a c q p range found payload taken =>
    exact storeLaw_amendTaken law range (Store.find_some found).1 payload taken
  | retire n c q found => exact storeLaw_retireOn law (Store.find_some found).1
  | retirePassed time channel c => exact storeLaw_retirePassedOn time c law
  | threshold n => exact storeLaw_of_sameCues law (fun _ => rfl) (fun _ => rfl) (timelineLaw_of_storeLaw law) law.stopped
  | group a n pump valve wind => exact storeLaw_acceptGroup law
  | curve group curve n =>
    refine storeLaw_of_same law rfl rfl (fun m => ?_) id
    rw [setGroupRec_groups]
    split_ifs with e
    · rw [← e]
    · rfl
  | line => exact storeLaw_of_same law (by simp) (by simp) (sameLeads_of_water (by simp)) (by simp)
  | node i l k =>
    exact storeLaw_of_safeAtMost law (safeAtMost_writeNode i _ s) (sameLeads_writeNode i _ s)
  | dropNode n i => exact storeLaw_of_safeAtMost law (safeAtMost_dropNode i s) (sameLeads_dropNode i s)
  | mode m f x k =>
    refine storeLaw_of_same law ?_ ?_ (sameLeads_of_water ?_) fun rest => ?_
    · rw [changeMode_frame]; rfl
    · rw [changeMode_frame]; rfl
    · rw [changeMode_frame]; rfl
    · rw [State.setPlay_clock, changeMode_clock] at rest
      exact rest
  | supervision c =>
    obtain ⟨since, bound⟩ := applySupervision_bound c s
    exact storeLaw_of_onlySafe law (onlySafe_applySupervision s c) fun rest => by
      have before := atRest_of_safeAtMost bound rest
      exact before
  | forceSafe => exact storeLaw_of_onlySafe law (onlySafe_addCause s .forced) (atRest_of_safeAtMost (safeAtMost_addCause .forced s))
  | clearSafe safe =>
    refine storeLaw_of_same law (by simp) (by simp) (sameLeads_of_water (by simp)) fun rest => .inr ⟨safe, ?_⟩
    have state : (leaveSafe (stateAfterSafe s.clock.safeOrigin) (clearLatched s)).clock.state =
        stateAfterSafe s.clock.safeOrigin := rfl
    rw [AtRest, state] at rest
    cases origin : s.clock.safeOrigin <;> simp_all [stateAfterSafe]
  | restart => exact storeLaw_restart law
  | _ => exact storeLaw_of_same law rfl rfl (fun _ => rfl) id

/-- Settles O55: the law from every owner and every event. -/
theorem storeLawKept : Obligations.StoreLawKept := fun _ _ law step =>
  step_keeps (fun _ _ law => storeLaw_of_same law rfl rfl (fun _ => rfl) id)
    (fun _ _ _ => exec_keeps (fun _ _ law => storeLaw_of_same law rfl rfl (fun _ => rfl) id) storeLaw_owner storeLaw_event)
    law step

end Sys2Proof.Machine
end

section

/-! # Request rows, the reset state and the supervision unit

What a request row leaves where its owner answers, and the obligations about single commands of the supervision unit. -/

namespace Sys2Proof.Machine

open Sys2Proof.Safety

/-! ### Request rows on a free link (R156, R158) -/

section
variable {i : Instr} {r : Request} {s t : State} {st : Status} {data : List Byte}

/-- What a row leaves, whatever its owner has done to the pending set. -/
theorem exec_settles (hi : i.request? = some r) (hf : LinkFree s) (hr : r.wf = true)
    (h : handle r (withRequest r s) = (t, some { status := st, data := data })) :
    exec i s = .next (t.setLink { t.link with
      state := .handling (.finished { echo := BitVec.ofNat 8 r.code, status := st, data := data }) }) := by
  have hq : t.link.request = encodeRequest r := by
    have held := handle_request r (withRequest r s)
    rwa [h] at held
  rw [exec_request hi, issue_wf _ hf hr, settle_answer h, hq, encodeRequest_head]

theorem exec_answers (hi : i.request? = some r) (hf : LinkFree s) (hr : r.wf = true)
    (h : handle r (withRequest r s) = (t, some { status := st, data := data })) (hk : t.link = linkWithRequest r s) :
    exec i s = .next (t.setLink (linkWithAnswer r st data s)) := by
  rw [exec_request hi, issue_wf_answers hf hr h hk]

/-- A row whose owner only reads. -/
theorem exec_reads (hi : i.request? = some r) (hf : LinkFree s) (hr : r.wf = true)
    (h : handle r (withRequest r s) = done data (withRequest r s)) :
    exec i s = .next { s with link := linkWithAnswer r .done data s } :=
  exec_answers (t := withRequest r s) hi hf hr h rfl

theorem exec_refuses (hi : i.request? = some r) (hf : LinkFree s) (hr : r.wf = true)
    (h : handle r (withRequest r s) = refuse st (withRequest r s)) :
    exec i s = .next { s with link := linkWithAnswer r st [] s } := by
  rw [exec_request hi, issue_wf_refuses hf hr h]

end

/-! ### One step (O1) -/

/-- Settles O1: both clauses are the two cases of the step on the queue. -/
theorem stepRunsFrontCommand : Obligations.StepRunsFrontCommand := by
  refine ⟨fun c rest s => rfl, fun s empty => ?_⟩
  rw [step, empty]

/-! ### The reset state (O60) -/

theorem segments_reset (k : Fin 64) : State.reset.play.segments[k] = Segment.emptyRecord := by
  simp [State.reset, Playback.reset]

theorem timelines_reset (c : Fin 49) : State.reset.store.timelines[c] = [] := by
  simp [State.reset, Store.reset]

theorem causeLaw_reset : CauseLaw State.reset := by
  have none_lost : criticalLostGroup State.reset = none := by
    rw [← Option.not_isSome_iff_eq_none, criticalLostGroup_isSome]
    rintro ⟨n, hn⟩
    obtain ⟨critical, -⟩ := groupCriticalLost_iff.1 hn
    rw [groups_reset] at critical
    cases critical
  refine ⟨rfl, rfl, rfl, ?_, fun _ => rfl, nofun, fun _ => rfl⟩
  rw [none_lost]
  rfl

theorem playbackLaw_reset : PlaybackLaw State.reset := by
  refine ⟨fun k full => ?_, fun j k _ full _ => ?_, fun c q hq => ?_, fun sounds => absurd rfl sounds,
    fun sounds => absurd rfl sounds, fun ⟨front, _⟩ => VoiceState.noConfusion front, nofun⟩
  · rw [segments_reset] at full; exact absurd rfl full
  · rw [segments_reset] at full; exact absurd rfl full
  · rw [timelines_reset] at hq; cases hq

/-- Settles O60: the law of each block at its reset values. -/
theorem resetMeetsEveryLaw : Obligations.ResetMeetsEveryLaw :=
  ⟨clockLaw_reset, storeLaw_reset, causeLaw_reset, bindingLaw_reset, waterLaw_reset, lightLaw_reset, playbackLaw_reset,
    ⟨List.Pairwise.nil, nofun⟩, rfl, by decide⟩

/-! ### Wind (O37) -/

theorem min_eq_ite (a b : Nat) : min a b = if b ≤ a then b else a := by
  split_ifs <;> omega

/-- The fall of the smoothed wind is an eighth of the difference, rounded up (R106). -/
theorem smoothedWindOf_falls {smoothed raw : Nat} (falls : raw < smoothed) :
    raw ≤ smoothedWindOf smoothed raw ∧ smoothedWindOf smoothed raw < smoothed ∧
      smoothed - raw ≤ 8 * (smoothed - smoothedWindOf smoothed raw) ∧
      8 * (smoothed - smoothedWindOf smoothed raw) < smoothed - raw + 8 := by
  rw [smoothedWindOf, if_neg (by omega)]
  omega

/-- Settles O37: the pulse count saturates, and the smoothed wind rises at once and falls by an eighth. -/
theorem windFollowsTheGates : Obligations.WindFollowsTheGates := by
  intro s
  refine ⟨?_, smoothedWindOf s.sup.smoothedWind (rawWindOf s.sup.pulseCount s.sup.settings.windScale), ?_⟩
  · have saturates : min 65535 (s.sup.pulseCount + 1) = if s.sup.pulseCount < 65535 then s.sup.pulseCount + 1 else 65535 :=
      min_eq_ite ..
    rw [← saturates]
    rfl
  · dsimp only
    rw [← min_eq_ite]
    exact ⟨rfl, fun rises => if_pos rises, smoothedWindOf_falls⟩

/-! ### Word-clock loss (O16) -/

/-- Settles O16: the loss is the cause entering the cause set, in SAFE and outside; an edge takes the cause out. -/
theorem wordClockLossAndReturn : Obligations.WordClockLossAndReturn := by
  intro s follow
  refine ⟨fun running absent => ?_, congrArg Host.Outcome.next (if_pos follow)⟩
  refine ⟨wordClockLoss s, rfl, ?_⟩
  rw [wordClockLoss, if_pos ⟨follow, running⟩]
  rcases addCause_cases .clockLost (raise .clockLost (s.setClock { s.clock with lossTimerRunning := false })) with
    ⟨present, -⟩ | ⟨-, safe, eq⟩ | ⟨-, outside, eq⟩
  · exact absurd (absent.symm.trans present) nofun
  · have safe : s.clock.state = .safe := safe
    rw [eq]
    refine ⟨rfl, ?_, ?_, ?_, fun _ => ⟨rfl, rfl⟩⟩
    · rw [if_pos safe, ← safe]; rfl
    · rw [if_pos safe]; rfl
    · have same (x : BitVec 10) : x ||| 0 = x := BitVec.or_zero
      rw [if_pos safe, same]; rfl
  · have outside : s.clock.state ≠ .safe := outside
    rw [eq]
    refine ⟨rfl, ?_, ?_, ?_, fun safe => absurd safe outside⟩
    · rw [if_neg outside]; rfl
    · rw [if_neg outside]; rfl
    · rw [if_neg outside]; rfl

/-! ### Safe causes (O39) -/

/-- Taking a request moves no more than the link record under a cause that enters the cause set. -/
theorem addCause_withRequest (c : SafeCause) {r : Request} (hr : r ≠ .restart) (s : State) :
    addCause c (withRequest r s) =
      (addCause c s).setLink { linkWithRequest r s with pending := (addCause c s).link.pending } := by
  have pending : (linkWithRequest r s).pending = s.link.pending := if_neg hr
  rcases addCause_cases c s with ⟨present, eq⟩ | ⟨absent, safe, eq⟩ | ⟨absent, outside, eq⟩
  · rw [eq, addCause, if_pos (show c.memberOf (withRequest r s).sup.causes = true from present), ← pending]
    rfl
  · rw [eq, addCause, if_neg (show ¬c.memberOf (withRequest r s).sup.causes = true from absent ▸ nofun)]
    refine (if_pos safe).trans ?_
    rw [State.setSup_link, ← pending]
    rfl
  · rw [eq, addCause, if_neg (show ¬c.memberOf (withRequest r s).sup.causes = true from absent ▸ nofun)]
    refine (if_neg outside).trans ?_
    show enterSafe _ = (enterSafe _).setLink { linkWithRequest r s with
      pending := s.link.pending ||| Attention.safeEntered.bit }
    rw [← pending]
    rfl

theorem silencePassed_iff {s : State} {t0 : Nat} :
    silencePassed s t0 = true ↔ 1000 * s.sup.settings.silenceLimit ≤ s.now - t0 := by
  rw [silencePassed, decide_eq_true_iff, Nat.mul_comm]

theorem beginSafeFade_eq (p : Playback) (fade : Nat) : p.beginSafeFade fade = { p with
    v0 := if fade = 0 then Voice.released else p.v0
    v1 := if fade = 0 then Voice.released else p.v1
    multiplier := if fade = 0 then 0 else 1000
    fadeCount := 0
    fadeLength := fade } := by
  by_cases instant : fade = 0
  · subst instant
    rfl
  · simp only [Playback.beginSafeFade, if_neg instant]

/-- Settles O39: the three cases of a cause that enters the cause set, and the two latched causes that do so. -/
theorem safeStateIsEntered : Obligations.SafeStateIsEntered := by
  intro s
  refine ⟨fun c => ⟨fun present => if_pos present, fun absent safe => ?_, fun absent outside => ?_⟩, fun hf => ?_,
    fun t0 runs => ?_, fun stopped => ?_⟩
  · rw [addCause, if_neg (absent ▸ nofun)]
    exact if_pos safe
  · rw [addCause, if_neg (absent ▸ nofun)]
    refine (if_neg outside).trans ?_
    simp only [enterSafe, beginSafeFade_eq]
    rfl
  · rw [exec_settles rfl hf rfl (show handle .forceSafe (withRequest .forceSafe s) = done [] _ from rfl),
      addCause_withRequest .forced Request.noConfusion]
    rfl
  · show Host.Outcome.next (silenceTimerExpiry s) = _
    rw [silenceTimerExpiry, runs]
    simp only [silencePassed_iff]
    rfl
  · show Host.Outcome.next (silenceTimerExpiry s) = _
    rw [silenceTimerExpiry, stopped]

/-! ### CLEAR SAFE (O40) -/

/-- The condition causes are the four causes that follow a condition (R114). -/
theorem conditions_ne_zero (causes : BitVec 6) : ((causes &&& conditionCauses) != 0) = true ↔
    ∃ c ∈ [SafeCause.eStop, .lowLow, .clockLost, .criticalLost], c.memberOf causes = true := by
  revert causes
  decide

theorem conditionPresent_iff {s : State} : conditionPresent s = true ↔
    ∃ c ∈ [SafeCause.eStop, .lowLow, .clockLost, .criticalLost], c.memberOf s.sup.causes = true :=
  conditions_ne_zero s.sup.causes

theorem stateAfterSafe_eq (origin : ClockState) : stateAfterSafe origin = if origin = .stopped then .stopped else .paused := by
  cases origin <;> rfl

/-- Settles O40: the two answers of the owner, on the condition it checks. -/
theorem clearSafeEndsSafeWithoutConditions : Obligations.ClearSafeEndsSafeWithoutConditions := by
  intro s hf
  dsimp only
  rw [← conditionPresent_iff]
  refine ⟨fun safe calm => ?_, fun refused => ?_⟩
  · have accepted : ¬((withRequest .clearSafe s).clock.state ≠ .safe ∨ conditionPresent (withRequest .clearSafe s) = true) :=
      fun h => h.elim (fun outside => outside safe) calm
    rw [exec_answers rfl hf rfl (show handle .clearSafe _ = _ from if_neg accepted) rfl]
    rw [← stateAfterSafe_eq]
    rfl
  · rw [exec_answers rfl hf rfl (show handle .clearSafe _ = _ from if_pos refused) rfl]
    rfl

end Sys2Proof.Machine
end

section

/-! # The filtered inputs and the supervision settings (R107 to R109, R116) -/

namespace Sys2Proof.Machine

open Sys2Proof.Safety

/-! ### A level at a pin and its accepted state -/

theorem levelActive_true (high : Bool) : levelActive true high = high := by cases high <;> rfl

theorem levelActive_false (high : Bool) : levelActive false high = !high := by cases high <;> rfl

theorem change_high (f : FilteredInput) (high : Bool) (now : Nat) : (f.change high now).high = high := by
  unfold FilteredInput.change
  split_ifs with same
  · exact same
  · rfl

/-- A level that reads as its accepted state does not wait. -/
theorem waiting_true_iff {f : FilteredInput} : f.waiting true = true ↔ f.active ≠ f.high := by
  rw [FilteredInput.waiting, levelActive_true, bne_iff_ne, ne_comm]

theorem waiting_false_iff {f : FilteredInput} : f.waiting false = true ↔ f.active ≠ !f.high := by
  rw [FilteredInput.waiting, levelActive_false, bne_iff_ne, ne_comm]

theorem eq_of_active {f : FilteredInput} {active : Bool} (h : f.active = active) : f = { f with active := active } := by
  subst h
  rfl

/-- The accepted state of an input once its waiting level has been accepted. -/
def FilteredInput.accepted (f : FilteredInput) : FilteredInput := { f with active := f.high }

theorem acceptLevel_low (s : State) : acceptLevel .low s = s.setSup { s.sup with low := s.sup.low.accepted } := by
  unfold acceptLevel
  by_cases waits : s.sup.low.waiting true = true
  · refine (if_pos waits).trans ?_
    show s.setSup { s.sup with low := { s.sup.low with active := levelActive true s.sup.low.high } } = _
    rw [levelActive_true, FilteredInput.accepted]
  · refine (if_neg waits).trans ?_
    rw [FilteredInput.accepted, ← eq_of_active (not_not.1 (mt waiting_true_iff.2 waits))]
    rfl

theorem acceptLevel_lowLow (s : State) : acceptLevel .lowLow s =
    if s.sup.lowLow.active = s.sup.lowLow.high then s
    else setCondition .lowLow s.sup.lowLow.high (s.setSup { s.sup with lowLow := s.sup.lowLow.accepted }) := by
  unfold acceptLevel
  by_cases same : s.sup.lowLow.active = s.sup.lowLow.high
  · rw [if_pos same]
    exact if_neg fun waits => waiting_true_iff.1 waits same
  · rw [if_neg same, FilteredInput.accepted]
    refine (if_pos (waiting_true_iff.2 same)).trans ?_
    show setCondition .lowLow (levelActive true s.sup.lowLow.high) (s.setSup { s.sup with
      lowLow := { s.sup.lowLow with active := levelActive true s.sup.lowLow.high } }) = _
    rw [levelActive_true]

theorem estopFilterExpiry_eq (s : State) : estopFilterExpiry s =
    if s.sup.estop.active = !s.sup.estop.high then s
    else setCondition .eStop (!s.sup.estop.high)
      (s.setSup { s.sup with estop := { s.sup.estop with active := !s.sup.estop.high } }) := by
  unfold estopFilterExpiry
  by_cases same : s.sup.estop.active = !s.sup.estop.high
  · rw [if_pos same]
    exact if_neg fun waits => waiting_false_iff.1 waits same
  · rw [if_neg same]
    refine (if_pos (waiting_false_iff.2 same)).trans ?_
    rw [levelActive_false, FilteredInput.accept, levelActive_false]

/-! ### LEVEL_INPUT_CHANGE with a debounce time of 0 -/

theorem levelInputChange_low_at_once {s : State} (none : s.sup.settings.debounceSteps = 0) (high : Bool) :
    levelInputChange .low high s =
      s.setSup { s.sup with low := { s.sup.low.change high s.now with active := high } } := by
  refine (if_pos none).trans ?_
  rw [acceptLevel_low]
  show s.setSup { s.sup with low := { s.sup.low.change high s.now with active := (s.sup.low.change high s.now).high } } = _
  rw [change_high]

theorem levelInputChange_lowLow_at_once {s : State} (none : s.sup.settings.debounceSteps = 0) (high : Bool) :
    let accepted := s.setSup { s.sup with lowLow := { s.sup.lowLow.change high s.now with active := high } }
    levelInputChange .lowLow high s =
      if s.sup.lowLow.active = high then accepted else setCondition .lowLow high accepted := by
  intro accepted
  refine (if_pos none).trans ?_
  rw [acceptLevel_lowLow]
  show (if (s.sup.lowLow.change high s.now).active = (s.sup.lowLow.change high s.now).high then
      s.setSup { s.sup with lowLow := s.sup.lowLow.change high s.now }
    else setCondition .lowLow (s.sup.lowLow.change high s.now).high (s.setSup { s.sup with
      lowLow := { s.sup.lowLow.change high s.now with active := (s.sup.lowLow.change high s.now).high } })) = _
  rw [change_high, FilteredInput.change_active]
  by_cases same : s.sup.lowLow.active = high
  · rw [if_pos same, if_pos same, eq_of_active ((FilteredInput.change_active s.sup.lowLow high s.now).trans same)]
  · rw [if_neg same, if_neg same]

/-! ### SET SUPERVISION (R116) -/

/-- An input after a SET SUPERVISION: a level that has already waited for a changed debounce time is accepted (R107,
log 14). -/
def settledInput (c : SupSettings) (s : State) (f : FilteredInput) : FilteredInput :=
  { f with active :=
      if c.debounceSteps ≠ s.sup.settings.debounceSteps ∧ c.debounceSteps * 10 ≤ s.now - f.since then f.high else f.active }

/-- The state that a SET SUPERVISION writes, LOW-LOW's condition not having been worked out. -/
def withSettings (c : SupSettings) (s : State) : State :=
  { s with
    sup := { s.sup with
      settings := c, low := settledInput c s s.sup.low, lowLow := settledInput c s s.sup.lowLow }
    link := { s.link with silenceSince := if c.silenceLimit = 0 then none else some s.now } }

theorem acceptIfPassed_low (s : State) : acceptIfPassed .low s = s.setSup { s.sup with
    low := if s.sup.settings.debounceSteps * 10 ≤ s.now - s.sup.low.since then s.sup.low.accepted else s.sup.low } := by
  unfold acceptIfPassed
  by_cases passed : s.sup.settings.debounceSteps * 10 ≤ s.now - s.sup.low.since
  · rw [if_pos passed, ← acceptLevel_low]
    exact if_pos passed
  · rw [if_neg passed]
    exact if_neg passed

theorem settledInput_changed {c : SupSettings} {s : State} (changed : c.debounceSteps ≠ s.sup.settings.debounceSteps)
    (f : FilteredInput) :
    settledInput c s f = if c.debounceSteps * 10 ≤ s.now - f.since then f.accepted else f := by
  by_cases passed : c.debounceSteps * 10 ≤ s.now - f.since
  · rw [settledInput, if_pos ⟨changed, passed⟩, if_pos passed]
    rfl
  · rw [settledInput, if_neg fun h => passed h.2, if_neg passed]

theorem applySupervision_eq (c : SupSettings) (s : State) : applySupervision c s =
    if (settledInput c s s.sup.lowLow).active = s.sup.lowLow.active then withSettings c s
    else setCondition .lowLow s.sup.lowLow.high (withSettings c s) := by
  unfold applySupervision
  by_cases changed : c.debounceSteps ≠ s.sup.settings.debounceSteps
  · refine (if_pos changed).trans ?_
    rw [acceptIfPassed_low]
    have written (low : FilteredInput) (h : settledInput c s s.sup.lowLow = low) : withSettings c s = { s with
        sup := { s.sup with settings := c, low := settledInput c s s.sup.low, lowLow := low }
        link := { s.link with silenceSince := if c.silenceLimit = 0 then none else some s.now } } := by rw [withSettings, h]
    rw [settledInput_changed changed] at written
    unfold acceptIfPassed
    by_cases passed : c.debounceSteps * 10 ≤ s.now - s.sup.lowLow.since
    · rw [if_pos passed] at written
      refine (if_pos passed).trans ?_
      rw [acceptLevel_lowLow, written _ rfl, settledInput_changed changed s.sup.low, settledInput_changed changed,
        if_pos passed]
      by_cases same : s.sup.lowLow.active = s.sup.lowLow.high
      · have kept : s.sup.lowLow.accepted = s.sup.lowLow := (eq_of_active same).symm
        refine (if_pos same).trans (Eq.trans ?_ (if_pos same.symm).symm)
        rw [kept]
        rfl
      · exact (if_neg same).trans (if_neg (Ne.symm same)).symm
    · rw [if_neg passed] at written
      refine (if_neg passed).trans ?_
      rw [written _ rfl, settledInput_changed changed s.sup.low, settledInput_changed changed, if_neg passed, if_pos rfl]
      rfl
  · have unchanged (f : FilteredInput) : settledInput c s f = f := by
      rw [settledInput, if_neg fun h => changed h.1]
    refine (if_neg changed).trans ?_
    rw [if_pos (congrArg FilteredInput.active (unchanged _)), withSettings, unchanged, unchanged]
    rfl

/-- The owner of a SET SUPERVISION works on the blocks that the taking of the request left alone. -/
theorem setCondition_setLink_state (c : SafeCause) (holds : Bool) (k : LinkState) (s : State) :
    (setCondition c holds s).setLink { (setCondition c holds s).link with state := k } =
      setCondition c holds (s.setLink { s.link with state := k }) := by
  cases holds
  · rfl
  · show (addCause c s).setLink { (addCause c s).link with state := k } = addCause c (s.setLink { s.link with state := k })
    rcases addCause_cases c s with ⟨present, eq⟩ | ⟨absent, safe, eq⟩ | ⟨absent, outside, eq⟩
    · rw [eq]
      exact (if_pos present).symm
    · rw [eq]
      exact ((if_neg (absent ▸ nofun)).trans (if_pos safe)).symm
    · rw [eq]
      exact ((if_neg (absent ▸ nofun)).trans (if_neg outside)).symm

theorem supSettingsInRange_iff {c : SupSettings} : supSettingsInRange c = true ↔
    c.silenceLimit ≤ 60 ∧ c.debounceSteps ≤ 255 ∧ c.levelCap ≤ 1000 ∧ 1 ≤ c.windScale ∧ c.windScale ≤ 1000 ∧
      c.lightSafeFade ≤ 10000 ∧ c.lightReturnFade ≤ 10000 ∧ c.audioSafeFade ≤ 10000 := by
  simp only [supSettingsInRange, Bool.and_eq_true, decide_eq_true_eq, and_assoc]

theorem setSupervision_accepted {c : SupSettings} {s : State} (hf : LinkFree s) (hr : (Request.setSupervision c).wf = true)
    (range : supSettingsInRange c = true) :
    let written := { withSettings c s with link := { linkWithAnswer (.setSupervision c) .done [] s with
      silenceSince := if c.silenceLimit = 0 then none else some s.now } }
    exec (.setSupervision c) s = .next (
      if (settledInput c s s.sup.lowLow).active = s.sup.lowLow.active then written
      else setCondition .lowLow s.sup.lowLow.high written) := by
  intro written
  have owner : handle (.setSupervision c) (withRequest (.setSupervision c) s) =
      done [] (applySupervision c (withRequest (.setSupervision c) s)) := if_pos range
  rw [exec_settles rfl hf hr owner, applySupervision_eq]
  by_cases same : (settledInput c s s.sup.lowLow).active = s.sup.lowLow.active
  · rw [if_pos same]
    exact congrArg (fun t : State => Host.Outcome.next (t.setLink { t.link with
      state := .handling (.finished { echo := BitVec.ofNat 8 (Request.setSupervision c).code, status := .done, data := [] }) }))
      (if_pos same)
  · rw [if_neg same]
    refine (congrArg (fun t : State => Host.Outcome.next (t.setLink { t.link with
      state := .handling (.finished { echo := BitVec.ofNat 8 (Request.setSupervision c).code, status := .done, data := [] }) }))
      (if_neg same)).trans ?_
    exact congrArg Host.Outcome.next (setCondition_setLink_state ..)

/-- Settles O38: the accepted state of each input from the level at its pin, and the settings as the owner writes them. -/
theorem inputsAndSettingsTakeEffect : Obligations.InputsAndSettingsTakeEffect := by
  intro s
  refine ⟨fun high => ⟨rfl, fun waits => ⟨congrArg Host.Outcome.next (if_neg waits), congrArg Host.Outcome.next (if_neg waits)⟩,
    fun none => ⟨congrArg Host.Outcome.next (levelInputChange_low_at_once none high),
      congrArg Host.Outcome.next (levelInputChange_lowLow_at_once none high)⟩⟩,
    congrArg Host.Outcome.next (acceptLevel_low s), congrArg Host.Outcome.next (acceptLevel_lowLow s), ?_, fun hf c hr => ⟨fun out => ?_, fun range => ?_⟩⟩
  · show Host.Outcome.next (estopFilterExpiry s) = _
    rw [estopFilterExpiry_eq]
    cases s.sup.estop.high <;> rfl
  · rw [exec_refuses rfl hf hr (if_neg (mt supSettingsInRange_iff.1 out))]
  · exact setSupervision_accepted hf hr (supSettingsInRange_iff.2 range)

end Sys2Proof.Machine
end

section

/-! # The settings of the water unit (R63, R64, R76) -/

namespace Sys2Proof.Machine

open Sys2Proof.Safety

/-! ### Valid curves (R63) -/

/-- One point of a curve stands before another: lower, and with a speed that is not above. -/
def CurvePoint.Before (p q : CurvePoint) : Prop := p.height < q.height ∧ p.speed ≤ q.speed

theorem curveRises_iff (points : List CurvePoint) : curveRises points = true ↔ points.Pairwise CurvePoint.Before := by
  rw [curveRises_iff_isChain]
  have trans : Trans CurvePoint.Before CurvePoint.Before CurvePoint.Before :=
    ⟨fun ⟨h, k⟩ ⟨h', k'⟩ => ⟨h.trans h', k.trans k'⟩⟩
  exact List.isChain_iff_pairwise (R := CurvePoint.Before)

theorem curveValid_iff (curve : Vector CurvePoint 8) : curveValid curve = true ↔
    (∀ k : Fin 8, curve[k].height ≤ 6000 ∧ curve[k].speed ≤ 1000) ∧ curve[0].height = 0 ∧ 1 ≤ curve[0].speed ∧
      ∀ j k : Fin 8, j < k → curve[j].height < curve[k].height ∧ curve[j].speed ≤ curve[k].speed := by
  have range : (curve.toList.all (fun p => p.height ≤ 6000 && p.speed ≤ 1000)) = true ↔
      ∀ k : Fin 8, curve[k].height ≤ 6000 ∧ curve[k].speed ≤ 1000 := by
    simp [Fin.forall_iff]
  have rises : curveRises curve.toList = true ↔
      ∀ j k : Fin 8, j < k → curve[j].height < curve[k].height ∧ curve[j].speed ≤ curve[k].speed := by
    rw [curveRises_iff, List.pairwise_iff_getElem]
    simp only [Vector.length_toList, Vector.getElem_toList, CurvePoint.Before, Fin.forall_iff, Fin.mk_lt_mk, Fin.getElem_fin]
    exact ⟨fun h j hj k hk => h j k hj hk, fun h j k hj hk => h j hj k hk⟩
  rw [curveValid, Bool.and_eq_true, Bool.and_eq_true, Bool.and_eq_true, range, rises, beq_iff_eq, decide_eq_true_iff,
    and_assoc, and_assoc]

/-- Settles O25: each owner's two answers. -/
theorem waterSettingsReplaceTheirRecords : Obligations.WaterSettingsReplaceTheirRecords := by
  intro s hf
  refine ⟨fun n curve hr => ?_, fun k lo hi floor hlo hhi hfloor => ?_, fun n curve hr above => ?_,
    fun k lo hi floor hr above => ?_, fun b hb => ?_⟩
  · have owner (t : State) : handle (.setCurve n.val curve) t =
        if curveValid curve = true then done [] (setGroupRec n { t.water.groups[n] with curve := curve } t)
        else refuse .outOfRange t := by
      simp only [handle, ownSetCurve, fin?_val]
    rw [← curveValid_iff]
    refine ⟨fun valid => ?_, fun invalid => ?_⟩
    · rw [exec_answers rfl hf hr ((owner _).trans (if_pos valid)) rfl]
      rfl
    · exact exec_refuses rfl hf hr ((owner _).trans (if_neg invalid))
  · have hr : (Request.setWindClass k.val lo hi floor).wf = true := by
      simp only [Request.wf, fits, Bool.and_eq_true, decide_eq_true_eq]
      omega
    have owner (t : State) : handle (.setWindClass k.val lo hi floor) t =
        if 65535 < lo ∨ 65535 < hi ∨ 1000 < floor ∨ hi ≤ lo then refuse .outOfRange t
        else done [] (t.setWater { t.water with
          windClasses := t.water.windClasses.set k { lo := lo, hi := hi, floor := floor } }) := by
      simp only [handle, ownSetWindClass, fin?_val]
    refine ⟨fun accepted => ?_, fun refused => ?_⟩
    · rw [exec_answers rfl hf hr ((owner _).trans (if_neg (by omega))) rfl]
      rfl
    · exact exec_refuses rfl hf hr ((owner _).trans (if_pos (by omega)))
  · exact exec_refuses rfl hf hr (by rw [handle, ownSetCurve, fin?_eq_none.2 above])
  · exact exec_refuses rfl hf hr (by rw [handle, ownSetWindClass, fin?_eq_none.2 above])
  · have hr : (Request.setBudget b).wf = true := by
      simp only [Request.wf, fits, decide_eq_true_eq]
      omega
    rw [exec_answers rfl hf hr (if_neg (by omega)) rfl]
    rfl

end Sys2Proof.Machine
end

section

/-! # The light unit's requests, its update and the PWM frame (R119 to R132) -/

namespace Sys2Proof.Machine

open Sys2Proof.Safety

/-! ### Codes and indices that a light request carries -/

theorem sense?_eq_none {x : Nat} (active : x ≠ 1) (inverse : x ≠ 2) : sense? x = none := by
  unfold sense?
  split
  · contradiction
  · contradiction
  · rfl

theorem sense?_code {x : Sense} (given : x ≠ .unset) : sense? x.code = some x := by
  cases x
  case unset => contradiction
  all_goals rfl

theorem response?_eq_none {x : Nat} (h : 2 ≤ x) : response? x = none := by
  unfold response?
  split
  · omega
  · omega
  · rfl

theorem response?_code (x : Response) : response? x.code = some x := by cases x <;> rfl

theorem optFin?_map_val {n : Nat} (o : Option (Fin n)) : optFin? n (o.map (·.val)) = some o := optFin?_eq_some.2 rfl

theorem headOutputs?_toArgs (outs : Option HeadOutputs) : headOutputs? (outs.map HeadOutputs.toArgs) = some outs := by
  cases outs with
  | none => rfl
  | some a => simp only [Option.map_some, headOutputs?, HeadOutputs.toArgs, fin?_val, optFin?_map_val]

/-- The indices that an assignment carries, in the order R, G, B, W. -/
def HeadOutputArgs.list (a : HeadOutputArgs) : List Nat := [a.r, a.g, a.b] ++ a.w.toList

theorem headOutputs?_list {args : Option HeadOutputArgs} {outs : Option HeadOutputs} (h : headOutputs? args = some outs) :
    ∀ o ∈ (args.map HeadOutputArgs.list).getD [], o < 64 := by
  cases args with
  | none => exact nofun
  | some a =>
    unfold headOutputs? at h
    dsimp only at h
    split at h
    · next r g b w hr hg hb hw =>
      rw [fin?_eq_some] at hr hg hb
      rw [optFin?_eq_some] at hw
      intro o ho
      rw [Option.map_some, Option.getD_some, HeadOutputArgs.list, hr, hg, hb, hw] at ho
      cases w <;> simp at ho <;> omega
    · cases h

theorem headOutputs?_eq_none {args : Option HeadOutputArgs}
    (h : ∃ o ∈ (args.map HeadOutputArgs.list).getD [], 64 ≤ o) : headOutputs? args = none := by
  obtain ⟨o, ho, above⟩ := h
  refine Option.eq_none_iff_forall_ne_some.2 fun outs eq => ?_
  exact absurd (headOutputs?_list eq o ho) (by omega)

/-! ### SET OUTPUT SENSE (R120) -/

theorem ownSetOutputSense_out {o x : Nat} (h : 64 ≤ o ∨ (x ≠ 1 ∧ x ≠ 2)) (s : State) :
    ownSetOutputSense o x s = refuse .outOfRange s := by
  unfold ownSetOutputSense
  split
  · next i k hi hk =>
    rcases h with above | ⟨active, inverse⟩
    · rw [fin?_eq_none.2 above] at hi; cases hi
    · rw [sense?_eq_none active inverse] at hk; cases hk
  · rfl

theorem ownSetOutputSense_eq {x : Sense} (given : x ≠ .unset) (o : Fin 64) (s : State) :
    ownSetOutputSense o.val x.code s =
      if s.lights.outputs[o].sense ≠ .unset then
        (s, some { status := .setOnce, data := beBytes 1 s.lights.outputs[o].sense.code })
      else
        done [] (s.setLights { s.lights with outputs := s.lights.outputs.set o { s.lights.outputs[o] with sense := x } }) := by
  simp only [ownSetOutputSense, fin?_val, sense?_code given]

/-! ### SET HEAD (R122) -/

theorem ownSetHead_out {a : HeadArgs} (h : 16 ≤ a.head ∨ 2 ≤ a.response ∨
    (∃ o ∈ (a.outputs.map HeadOutputArgs.list).getD [], 64 ≤ o) ∨ (a.enabled = true ∧ a.outputs = none)) (s : State) :
    ownSetHead a s = refuse .outOfRange s := by
  unfold ownSetHead
  split
  · next n outs resp hn houts hresp =>
    rcases h with above | above | out | ⟨enabled, absent⟩
    · rw [fin?_eq_none.2 above] at hn; cases hn
    · rw [response?_eq_none above] at hresp; cases hresp
    · rw [headOutputs?_eq_none out] at houts; cases houts
    · rw [absent] at houts
      cases houts
      rw [enabled]
      rfl
  · rfl

/-- The outputs of an assignment are distinct, and no other head names one of them (R122). -/
def DistinctAndFree (s : State) (n : Fin 16) (outs : Option HeadOutputs) : Prop :=
  ∀ a, outs = some a → a.list.Nodup ∧
    ∀ k : Fin 16, k ≠ n → ∀ b, s.lights.heads[k].outputs = some b → ∀ o ∈ a.list, o ∉ b.list

theorem headNames_false_iff {h : Head} {o : Fin 64} : headNames h o = false ↔ ∀ b, h.outputs = some b → o ∉ b.list := by
  unfold headNames
  cases h.outputs <;> simp

theorem namedElsewhere_false_iff {s : State} {n : Fin 16} {a : HeadOutputs} : namedElsewhere s n a = false ↔
    ∀ k : Fin 16, k ≠ n → ∀ b, s.lights.heads[k].outputs = some b → ∀ o ∈ a.list, o ∉ b.list := by
  have each (k : Fin 16) : (k != n && a.list.any (headNames s.lights.heads[k])) = false ↔
      (k ≠ n → ∀ b, s.lights.heads[k].outputs = some b → ∀ o ∈ a.list, o ∉ b.list) := by
    rw [Bool.and_eq_false_imp, bne_iff_ne, List.any_eq_false]
    refine imp_congr_right fun _ => ?_
    simp only [Bool.not_eq_true, headNames_false_iff]
    exact ⟨fun h b hb o ho => h o ho b hb, fun h o ho b hb => h b hb o ho⟩
  unfold namedElsewhere
  simp only [List.any_eq_false, List.mem_finRange, forall_const, Bool.not_eq_true, each]

theorem distinctAndFree_iff {s : State} {n : Fin 16} {outs : Option HeadOutputs} : DistinctAndFree s n outs ↔
    ¬(outs.any repeatsOutput = true ∨ outs.any (namedElsewhere s n) = true) := by
  cases outs with
  | none => exact iff_of_true nofun (by rintro (h | h) <;> cases h)
  | some a =>
    rw [DistinctAndFree, not_or, Option.any_some, Option.any_some, Bool.not_eq_true, Bool.not_eq_true, namedElsewhere_false_iff,
      repeatsOutput, Bool.not_eq_false', decide_eq_true_iff]
    exact ⟨fun h => h a rfl, fun h b hb => Option.some.inj hb ▸ h⟩

/-- The parameters of a SET HEAD that carries these settings. -/
def headArgs (n : Fin 16) (enabled : Bool) (outs : Option HeadOutputs) (resp : Response) : HeadArgs :=
  { head := n.val, enabled := enabled, response := resp.code, outputs := outs.map HeadOutputs.toArgs }

theorem ownSetHead_eq {a : HeadArgs} {n : Fin 16} {outs : Option HeadOutputs} {resp : Response}
    (head : fin? 16 a.head = some n) (outputs : headOutputs? a.outputs = some outs)
    (response : response? a.response = some resp) (assigned : a.enabled = true → outs.isSome = true) (s : State) :
    ownSetHead a s =
      if outs.any repeatsOutput = true ∨ outs.any (namedElsewhere s n) = true then refuse .duplicate s
      else done [] (s.setLights { s.lights with
        heads := s.lights.heads.set n { enabled := a.enabled, outputs := outs, response := resp } }) := by
  have present : ¬(a.enabled && outs.isNone) = true := by
    cases outs
    · rw [Option.isNone_none, Bool.and_true]
      exact fun enabled => absurd (assigned enabled) nofun
    · simp
  simp only [ownSetHead, head, outputs, response, if_neg present]
  by_cases repeats : outs.any repeatsOutput = true
  · rw [if_pos repeats, if_pos (.inl repeats)]
  · rw [if_neg repeats]
    by_cases elsewhere : outs.any (namedElsewhere s n) = true
    · rw [if_pos elsewhere, if_pos (.inr elsewhere)]
    · rw [if_neg elsewhere, if_neg (not_or.2 ⟨repeats, elsewhere⟩)]

theorem setHead_wf (n : Fin 16) (enabled : Bool) (outs : Option HeadOutputs) (resp : Response) :
    (Request.setHead (headArgs n enabled outs resp)).wf = true := by
  have index (o : Fin 64) : fits 1 o.val = true ∧ fitsPresent o.val = true := by
    simp only [fits, fitsPresent, decide_eq_true_eq]
    omega
  have head : fits 1 n.val = true := by
    simp only [fits, decide_eq_true_eq]
    omega
  have response : fits 1 resp.code = true := by cases resp <;> rfl
  rw [Request.wf, headArgs, HeadArgs.wf, head, response]
  cases outs with
  | none => rfl
  | some a =>
    have white : fitsOption (a.w.map (·.val)) = true := by
      cases a.w with
      | none => rfl
      | some w => exact (index w).2
    simp [HeadOutputArgs.wf, HeadOutputs.toArgs, index, white]

theorem levelsWithin_iff {most : Nat} {l : Levels} : levelsWithin most l = true ↔
    l.r ≤ most ∧ l.g ≤ most ∧ l.b ≤ most ∧ l.w ≤ most := by
  simp only [levelsWithin, Bool.and_eq_true, decide_eq_true_eq, and_assoc]

/-- Settles O41: each owner's answers, by the checks it makes. -/
theorem lightRequestsWriteTheirRecords : Obligations.LightRequestsWriteTheirRecords := by
  intro s hf
  refine ⟨fun o x ho hx out => ?senseOut, fun a hr => ?headOut, fun l hr above => ?sceneOut,
    fun o x given => ⟨fun unset => ?sense, fun set => ?setOnce⟩, fun n enabled outs resp assigned => ?head,
    fun l r g b w => ?scene, fun m hm => ?master⟩
  case senseOut =>
    refine exec_refuses rfl hf ?_ (ownSetOutputSense_out out _)
    simp only [Request.wf, fits, Bool.and_eq_true, decide_eq_true_eq]
    omega
  case headOut => exact fun out => exec_refuses rfl hf hr (ownSetHead_out out _)
  case sceneOut =>
    refine exec_refuses rfl hf hr (if_neg fun within => ?_)
    rw [levelsWithin_iff] at within
    simp only [List.mem_cons, List.not_mem_nil, or_false, exists_eq_or_imp, exists_eq_left] at above
    omega
  case sense =>
    have hr : (Request.setOutputSense o.val x.code).wf = true := by
      simp only [Request.wf, fits, Bool.and_eq_true, decide_eq_true_eq]
      cases x <;> simp [Sense.code] <;> omega
    rw [exec_answers rfl hf hr ((ownSetOutputSense_eq given o _).trans (if_neg (not_not.2 unset))) rfl]
    rfl
  case setOnce =>
    have hr : (Request.setOutputSense o.val x.code).wf = true := by
      simp only [Request.wf, fits, Bool.and_eq_true, decide_eq_true_eq]
      cases x <;> simp [Sense.code] <;> omega
    rw [exec_answers rfl hf hr ((ownSetOutputSense_eq given o _).trans (if_pos set)) rfl]
    rfl
  case head =>
    have hr := setHead_wf n enabled outs resp
    have owner := ownSetHead_eq (a := headArgs n enabled outs resp) (fin?_val n) (headOutputs?_toArgs outs)
      (response?_code resp) assigned (withRequest (.setHead (headArgs n enabled outs resp)) s)
    refine ⟨fun distinct => ?_, fun clash => ?_⟩
    · exact exec_answers (i := .setHead (headArgs n enabled outs resp)) rfl hf hr
        (owner.trans (if_neg (distinctAndFree_iff.1 distinct))) rfl
    · exact exec_refuses rfl hf hr (owner.trans (if_pos (not_not.1 (mt distinctAndFree_iff.2 clash))))
  case scene =>
    have hr : (Request.setSafeScene l).wf = true := by
      simp only [Request.wf, Levels.wf, fits, Bool.and_eq_true, decide_eq_true_eq]
      omega
    rw [exec_answers rfl hf hr (if_pos (levelsWithin_iff.2 ⟨r, g, b, w⟩)) rfl]
    rfl
  case master =>
    have hr : (Request.setMaster m).wf = true := by
      simp only [Request.wf, fits, decide_eq_true_eq]
      omega
    have clamped : min m 1000 = if m ≤ 1000 then m else 1000 := rfl
    rw [exec_answers rfl hf hr rfl rfl, ← clamped]
    rfl

end Sys2Proof.Machine
end

section

/-! # The light update and the PWM frame (R125 to R132) -/

namespace Sys2Proof.Machine

open Sys2Proof.Safety

/-! ### The code of an output (R129) -/

theorem findSome?_of_unique {α β : Type} {f : α → Option β} {x : α} {y : β} (hx : f x = some y) :
    ∀ l : List α, x ∈ l → (∀ k ∈ l, k ≠ x → f k = none) → l.findSome? f = some y
  | [], mem, _ => nomatch mem
  | k :: rest, mem, others => by
    by_cases here : k = x
    · rw [List.findSome?_cons, here, hx]
    · rw [List.findSome?_cons, others k List.mem_cons_self here]
      exact findSome?_of_unique hx rest ((List.mem_cons.1 mem).resolve_left (Ne.symm here))
        fun j hj => others j (List.mem_cons_of_mem k hj)

section
variable {h : Head} {u : Lights} {cue : Levels} {o : Fin 64}

theorem headCode_disabled (off : h.enabled = false) : headCode h u cue o = none := by
  rw [headCode, off]
  rfl

theorem headCode_unnamed (unnamed : o ∉ Head.named h) : headCode h u cue o = none := by
  unfold headCode
  cases enabled : h.enabled
  · rfl
  · cases outs : h.outputs with
    | none => rfl
    | some a =>
      rw [Head.named, outs] at unnamed
      cases w : a.w <;> simp [HeadOutputs.list, w] at unnamed <;> simp [w, Ne.symm, unnamed, eq_comm]

/-- The code of a colour's level (R128, R129). -/
def colourCode (h : Head) (u : Lights) (cue scene : Nat) : Nat :=
  h.response.codeOf (blendedLevel u.master u.blend.value cue scene)

theorem headCode_assigned {a : HeadOutputs} (on : h.enabled = true) (outs : h.outputs = some a) : headCode h u cue o =
    if a.r = o then some (colourCode h u cue.r u.scene.r)
    else if a.g = o then some (colourCode h u cue.g u.scene.g)
    else if a.b = o then some (colourCode h u cue.b u.scene.b)
    else if a.w = some o then some (colourCode h u cue.w u.scene.w)
    else none := by
  simp only [headCode, on, outs, Bool.not_true, Bool.false_eq_true, if_false, colourCode]

/-- Each colour's output, where no output carries two colours. -/
theorem headCode_colours {a : HeadOutputs} (on : h.enabled = true) (outs : h.outputs = some a) (distinct : (Head.named h).Nodup) :
    (a.r = o → headCode h u cue o = some (colourCode h u cue.r u.scene.r)) ∧
    (a.g = o → headCode h u cue o = some (colourCode h u cue.g u.scene.g)) ∧
    (a.b = o → headCode h u cue o = some (colourCode h u cue.b u.scene.b)) ∧
    (a.w = some o → headCode h u cue o = some (colourCode h u cue.w u.scene.w)) := by
  rw [headCode_assigned on outs]
  rw [Head.named, outs, Option.map_some, Option.getD_some, HeadOutputs.list] at distinct
  have apart : a.r ≠ a.g ∧ a.r ≠ a.b ∧ a.g ≠ a.b ∧ ∀ w, a.w = some w → a.r ≠ w ∧ a.g ≠ w ∧ a.b ≠ w := by
    cases w : a.w <;> simp [w] at distinct <;> simp [distinct]
  obtain ⟨rg, rb, gb, white⟩ := apart
  refine ⟨fun here => if_pos here, fun here => ?_, fun here => ?_, fun here => ?_⟩
  · rw [if_neg (here ▸ rg), if_pos here]
  · rw [if_neg (here ▸ rb), if_neg (here ▸ gb), if_pos here]
  · obtain ⟨rw_, gw, bw⟩ := white o here
    rw [if_neg rw_, if_neg gw, if_neg bw, if_pos here]

end

theorem codeOf_eq (r : Response) (l : Nat) : r.codeOf l = match r with
    | .linear => l
    | .square => l * l / 4095 := by
  cases r <;> rfl

section
variable {s : State} {o : Fin 64}

theorem outputCode_unset (unset : s.lights.outputs[o].sense = .unset) : outputCode s o = 0 := if_pos unset

/-- The code of an output whose colour an enabled head carries, which is the one head that names it (R122, R129). -/
theorem outputCode_of_head {h : Fin 16} {code : Nat} (apart : (namedOutputs s.lights).Nodup)
    (given : s.lights.outputs[o].sense ≠ .unset)
    (carries : headCode s.lights.heads[h] s.lights (s.channels[headChannel h].valueAt s.clock.showTime) o = some code) :
    outputCode s o = code := by
  have named : o ∈ Head.named s.lights.heads[h] := by
    by_contra unnamed
    rw [headCode_unnamed unnamed] at carries
    cases carries
  have others : ∀ k ∈ List.finRange 16, k ≠ h →
      headCode s.lights.heads[k] s.lights (s.channels[headChannel k].valueAt s.clock.showTime) o = none := fun k _ other =>
    headCode_unnamed fun also => (namedOutputs_nodup.1 apart).2 k h other also named
  have only := findSome?_of_unique (f := fun k : Fin 16 => headCode s.lights.heads[k] s.lights
    (s.channels[headChannel k].valueAt s.clock.showTime) o) carries _ (List.mem_finRange h) others
  rw [outputCode, if_neg given, only, Option.getD_some]

/-- The code of an output that carries no colour of an enabled head is 0 (R129). -/
theorem outputCode_unnamed (unnamed : ∀ h : Fin 16, s.lights.heads[h].enabled = true → o ∉ Head.named s.lights.heads[h]) :
    outputCode s o = 0 := by
  have silent : ∀ h ∈ List.finRange 16,
      headCode s.lights.heads[h] s.lights (s.channels[headChannel h].valueAt s.clock.showTime) o = none := fun h _ => by
    cases enabled : s.lights.heads[h].enabled
    · exact headCode_disabled enabled
    · exact headCode_unnamed (unnamed h enabled)
  rw [outputCode, List.findSome?_eq_none_iff.2 silent, Option.getD_none, ite_self]

/-- The state whose codes a light update works out: the blend has gone one millisecond on (R125). -/
def blended (s : State) : State := s.setLights { s.lights with blend := s.lights.blend.advance }

theorem lightUpdate_lights (s : State) : (lightUpdate s).lights =
    { s.lights with blend := s.lights.blend.advance, outputs := (lightUpdate s).lights.outputs } := rfl

theorem lightUpdate_code (s : State) (o : Fin 64) : (lightUpdate s).lights.outputs[o] =
    { s.lights.outputs[o] with buffered := outputCode (blended s) o } := by
  simp [lightUpdate, blended]

end

theorem colourCode_eq (h : Head) (u : Lights) (cue scene : Nat) : colourCode h u cue scene =
    let l := (cue * u.master / 1000 * (1000 - u.blend.value) + scene * u.blend.value) / 1000
    match h.response with
    | .linear => l
    | .square => l * l / 4095 :=
  codeOf_eq ..

/-- Settles O42: the blend's advance, and the code of each output by the one head that names it. -/
theorem lightUpdateWritesEveryCode : Obligations.LightUpdateWritesEveryCode := by
  intro s
  refine ⟨lightUpdate s, rfl, ?_⟩
  intro u b e mix level
  have value : (blended s).lights.blend.value = mix := by
    show blendValue b.direction b.b0 b.fade e = mix
    unfold blendValue
    rfl
  have lights : (lightUpdate s).lights =
      { u with blend := { b with elapsed := e, value := mix }, outputs := (lightUpdate s).lights.outputs } := by
    rw [← value]
    rfl
  refine ⟨lightUpdate_frame s, lights, fun o => ?_⟩
  have unnamed_iff (h : Fin 16) : o ∉ Head.named s.lights.heads[h] ↔
      ∀ a, s.lights.heads[h].outputs = some a → o ∉ a.list := by
    rw [← headNames_iff, Bool.not_eq_true, headNames_false_iff]
  clear lights
  clear_value mix
  rw [lightUpdate_code]
  refine ⟨rfl, fun unset => outputCode_unset unset, fun unnamed => ?_, fun apart given h a on outs => ?_⟩
  · exact outputCode_unnamed fun h on => (unnamed_iff h).2 (unnamed h · on)
  · have distinct : (Head.named (blended s).lights.heads[h]).Nodup := (namedOutputs_nodup.1 apart).1 h
    have colours := headCode_colours (u := (blended s).lights) (o := o)
      (cue := (blended s).channels[headChannel h].valueAt s.clock.showTime) on outs distinct
    simp only [colourCode_eq, value] at colours
    obtain ⟨r, g, b, w⟩ := colours
    intro cue code
    exact ⟨fun here => outputCode_of_head apart given (r here), fun here => outputCode_of_head apart given (g here),
      fun here => outputCode_of_head apart given (b here), fun here => outputCode_of_head apart given (w here)⟩

/-! ### The PWM frame (R130, R132) -/

/-- The extra pattern reads the four low bits of a code (R132). -/
theorem extraPattern_eq : ∀ extra p : Fin 16, bitNat (inExtraPattern extra p) =
    if (extra.val % 2 = 1 ∧ p.val = 7) ∨ (extra.val / 2 % 2 = 1 ∧ p.val ∈ [3, 11]) ∨
      (extra.val / 4 % 2 = 1 ∧ p.val ∈ [1, 5, 9, 13]) ∨
      (extra.val / 8 % 2 = 1 ∧ p.val ∈ [0, 2, 4, 6, 8, 10, 12, 14]) then 1 else 0 := by decide

/-- Each remainder is given out over the 16 periods. -/
theorem extraPattern_sum : ∀ extra : Fin 16,
    ((List.range 16).map (fun p => bitNat (inExtraPattern extra p))).sum = extra.val := by decide

theorem activeCounts_eq (code : Nat) {p : Nat} (hp : p < 16) : activeCounts code p = code / 16 +
    (if (code % 2 = 1 ∧ p = 7) ∨ (code / 2 % 2 = 1 ∧ p ∈ [3, 11]) ∨ (code / 4 % 2 = 1 ∧ p ∈ [1, 5, 9, 13]) ∨
      (code / 8 % 2 = 1 ∧ p ∈ [0, 2, 4, 6, 8, 10, 12, 14]) then 1 else 0) := by
  have bit0 : code % 16 % 2 = code % 2 := by omega
  have bit1 : code % 16 / 2 % 2 = code / 2 % 2 := by omega
  have bit2 : code % 16 / 4 % 2 = code / 4 % 2 := by omega
  have bit3 : code % 16 / 8 % 2 = code / 8 % 2 := by omega
  have pattern := extraPattern_eq ⟨code % 16, Nat.mod_lt _ (by decide)⟩ ⟨p, hp⟩
  simp only [bit0, bit1, bit2, bit3] at pattern
  rw [activeCounts, pattern]

theorem activeCounts_sum (code : Nat) : ((List.range 16).map (activeCounts code)).sum = code := by
  have extra := extraPattern_sum ⟨code % 16, Nat.mod_lt _ (by decide)⟩
  show ((List.range 16).map (fun p => code / 16 + bitNat (inExtraPattern (code % 16) p))).sum = code
  rw [List.sum_map_add, extra, List.map_const', List.sum_replicate, List.length_range, smul_eq_mul]
  exact Nat.div_add_mod code 16

theorem activeCounts_le {code p : Nat} (h : code ≤ 4095) : activeCounts code p ≤ 256 := by
  have one : bitNat (inExtraPattern (code % 16) p) ≤ 1 := by cases inExtraPattern (code % 16) p <;> decide
  unfold activeCounts
  omega

theorem length_filter_lt_range (a : Nat) : ∀ n, ((List.range n).filter (fun count => decide (count < a))).length = min a n
  | 0 => by simp
  | n + 1 => by
    rw [List.range_succ, List.filter_append, List.length_append, length_filter_lt_range a n]
    by_cases h : n < a
    · simp only [List.filter_singleton, h, decide_true, cond_true, List.length_singleton]
      omega
    · simp only [List.filter_singleton, h, decide_false, cond_false, List.length_nil]
      omega

/-- A driven output is at its active level for the active counts of each period, which come first (R132). -/
theorem pinLevel_active {o : Output} (driven : o.driven = true) (given : o.sense ≠ .unset) (p count : Nat) :
    (pinLevel o p count == some (o.sense == .activeHigh)) = decide (count < activeCounts o.committed p) := by
  rw [pinLevel, driven]
  cases sense : o.sense
  case unset => exact absurd sense given
  all_goals cases h : decide (count < activeCounts o.committed p) <;> simp_all

/-- Settles O43: the commit, the extra pattern bit by bit, and the active counts of a frame. -/
theorem pwmFrameCommitsAndSpreadsCodes : Obligations.PwmFrameCommitsAndSpreadsCodes := by
  refine ⟨fun s => ⟨pwmFrameBoundary s, rfl, rfl, fun o => ?_⟩, fun code p => activeCounts_eq code, activeCounts_sum,
    fun o small => ⟨fun off p count => ?_, fun driven given => ?_⟩⟩
  · rw [pwmFrameBoundary_outputs]
    have set : (s.lights.outputs[o].sense != .unset) = decide (s.lights.outputs[o].sense ≠ .unset) := by
      cases s.lights.outputs[o].sense <;> rfl
    rw [set]
  · rw [pinLevel, off]
    rfl
  · simp only [pinLevel_active driven given, length_filter_lt_range, min_eq_left (activeCounts_le small)]
    exact activeCounts_sum o.committed

end Sys2Proof.Machine
end

section

/-! # The control link (chapter 9): overruns, FETCH, short reads, and a request that SEND_FRAME brings -/

namespace Sys2Proof.Machine

open Sys2Proof.Safety

/-! ### FETCH (R157) -/

theorem fetchedBytes_eq (answer : List Byte) (n : Nat) :
    fetchedBytes answer n = (answer ++ List.replicate n 0xFF#8).take n := by
  rw [fetchedBytes, List.take_append, List.take_replicate, min_eq_left (Nat.sub_le n _)]

theorem answer_bytes_eq (a : Answer) :
    a.bytes = a.echo :: BitVec.ofNat 8 (statusCode a.status) :: (beBytes 2 a.data.length ++ a.data) := by
  simp [Answer.bytes, beBytes]

theorem answer_bytes_length (a : Answer) : a.bytes.length = a.data.length + 4 := by
  simp [Answer.bytes, beBytes]

theorem fetchFrame_ready {s : State} {a : Answer} (ready : s.link.state = .answerReady) (waiting : s.link.answer = some a)
    (n : Nat) : fetchFrame n s = { s with link := { s.link with
      state := if a.data.length + 4 ≤ n then .idle else .answerReady
      answer := if a.data.length + 4 ≤ n then none else some a
      miso := 0xFF#8 :: (a.bytes ++ List.replicate n 0xFF#8).take n } } := by
  have fetch : fetchFrame n s =
      let s1 := s.setLink { s.link with miso := 0xFF#8 :: fetchedBytes a.bytes n }
      if a.bytes.length ≤ n then s1.setLink { s1.link with state := .idle, answer := none } else s1 := by
    simp only [fetchFrame, ready, waiting]
  rw [fetch, fetchedBytes_eq, answer_bytes_length]
  by_cases whole : a.data.length + 4 ≤ n
  · simp only [if_pos whole]
    rfl
  · simp only [if_neg whole, ← ready, ← waiting]
    rfl

theorem fetchFrame_not_ready {s : State} (busy : s.link.state ≠ .answerReady) (n : Nat) :
    fetchFrame n s = driveIdle (n + 1) s := by
  unfold fetchFrame
  split
  · next ready _ => exact absurd ready busy
  · rfl

/-- Settles O4: the busy link's answer to a SEND and to a row, and the three outcomes of a FETCH. -/
theorem overrunsFetchesAndDisregardedFrames : Obligations.OverrunsFetchesAndDisregardedFrames := by
  refine ⟨fun s w busy => ⟨fun bytes some => ?send, fun i r hi alone => ?row⟩, fun n s => ⟨fun a ready waiting => ?_,
    fun busy => ?_, fun bytes => rfl⟩⟩
  case send =>
    obtain ⟨b, rest, rfl⟩ := List.exists_cons_of_ne_nil some
    rw [exec_sendFrame, sendFrame_busy busy]
    rfl
  case row =>
    rw [exec_request hi, issue_busy _ busy alone]
    rfl
  · exact ⟨answer_bytes_eq a, congrArg Host.Outcome.next (fetchFrame_ready ready waiting n)⟩
  · exact congrArg Host.Outcome.next (fetchFrame_not_ready busy n)

/-! ### The attention sets and the short reads (R160, R161) -/

theorem byPriority_index : ∀ k (h : k < Attention.byPriority.length), (Attention.byPriority[k]).index = k := by decide

theorem byPriority_memberOf {set : BitVec 10} {k : Nat} (h : k < Attention.byPriority.length) :
    Attention.byPriority[k].memberOf set = set.getLsbD k := by
  rw [Attention.memberOf, byPriority_index]

/-- The highest pending cause, numbered from 1 (R160). -/
theorem highestPending_spec (set : BitVec 10) :
    highestPending set ≤ 10 ∧ (highestPending set = 0 ↔ set = 0) ∧
      (∀ k : Nat, k < highestPending set → k + 1 < highestPending set → set.getLsbD k = false) ∧
      (1 ≤ highestPending set → set.getLsbD (highestPending set - 1) = true) := by
  cases found : Attention.byPriority.find? (fun c => c.memberOf set) with
  | none =>
    have zero : highestPending set = 0 := by simp only [highestPending, found]
    have empty : set = 0 := by
      refine BitVec.eq_of_getLsbD_eq fun k hk => ?_
      have listed : k < Attention.byPriority.length := hk
      have absent := List.find?_eq_none.1 found _ (List.getElem_mem listed)
      rw [byPriority_memberOf, Bool.not_eq_true] at absent
      rw [absent]
      simp
    rw [zero]
    exact ⟨Nat.zero_le _, iff_of_true rfl empty, fun k h => absurd h (Nat.not_lt_zero k), fun h => absurd h (by decide)⟩
  | some c =>
    obtain ⟨present, i, hi, rfl, before⟩ := List.find?_eq_some_iff_getElem.1 found
    have highest : highestPending set = i + 1 := by
      simp only [highestPending, found]
      exact congrArg (· + 1) (byPriority_index i hi)
    have present : set.getLsbD i = true := (byPriority_memberOf hi).symm.trans present
    rw [highest]
    refine ⟨hi, iff_of_false (Nat.succ_ne_zero i) fun zero => ?_, fun k _ hk => ?_, fun _ => present⟩
    · rw [zero] at present
      simp at present
    · have absent := before k (Nat.lt_of_succ_lt_succ hk)
      rw [Bool.not_eq_true'] at absent
      exact (byPriority_memberOf _).symm.trans absent

/-- Settles O7: the two writes by their owners' equations, and the reads by the bytes that their owners answer. -/
theorem attentionRequestsAndShortReads : Obligations.AttentionRequestsAndShortReads := by
  refine ⟨fun k s hk hf => ⟨?_, ?_⟩, fun s hf => ⟨?_, ?_, ?_, ?_⟩⟩
  · have hr : (Request.clearAttention k).wf = true := decide_eq_true hk
    rw [exec_settles rfl hf hr rfl]
    rfl
  · have hr : (Request.setAttentionMask k).wf = true := decide_eq_true hk
    have causes : k % 1024 = (BitVec.ofNat 10 k).toNat := by simp
    rw [exec_settles rfl hf hr rfl, causes]
    rfl
  · exact exec_reads rfl hf rfl rfl
  · exact exec_reads rfl hf rfl rfl
  · exact exec_reads rfl hf rfl rfl
  · exact ⟨highestPending s.link.pending, exec_reads rfl hf rfl rfl, highestPending_spec _⟩

end Sys2Proof.Machine
end

section

/-! # The answer of a taken request (R156, R158), and a request that SEND_FRAME brings (log 1) -/

namespace Sys2Proof.Machine

open Sys2Proof.Safety

/-- The owner gives one answer, and changes something only where it is DONE (R158). -/
def Answers (s : State) (o : Owned) : Prop := ∃ reply, o.2 = some reply ∧ (reply.status = .done ∨ o.1 = s)

/-- The owner has begun to write the frames of a LOAD FRAMES and has no answer yet (R138). -/
def BeginsToWrite (r : Request) (s : State) (o : Owned) : Prop :=
  ∃ n offset count frames first, r = .loadFrames n offset count frames ∧
    o = (s.setLink { s.link with state := .handling (.writing first frames) }, none)

/-! ### The answer of every owner -/

theorem answers_done (data : List Byte) (s t : State) : Answers s (done data t) := ⟨_, rfl, .inl rfl⟩
theorem answers_refuse (st : Status) (s : State) : Answers s (refuse st s) := ⟨_, rfl, .inr rfl⟩
theorem answers_here (reply : Reply) (s : State) : Answers s (s, some reply) := ⟨reply, rfl, .inr rfl⟩

theorem ownLoadFrames_answers (n offset count : Nat) (frames : List Frame) (s : State) :
    Answers s (ownLoadFrames n offset count frames s) ∨
      BeginsToWrite (.loadFrames n offset count frames) s (ownLoadFrames n offset count frames s) := by
  unfold ownLoadFrames
  split
  · exact .inl (answers_refuse ..)
  · next k _ =>
    dsimp only
    by_cases range : count = 0 ∨ 256 < count ∨ Config.memoryFrames ≤ offset
    · rw [if_pos range]
      exact .inl (answers_refuse ..)
    · rw [if_neg range]
      split
      · exact .inl (answers_refuse ..)
      · exact .inl (answers_refuse ..)
      · split_ifs
        · exact .inl (answers_refuse ..)
        · exact .inr ⟨n, offset, count, frames, _, rfl, rfl⟩

section
variable (s : State)

theorem ownPlaceCue_answers (a : CueArgs) : Answers s (ownPlaceCue a s) := by
  grind [ownPlaceCue, answers_done, answers_refuse, answers_here]

theorem ownAmendCue_answers (a : AmendArgs) : Answers s (ownAmendCue a s) := by
  grind [ownAmendCue, answers_done, answers_refuse, answers_here]

theorem ownRetireCue_answers (number : Nat) : Answers s (ownRetireCue number s) := by
  grind [ownRetireCue, answers_done, answers_refuse, answers_here]

theorem ownRetirePassed_answers (t : Nat) (channel : Option Nat) : Answers s (ownRetirePassed t channel s) := by
  grind [ownRetirePassed, answers_done, answers_refuse, answers_here]

theorem ownReadCue_answers (number : Nat) : Answers s (ownReadCue number s) := by
  grind [ownReadCue, answers_done, answers_refuse, answers_here]

theorem ownReadChannel_answers (channel : Nat) : Answers s (ownReadChannel channel s) := by
  unfold ownReadChannel
  split
  · exact answers_refuse ..
  · exact answers_done ..

theorem ownSetStoreThreshold_answers (threshold : Nat) : Answers s (ownSetStoreThreshold threshold s) := by
  grind [ownSetStoreThreshold, answers_done, answers_refuse, answers_here]

theorem ownSetGroup_answers (a : GroupArgs) : Answers s (ownSetGroup a s) := by
  grind [ownSetGroup, answers_done, answers_refuse, answers_here]

theorem ownSetCurve_answers (group : Nat) (curve : Vector CurvePoint 8) : Answers s (ownSetCurve group curve s) := by
  grind [ownSetCurve, answers_done, answers_refuse, answers_here]

theorem ownSetWindClass_answers (windClass lo hi floor : Nat) : Answers s (ownSetWindClass windClass lo hi floor s) := by
  grind [ownSetWindClass, answers_done, answers_refuse, answers_here]

theorem ownSetBudget_answers (budget : Nat) : Answers s (ownSetBudget budget s) := by
  grind [ownSetBudget, answers_done, answers_refuse, answers_here]

theorem ownReadGroup_answers (group : Nat) : Answers s (ownReadGroup group s) := by
  unfold ownReadGroup
  split
  · exact answers_refuse ..
  · exact answers_done ..

theorem ownSetLine_answers (line : Nat) (c : LineSettings) : Answers s (ownSetLine line c s) := by
  grind [ownSetLine, answers_done, answers_refuse, answers_here]

theorem ownSetNode_answers (node line address kind : Nat) : Answers s (ownSetNode node line address kind s) := by
  grind [ownSetNode, answers_done, answers_refuse, answers_here]

theorem ownDropNode_answers (node : Nat) : Answers s (ownDropNode node s) := by
  grind [ownDropNode, answers_done, answers_refuse, answers_here]

theorem ownRejoinNode_answers (node : Nat) : Answers s (ownRejoinNode node s) := by
  grind [ownRejoinNode, answers_done, answers_refuse, answers_here]

theorem ownReadNode_answers (node : Nat) : Answers s (ownReadNode node s) := by
  unfold ownReadNode
  split
  · exact answers_refuse ..
  · exact answers_done ..

theorem ownReadLine_answers (line : Nat) : Answers s (ownReadLine line s) := by
  unfold ownReadLine
  split
  · exact answers_refuse ..
  · exact answers_done ..

theorem ownSetOutputSense_answers (output sense : Nat) : Answers s (ownSetOutputSense output sense s) := by
  grind [ownSetOutputSense, answers_done, answers_refuse, answers_here]

theorem ownSetHead_answers (a : HeadArgs) : Answers s (ownSetHead a s) := by
  grind [ownSetHead, answers_done, answers_refuse, answers_here]

theorem ownSetSafeScene_answers (scene : Levels) : Answers s (ownSetSafeScene scene s) := by
  grind [ownSetSafeScene, answers_done, answers_refuse, answers_here]

theorem ownReadHead_answers (head : Nat) : Answers s (ownReadHead head s) := by
  unfold ownReadHead
  split
  · exact answers_refuse ..
  · exact answers_done ..

theorem ownStart_answers : Answers s (ownStart s) := by
  grind [ownStart, answers_done, answers_refuse, answers_here]

theorem ownPause_answers : Answers s (ownPause s) := by
  grind [ownPause, answers_done, answers_refuse, answers_here]

theorem ownResume_answers : Answers s (ownResume s) := by
  grind [ownResume, answers_done, answers_refuse, answers_here]

theorem ownStop_answers : Answers s (ownStop s) := by
  grind [ownStop, answers_done, answers_refuse, answers_here]

theorem ownSeek_answers (time : Nat) : Answers s (ownSeek time s) := by
  grind [ownSeek, answers_done, answers_refuse, answers_here]

theorem ownSetShowLength_answers (length : Nat) : Answers s (ownSetShowLength length s) := by
  grind [ownSetShowLength, answers_done, answers_refuse, answers_here]

theorem ownDefineSegment_answers (segment first length : Nat) (loopStart : Option Nat) : Answers s (ownDefineSegment segment first length loopStart s) := by
  grind [ownDefineSegment, answers_done, answers_refuse, answers_here]

theorem ownFinishSegment_answers (segment : Nat) : Answers s (ownFinishSegment segment s) := by
  grind [ownFinishSegment, answers_done, answers_refuse, answers_here]

theorem ownReopenSegment_answers (segment : Nat) : Answers s (ownReopenSegment segment s) := by
  grind [ownReopenSegment, answers_done, answers_refuse, answers_here]

theorem ownDropSegment_answers (segment : Nat) : Answers s (ownDropSegment segment s) := by
  grind [ownDropSegment, answers_done, answers_refuse, answers_here]

theorem ownSetAudio_answers (mode format : Nat) : Answers s (ownSetAudio mode format s) := by
  grind [ownSetAudio, answers_done, answers_refuse, answers_here]

theorem ownReadPlayback_answers (segment : Nat) : Answers s (ownReadPlayback segment s) := by
  unfold ownReadPlayback
  split
  · exact answers_refuse ..
  · exact answers_done ..

theorem ownClearSafe_answers : Answers s (ownClearSafe s) := by
  grind [ownClearSafe, answers_done, answers_refuse, answers_here]

theorem ownSetSupervision_answers (c : SupSettings) : Answers s (ownSetSupervision c s) := by
  grind [ownSetSupervision, answers_done, answers_refuse, answers_here]

end

/-- Every owner gives one answer, but that of a LOAD FRAMES that begins to write (R156, R158, R138). -/
theorem handle_answers (r : Request) (s : State) : Answers s (handle r s) ∨ BeginsToWrite r s (handle r s) := by
  cases r with
  | start => exact .inl (ownStart_answers ..)
  | pause => exact .inl (ownPause_answers ..)
  | resume => exact .inl (ownResume_answers ..)
  | stop => exact .inl (ownStop_answers ..)
  | seek => exact .inl (ownSeek_answers ..)
  | setShowLength => exact .inl (ownSetShowLength_answers ..)
  | readClock => exact .inl (answers_done ..)
  | placeCue => exact .inl (ownPlaceCue_answers ..)
  | amendCue => exact .inl (ownAmendCue_answers ..)
  | retireCue => exact .inl (ownRetireCue_answers ..)
  | retirePassed => exact .inl (ownRetirePassed_answers ..)
  | readCue => exact .inl (ownReadCue_answers ..)
  | readChannel => exact .inl (ownReadChannel_answers ..)
  | readStore => exact .inl (answers_done ..)
  | setStoreThreshold => exact .inl (ownSetStoreThreshold_answers ..)
  | setGroup => exact .inl (ownSetGroup_answers ..)
  | setCurve => exact .inl (ownSetCurve_answers ..)
  | setWindClass => exact .inl (ownSetWindClass_answers ..)
  | setBudget => exact .inl (ownSetBudget_answers ..)
  | readGroup => exact .inl (ownReadGroup_answers ..)
  | setLine => exact .inl (ownSetLine_answers ..)
  | setNode => exact .inl (ownSetNode_answers ..)
  | dropNode => exact .inl (ownDropNode_answers ..)
  | rejoinNode => exact .inl (ownRejoinNode_answers ..)
  | readNode => exact .inl (ownReadNode_answers ..)
  | readLine => exact .inl (ownReadLine_answers ..)
  | setOutputSense => exact .inl (ownSetOutputSense_answers ..)
  | setHead => exact .inl (ownSetHead_answers ..)
  | setSafeScene => exact .inl (ownSetSafeScene_answers ..)
  | setMaster => exact .inl (answers_done ..)
  | readHead => exact .inl (ownReadHead_answers ..)
  | defineSegment => exact .inl (ownDefineSegment_answers ..)
  | loadFrames => exact ownLoadFrames_answers ..
  | finishSegment => exact .inl (ownFinishSegment_answers ..)
  | reopenSegment => exact .inl (ownReopenSegment_answers ..)
  | dropSegment => exact .inl (ownDropSegment_answers ..)
  | setAudio => exact .inl (ownSetAudio_answers ..)
  | readPlayback => exact .inl (ownReadPlayback_answers ..)
  | setSupervision => exact .inl (ownSetSupervision_answers ..)
  | forceSafe => exact .inl (answers_done ..)
  | clearSafe => exact .inl (ownClearSafe_answers ..)
  | readSupervision => exact .inl (answers_done ..)
  | readAttention => exact .inl (answers_done ..)
  | clearAttention => exact .inl (answers_done ..)
  | setAttentionMask => exact .inl (answers_done ..)
  | identify => exact .inl (answers_done ..)
  | restart => exact .inl (answers_done ..)

/-! ### A request that SEND_FRAME brings -/

/-- The state that a request row leaves on a free link. -/
def rowLeaves (r : Request) (s : State) : State := settle (handle r) (withRequest r s)

theorem exec_row {i : Instr} {r : Request} {s : State} (hi : i.request? = some r) (hf : LinkFree s) (hr : r.wf = true) :
    exec i s = .next (rowLeaves r s) := by
  rw [exec_request hi, issue_wf _ hf hr]
  rfl

theorem rowLeaves_linkHeld (r : Request) (s : State) : (rowLeaves r s).linkHeld = (withRequest r s).linkHeld :=
  (settle_linkHeld ..).trans (handle_linkHeld ..)

theorem rowLeaves_request (r : Request) (s : State) : (rowLeaves r s).link.request = encodeRequest r :=
  congrArg (·.1) (rowLeaves_linkHeld r s)

theorem rowLeaves_answer (r : Request) (s : State) : (rowLeaves r s).link.answer = none :=
  congrArg (·.2.1) (rowLeaves_linkHeld r s)

theorem rowLeaves_rowDue (r : Request) (s : State) : setRowDue false (rowLeaves r s) = rowLeaves r s :=
  (settle_setRowDue_false (handle_linkHeld r _) rfl).symm

/-- What a row leaves in the link: its answer, or the frames that its load writes. -/
theorem rowLeaves_cases (r : Request) (s : State) :
    (∃ reply t, handle r (withRequest r s) = (t, some reply) ∧ (reply.status = .done ∨ t = withRequest r s) ∧
      rowLeaves r s = t.setLink { t.link with
        state := .handling (.finished { echo := BitVec.ofNat 8 r.code, status := reply.status, data := reply.data }) }) ∨
    ∃ n offset count frames first, r = .loadFrames n offset count frames ∧
      rowLeaves r s = (withRequest r s).setLink { linkWithRequest r s with state := .handling (.writing first frames) } := by
  rcases handle_answers r (withRequest r s) with ⟨reply, given, same⟩ | ⟨n, offset, count, frames, first, load, writes⟩
  · left
    have owner : handle r (withRequest r s) = ((handle r (withRequest r s)).1, some reply) := Prod.ext rfl given
    have request : (handle r (withRequest r s)).1.link.request = encodeRequest r := handle_request r _
    refine ⟨reply, _, owner, same, ?_⟩
    rw [rowLeaves, settle_answer owner, request, encodeRequest_head]
  · right
    exact ⟨n, offset, count, frames, first, load, settle_writing writes⟩

theorem rowLeaves_handling (r : Request) (s : State) : ∃ w, (rowLeaves r s).link.state = .handling w := by
  rcases rowLeaves_cases r s with ⟨reply, t, -, -, e⟩ | ⟨n, offset, count, frames, first, -, e⟩
  · rw [e]
    exact ⟨_, rfl⟩
  · rw [e]
    exact ⟨_, rfl⟩

theorem finishedAnswer_eq_some {s : State} {a : Answer} :
    finishedAnswer s = some a ↔ s.link.state = .handling (.finished a) := by
  unfold finishedAnswer
  split <;> simp_all

theorem sentRequest_eq_some {bytes : List Byte} {r : Request} :
    sentRequest bytes = some r ↔ parseRequest (bytes.take Config.largestRequest) = .ok r := by
  unfold sentRequest
  split <;> simp_all

theorem sentRequest_encodeRequest {r : Request} (hr : r.wf = true) : sentRequest (encodeRequest r) = some r := by
  refine sentRequest_of_parsed ?_
  rw [List.take_of_length_le (length_encodeRequest_le r hr), parseRequest_encodeRequest r hr]

/-- A well-formed request in a SEND leaves what its own row leaves, with the mark that this row may follow. -/
theorem sendFrame_encodeRequest {r : Request} {s : State} (hf : LinkFree s) (hr : r.wf = true) :
    sendFrame (encodeRequest r) s = setRowDue true (rowLeaves r s) := by
  have taken := sendOnPort_free hf (length_encodeRequest_le r hr) (parseRequest_encodeRequest r hr)
  have sent := sentRequest_encodeRequest hr
  obtain ⟨b, rest, bytes⟩ : ∃ b rest, encodeRequest r = b :: rest := ⟨_, _, rfl⟩
  rw [bytes] at taken sent ⊢
  rw [sendFrame_taken hf sent, taken, rowLeaves]

/-- The row of a request that SEND_FRAME has brought follows it. -/
theorem rowFollows_sent {r : Request} {s : State} (hr : r.wf = true) : rowFollows r (setRowDue true (rowLeaves r s)) = true := by
  obtain ⟨w, state⟩ := rowLeaves_handling r s
  have state : (setRowDue true (rowLeaves r s)).link.state = .handling w := state
  have due : (setRowDue true (rowLeaves r s)).link.rowDue = true := rfl
  have request : (setRowDue true (rowLeaves r s)).link.request = encodeRequest r := rowLeaves_request r s
  simp only [rowFollows, due, state, request, parseRequest_encodeRequest r hr, beq_self_eq_true]

/-- LOAD_FRAMES_WRITTEN does not read the mark. -/
theorem execLoadFramesWritten_setRowDue {s : State} {first : Nat} {frames : List Frame}
    (writing : s.link.state = .handling (.writing first frames)) (due : Bool) :
    execLoadFramesWritten (setRowDue due s) = execLoadFramesWritten s := by
  have writing' : (setRowDue due s).link.state = .handling (.writing first frames) := writing
  unfold execLoadFramesWritten
  rw [writing, writing']
  rfl

/-- Settles O5: the state that the row leaves is the one that the SEND leaves but for the mark, which the row that follows
takes away, and which the completion does not read. -/
theorem completionAfterSendMatchesRow : Obligations.CompletionAfterSendMatchesRow := by
  refine ⟨fun s a finished => ?_, fun b rest r s hf sent => ?_, fun i r s t u hi hr hf ht hu => ?_⟩
  · exact congrArg Host.Outcome.next (placeAnswer_finished finished)
  · rw [exec_sendFrame, sendFrame_taken hf sent, sendOnPort_parsed hf (sentRequest_eq_some.1 sent)]
    rfl
  · rw [exec_sendFrame, sendFrame_encodeRequest hf hr] at ht
    rw [exec_row hi hf hr] at hu
    cases ht
    cases hu
    refine ⟨rfl, ?_, fun a finished => ?_, fun unfinished => ?_⟩
    · rw [exec_request hi, issue_follows _ (rowFollows_sent hr)]
      exact congrArg Host.Outcome.next (rowLeaves_rowDue r s)
    · have state := finishedAnswer_eq_some.1 finished
      have state' : (setRowDue true (rowLeaves r s)).link.state = .handling (.finished a) := state
      show Host.Outcome.next (placeAnswer _) = .next (placeAnswer _)
      rw [placeAnswer_finished state, placeAnswer_finished state']
      rfl
    · rcases rowLeaves_cases r s with ⟨reply, t, -, -, e⟩ | ⟨n, offset, count, frames, first, -, e⟩
      · rw [e] at unfinished
        cases unfinished
      · have writing : (rowLeaves r s).link.state = .handling (.writing first frames) := by rw [e]; rfl
        exact execLoadFramesWritten_setRowDue writing true

/-! ### The silence timer (R109, R158) -/

/-- The silence timer, its limit and the model's clock are as they were. -/
structure SilenceKept (s t : State) : Prop where
  since : t.link.silenceSince = s.link.silenceSince
  settings : t.sup.settings = s.sup.settings
  now : t.now = s.now

theorem SilenceKept.trans {s t u : State} (h : SilenceKept s t) (h' : SilenceKept t u) : SilenceKept s u :=
  ⟨h'.since.trans h.since, h'.settings.trans h.settings, h'.now.trans h.now⟩

theorem SilenceKept.restarted {s t : State} (h : SilenceKept s t) (restarted : s.link.silenceSince = silenceRestarted s) :
    t.link.silenceSince = silenceRestarted t := by
  rw [silenceRestarted, h.since, h.settings, h.now, restarted]
  rfl

theorem silenceKept_of_same {s t : State} (link : t.link = s.link) (sup : t.sup = s.sup) (now : t.now = s.now) :
    SilenceKept s t := ⟨by rw [link], by rw [sup], now⟩

theorem silenceKept_addCause (c : SafeCause) (s : State) : SilenceKept s (addCause c s) := by
  rcases addCause_cases c s with ⟨-, e⟩ | ⟨-, -, e⟩ | ⟨-, -, e⟩ <;> rw [e] <;> exact ⟨rfl, rfl, rfl⟩

theorem silenceKept_setCondition (c : SafeCause) (holds : Bool) (s : State) : SilenceKept s (setCondition c holds s) := by
  cases holds
  · exact ⟨rfl, rfl, rfl⟩
  · exact silenceKept_addCause c s

theorem silenceKept_evalCritical (s : State) : SilenceKept s (evalCritical s) := silenceKept_setCondition ..

theorem silenceKept_writeNode (i : Fin 40) (n : Node) (s : State) : SilenceKept s (writeNode i n s) := by
  rcases writeNode_cases i n s with ⟨-, e⟩ | ⟨-, e⟩ <;> rw [e]
  · exact ⟨rfl, rfl, rfl⟩
  · exact .trans (silenceKept_of_same (by simp) (by simp) (by simp)) (silenceKept_evalCritical _)

theorem silenceKept_fieldReach {s t : State} (h : FieldReach s t) : SilenceKept s t := by
  refine h.keeps (P := SilenceKept s) (fun u v write kept => kept.trans ?_) ⟨rfl, rfl, rfl⟩
  cases write with
  | leave i n => exact silenceKept_writeNode i n u
  | _ => exact ⟨rfl, rfl, rfl⟩

theorem silenceKept_dropNode (i : Fin 40) (s : State) : SilenceKept s (dropNode i s) := by
  have node := silenceKept_writeNode i Node.absentRecord s
  unfold dropNode
  dsimp only
  split
  · exact node
  · split_ifs
    · exact node
    · exact node.trans (silenceKept_fieldReach (reach_continueRound _ _ _))
    · exact node.trans ⟨rfl, rfl, rfl⟩

theorem silenceKept_acceptGroup (n : Fin 32) (g : Group) (s : State) : SilenceKept s (acceptGroup n g s) := by
  have written (st : Store) : SilenceKept s ((setGroupRec n g s).setStore st) := ⟨rfl, rfl, rfl⟩
  unfold acceptGroup
  dsimp only
  split_ifs
  · exact (written _).trans (silenceKept_evalCritical _)
  · exact (written s.store).trans (silenceKept_evalCritical _)
  · exact written _
  · exact written s.store

theorem silenceKept_placeOn (c : Fin 49) (q : Cue) (s : State) : SilenceKept s (placeOn c q s) := by
  rw [placeOn_frame]
  unfold placeOn noticeLow
  split_ifs <;> exact ⟨rfl, rfl, rfl⟩

theorem silenceKept_changeMode (k : ClockMode) (s : State) : SilenceKept s (changeMode k s) := by
  unfold changeMode
  cases k <;> exact ⟨rfl, rfl, rfl⟩

/-- SET SUPERVISION restarts the timer under the new limit (R116). -/
theorem applySupervision_restarts (c : SupSettings) (s : State) :
    (applySupervision c s).link.silenceSince = silenceRestarted (applySupervision c s) ∧ (applySupervision c s).now = s.now := by
  rw [applySupervision_eq]
  split_ifs
  · exact ⟨rfl, rfl⟩
  · exact ⟨(silenceKept_setCondition ..).restarted rfl, (silenceKept_setCondition ..).now⟩

/-- Every owner but that of SET SUPERVISION leaves the silence timer as the taking left it. -/
theorem owner_silence {r : Request} {s t : State} (h : OwnerDoes s r t) :
    SilenceKept s t ∨ ∃ c, r = .setSupervision c ∧ t = applySupervision c s := by
  cases h with
  | supervision c => exact .inr ⟨c, rfl, rfl⟩
  | start => exact .inl (silenceKept_of_same (by simp) (by simp) (by simp))
  | resume =>
    refine .inl (silenceKept_of_same ?_ ?_ ?_)
    · rw [doReturnWork_link, setRunning_link]; split_ifs <;> simp
    · rw [doReturnWork_sup, setRunning_sup]; split_ifs <;> simp
    · rw [doReturnWork_now, setRunning_now]; split_ifs <;> simp
  | stop => exact .inl (silenceKept_of_same (by simp) (by simp) (by simp))
  | seek => exact .inl (silenceKept_of_same (by simp) (by simp) (by simp))
  | place a c sh p => exact .inl (silenceKept_placeOn ..)
  | amendWaiting => refine .inl ?_; rw [amendWaiting_frame]; exact ⟨rfl, rfl, rfl⟩
  | amendTaken => refine .inl ?_; rw [amendTaken_frame]; exact ⟨rfl, rfl, rfl⟩
  | retire => refine .inl ?_; rw [retireOn_frame]; exact ⟨rfl, rfl, rfl⟩
  | retirePassed => refine .inl ?_; rw [retirePassedOn_frame]; exact ⟨rfl, rfl, rfl⟩
  | group => exact .inl (silenceKept_acceptGroup ..)
  | node i => exact .inl (silenceKept_writeNode ..)
  | dropNode n i => exact .inl (silenceKept_dropNode i s)
  | mode m f x k => exact .inl ((silenceKept_changeMode k s).trans ⟨rfl, rfl, rfl⟩)
  | forceSafe => exact .inl (silenceKept_addCause .forced s)
  | restart =>
    refine .inl ?_
    rw [restartClock_frame]
    exact ⟨by simp [restartTime, restartLink], by simp [clearLatched, restartTime, restartLink],
      by simp [restartTime, restartLink]⟩
  | _ => exact .inl ⟨rfl, rfl, rfl⟩


theorem owner_restarts {r : Request} {s t : State} (h : OwnerDoes s r t)
    (restarted : s.link.silenceSince = silenceRestarted s) : t.link.silenceSince = silenceRestarted t ∧ t.now = s.now := by
  rcases owner_silence h with kept | ⟨c, -, e⟩
  · exact ⟨kept.restarted restarted, kept.now⟩
  · rw [e]
    exact applySupervision_restarts c s

theorem settle_rest (own : State → Owned) (s : State) :
    (settle own s).link.silenceSince = (own s).1.link.silenceSince ∧ (settle own s).sup = (own s).1.sup ∧
      (settle own s).now = (own s).1.now := by
  unfold settle
  rcases own s with ⟨t, _ | reply⟩ <;> exact ⟨rfl, rfl, rfl⟩

theorem rowLeaves_restarts (r : Request) (s : State) :
    (rowLeaves r s).link.silenceSince = silenceRestarted (rowLeaves r s) ∧ (rowLeaves r s).now = s.now := by
  obtain ⟨restarted, now⟩ := owner_restarts (handle_does r (withRequest r s)) rfl
  obtain ⟨since, sup, same⟩ := settle_rest (handle r) (withRequest r s)
  rw [rowLeaves, silenceRestarted, since, sup, same, restarted]
  exact ⟨rfl, now⟩

/-- Settles O6: one answer by the owners' answers, the silence timer by what they do, and a refusal by the owner that
left the state alone. -/
theorem everyTakenRequestIsAnswered : Obligations.EveryTakenRequestIsAnswered := by
  intro i r s hi hr hf
  refine ⟨rowLeaves r s, exec_row hi hf hr, rowLeaves_request r s, rowLeaves_answer r s,
    (rowLeaves_restarts r s).1, (rowLeaves_restarts r s).2, ?_, fun a finished refused => ?_⟩
  · rcases rowLeaves_cases r s with ⟨reply, t, -, -, e⟩ | ⟨n, offset, count, frames, first, load, e⟩
    · rw [e]
      exact .inl ⟨_, rfl, rfl⟩
    · rw [e]
      exact .inr ⟨n, offset, count, frames, first, load, rfl⟩
  · rcases rowLeaves_cases r s with ⟨reply, t, -, same, e⟩ | ⟨n, offset, count, frames, first, load, e⟩
    · rw [e] at finished ⊢
      cases finished
      rw [same.resolve_left refused]
      rfl
    · rw [e] at finished
      cases finished

end Sys2Proof.Machine
end

section

/-! # Bytes that are read as a request (11.1, 11.2) -/

namespace Sys2Proof

open Sys2Proof.Machine Sys2Proof.Safety

/-! ### What is read fits its field -/

theorem beValue_lt : ∀ bytes : List Byte, beValue bytes < 256 ^ bytes.length := by
  intro bytes
  induction bytes using List.reverseRecOn with
  | nil => simp [beValue]
  | append_singleton rest b ih =>
    have step : beValue (rest ++ [b]) = beValue rest * 256 + b.toNat := by simp [beValue]
    have small := b.isLt
    rw [step, List.length_append, List.length_singleton, pow_succ]
    omega

theorem fits_field (p : List Byte) (at_ n : Nat) : fits n (field p at_ n) = true := by
  rw [fits, decide_eq_true_iff, field]
  exact (beValue_lt _).trans_le (Nat.pow_le_pow_right (by decide) (List.length_take_le _ _))

theorem fitsOption_absentByte (p : List Byte) (at_ : Nat) : fitsOption (absentByte (field p at_ 1)) = true := by
  have small := fits_field p at_ 1
  rw [fits, decide_eq_true_iff] at small
  unfold absentByte
  split_ifs with absent
  · rfl
  · simp only [fitsOption, fitsPresent, decide_eq_true_eq]
    omega

theorem readRawPayload_wf (p : List Byte) (at_ : Nat) : (readRawPayload p at_).wf = true := by
  simp [readRawPayload, RawPayload.wf, fits_field]

theorem readValve_wf (p : List Byte) (at_ : Nat) :
    ((absentByte (field p at_ 1)).map (fun n => { node := n, output := field p (at_ + 1) 1 : ValveArgs })).all ValveArgs.wf = true := by
  have node := fitsOption_absentByte p at_
  cases found : absentByte (field p at_ 1) with
  | none => rfl
  | some n =>
    rw [found] at node
    simp only [Option.map_some, Option.all_some, ValveArgs.wf, fits_field, Bool.and_true]
    exact node

theorem readCurve_wf (p : List Byte) : (readCurve p).toList.all CurvePoint.wf = true := by
  simp [readCurve, readCurvePoint, CurvePoint.wf, fits_field]

theorem readHeadArgs_wf (p : List Byte) : (readHeadArgs p).wf = true := by
  unfold readHeadArgs
  split_ifs
  · simp [HeadArgs.wf, HeadOutputArgs.wf, fits_field, fitsOption_absentByte]
  · simp [HeadArgs.wf, fits_field]

theorem readLoopStart_lt (p : List Byte) (at_ : Nat) :
    (readLoopStart (field p at_ 4)).all (fun v => decide (v < 4294967295)) = true := by
  have small := fits_field p at_ 4
  rw [fits, decide_eq_true_iff] at small
  unfold readLoopStart
  split_ifs with absent
  · rfl
  · simp only [Option.all_some, decide_eq_true_eq]
    omega

theorem length_readFrames : ∀ (count : Nat) (bytes : List Byte), bytes.length = 4 * count → (readFrames bytes).length = count
  | 0, bytes, h => by
    rw [List.length_eq_zero_iff.1 h]
    rfl
  | count + 1, bytes, h => by
    match bytes, h with
    | a :: b :: c :: d :: rest, h =>
      rw [readFrames, List.length_cons, length_readFrames count rest (by simp at h; omega)]
    | [], h | [_], h | [_, _], h | [_, _, _], h => simp at h <;> omega

/-- Parameters that are read are well formed, where those of a LOAD FRAMES have the length that their count asks for and
fit the request buffer. -/
theorem readParams_wf {p : List Byte} {r : Request} (h : readParams r.code p = some r)
    (load : r.code = 0x39 → p.length = 13 + 4 * field p 5 2 ∧ field p 5 2 ≤ 256) : r.wf = true := by
  cases r
  case loadFrames k offset count frames =>
    cases h
    obtain ⟨length, most⟩ := load rfl
    have frames := length_readFrames (field p 5 2) (p.drop 13) (by rw [List.length_drop]; omega)
    simp [Request.wf, fits_field, most, frames]
  all_goals clear load
  case setGroup g =>
    cases h
    simp only [Request.wf, readGroupArgs, GroupArgs.wf, fits_field, fitsOption_absentByte, readValve_wf p 3, Bool.and_true]
  case setCurve =>
    cases h
    rw [Request.wf, fits_field, readCurve_wf]
    rfl
  all_goals
    cases h
    simp [Request.wf, readCueArgs, readAmendArgs, readLevels, readLineSettings, readSupSettings, CueArgs.wf, AmendArgs.wf, Levels.wf,
      LineSettings.wf, SupSettings.wf, fits_field, fitsOption_absentByte, readRawPayload_wf, readHeadArgs_wf,
      readLoopStart_lt]

/-! ### The length of the parameters -/

/-- The table's length depends on the parameters of a LOAD FRAMES alone (R164). -/
theorem requiredLength_congr {r : Request} (h : r.code ≠ 0x39) (p q : List Byte) :
    requiredLength r.code p = requiredLength r.code q := by
  cases r
  case loadFrames => exact absurd rfl h
  all_goals rfl

theorem length_params_of_read {p : List Byte} {n : Nat} {r : Request} (hr : r.wf = true) (read : readParams r.code p = some r)
    (h : requiredLength r.code p = some n) : r.params.length = n := by
  by_cases load : r.code = 0x39
  · cases r
    case loadFrames k offset count frames =>
      cases read
      cases h
      simp only [Request.wf, Bool.and_eq_true, decide_eq_true_eq] at hr
      obtain ⟨-, frames⟩ := hr
      simp only [Request.params, List.length_append, length_beBytes, length_flatMap_frameBytes, frames]
    all_goals cases load
  · rw [requiredLength_congr load p r.params, requiredLength_params r hr] at h
    exact Option.some.inj h

/-- What the link's checks on the bytes of a request say (R164). -/
theorem parseRequest_spec {bytes : List Byte} {r : Request} (h : parseRequest bytes = .ok r) :
    ∃ n, requiredLength r.code (bytes.drop 3) = some n ∧ readParams r.code (bytes.drop 3) = some r ∧
      field bytes 0 1 = r.code ∧ 3 ≤ bytes.length ∧ (bytes.drop 3).length = field bytes 1 2 ∧ field bytes 1 2 = n := by
  have code := code_of_parseRequest h
  unfold parseRequest at h
  rw [← code] at h
  dsimp only at h
  split at h
  · cases h
  · next n known =>
    by_cases bad : bytes.length < 3 ∨ (bytes.drop 3).length ≠ field bytes 1 2 ∨ field bytes 1 2 ≠ n
    · rw [if_pos bad] at h
      cases h
    · rw [if_neg bad] at h
      split at h
      · next q read =>
        cases h
        rw [not_or, not_or, Nat.not_lt, not_not, not_not] at bad
        obtain ⟨long, length, table⟩ := bad
        exact ⟨n, known, read, code.symm, long, length, table⟩
      · cases h

/-- Settles O2: the fields that are read fit, so the request is well formed, and its parameters have the table's length. -/
theorem requestBytesReadBack : Obligations.RequestBytesReadBack := by
  intro bytes r short h
  obtain ⟨n, known, read, code, long, length, table⟩ := parseRequest_spec h
  have hr : r.wf = true := by
    refine readParams_wf read fun load => ?_
    rw [load] at known
    have known : some (13 + 4 * field (bytes.drop 3) 5 2) = some n := known
    have total := Option.some.inj known
    rw [Config.largestRequest] at short
    rw [List.length_drop] at length ⊢
    omega
  have params := length_params_of_read hr read known
  refine ⟨hr, code, table.trans params.symm, ?_, parseRequest_encodeRequest r hr⟩
  rw [encodeRequest, List.length_append, List.length_append, length_beBytes, length_beBytes, params, ← table, ← length,
    List.length_drop]
  omega

end Sys2Proof
end

section

/-! # The voices stand in READY segments (R136, R141)

What each action on the voices makes of them: a voice that sounds goes on where it was, or it starts in a READY segment. -/

namespace Sys2Proof.Machine

open Sys2Proof.Safety

/-! ### A voice goes on where it was -/

/-- If the second voice sounds, the first does, at the same place, and is FRONT where the second is. -/
structure GoesOn (v w : Voice) : Prop where
  same : w.state ≠ .idle →
    v.state ≠ .idle ∧ w.segment = v.segment ∧ w.position = v.position ∧ (w.state = .front → v.state = .front)

theorem goesOn_refl (v : Voice) : GoesOn v v := ⟨fun sounds => ⟨sounds, rfl, rfl, id⟩⟩

theorem goesOn_released (v : Voice) : GoesOn v Voice.released := ⟨fun sounds => absurd rfl sounds⟩

theorem GoesOn.trans {u v w : Voice} (h : GoesOn u v) (h' : GoesOn v w) : GoesOn u w := by
  refine ⟨fun sounds => ?_⟩
  obtain ⟨sounds_v, segment, position, front⟩ := h'.same sounds
  obtain ⟨sounds_u, segment', position', front'⟩ := h.same sounds_v
  exact ⟨sounds_u, segment.trans segment', position.trans position', front' ∘ front⟩

section
variable (v : Voice) (t gain dispatch ramp cue : Nat)

theorem goesOn_releaseIfZero : GoesOn v (v.releaseIfZero t) := by
  unfold Voice.releaseIfZero
  split_ifs
  · exact goesOn_released v
  · exact goesOn_refl v

theorem goesOn_fadeOut (sounds : v.state ≠ .idle) : GoesOn v (v.fadeOut t dispatch ramp cue) := by
  unfold Voice.fadeOut
  split_ifs
  · exact goesOn_released v
  · have fades : GoesOn v { v with
        state := .fading, fromGain := v.gainAt t, toGain := 0, origin := dispatch, duration := ramp,
        releaseAtZero := true, governing := some cue } :=
      ⟨fun _ => ⟨sounds, rfl, rfl, fun front => VoiceState.noConfusion front⟩⟩
    exact fades.trans (goesOn_releaseIfZero _ t)

theorem fadeOut_not_front : (v.fadeOut t dispatch ramp cue).state ≠ .front := by
  unfold Voice.fadeOut Voice.releaseIfZero
  split_ifs <;> nofun

theorem goesOn_makeWay : GoesOn v (v.makeWay t dispatch ramp cue) := by
  unfold Voice.makeWay
  split
  · exact goesOn_refl v
  · exact goesOn_released v
  · next front => exact goesOn_fadeOut v t dispatch ramp cue (front ▸ nofun)

theorem makeWay_not_front : (v.makeWay t dispatch ramp cue).state ≠ .front := by
  unfold Voice.makeWay
  split
  · next idle => exact idle ▸ nofun
  · nofun
  · exact fadeOut_not_front _ _ _ _ _

theorem goesOn_actGain : GoesOn v (v.actGain gain dispatch ramp cue t) := by
  unfold Voice.actGain
  split_ifs
  · exact ⟨fun sounds => ⟨sounds, rfl, rfl, id⟩⟩
  · exact goesOn_refl v

theorem goesOn_actQuiet : GoesOn v (v.actQuiet dispatch ramp cue t) := by
  unfold Voice.actQuiet
  split_ifs with front
  · exact goesOn_fadeOut v t dispatch ramp cue (front ▸ nofun)
  · exact goesOn_refl v

theorem goesOn_amendGain : GoesOn v (v.amendGain gain ramp cue t) := by
  unfold Voice.amendGain
  split_ifs
  · exact ⟨fun sounds => ⟨sounds, rfl, rfl, id⟩⟩
  · exact goesOn_refl v

theorem goesOn_amendQuiet : GoesOn v (v.amendQuiet ramp cue t) := by
  unfold Voice.amendQuiet
  split_ifs
  · exact goesOn_released v
  · exact ⟨fun sounds => ⟨sounds, rfl, rfl, id⟩⟩
  · exact goesOn_refl v

theorem goesOn_retireTaken : GoesOn v (v.retireTaken cue t) := by
  unfold Voice.retireTaken
  dsimp only
  split_ifs <;> exact ⟨fun sounds => ⟨sounds, rfl, rfl, id⟩⟩

end

/-! ### The law of the voices -/

/-- A segment is READY and not empty of frames (R136, R137). -/
def Playable (p : Playback) (k : Fin 64) : Prop := p.segments[k].state = .ready ∧ 1 ≤ p.segments[k].length ∧
  ∀ l, p.segments[k].loopStart = some l → l < p.segments[k].length

/-- The laws of R136 and R141 over the voices. -/
structure VoicesFit (p : Playback) : Prop where
  voice0 : VoiceFits p p.v0
  voice1 : VoiceFits p p.v1
  front : ¬(p.v0.state = .front ∧ p.v1.state = .front)

section
variable {p q : Playback}

theorem voiceFits_released (p : Playback) : VoiceFits p Voice.released := fun sounds => absurd rfl sounds

theorem voiceFits_goesOn {v w : Voice} (fits : VoiceFits p v) (segments : q.segments = p.segments) (h : GoesOn v w) :
    VoiceFits q w := fun sounds => by
  obtain ⟨sounds_v, segment, position, -⟩ := h.same sounds
  obtain ⟨k, at_, ready, inside⟩ := fits sounds_v
  exact ⟨k, segment.trans at_, by rw [segments, ready], by rw [segments, position]; exact inside⟩

theorem not_both_front {v w v' w' : Voice} (front : ¬(v.state = .front ∧ w.state = .front)) (h : GoesOn v v')
    (h' : GoesOn w w') : ¬(v'.state = .front ∧ w'.state = .front) := by
  rintro ⟨a, b⟩
  obtain ⟨-, -, -, fa⟩ := h.same (a ▸ nofun)
  obtain ⟨-, -, -, fb⟩ := h'.same (b ▸ nofun)
  exact front ⟨fa a, fb b⟩

theorem voicesFit_goesOn (law : VoicesFit p) (segments : q.segments = p.segments) (h0 : GoesOn p.v0 q.v0)
    (h1 : GoesOn p.v1 q.v1) : VoicesFit q :=
  ⟨voiceFits_goesOn law.voice0 segments h0, voiceFits_goesOn law.voice1 segments h1, not_both_front law.front h0 h1⟩

theorem voicesFit_of_same (law : VoicesFit p) (segments : q.segments = p.segments) (v0 : q.v0 = p.v0) (v1 : q.v1 = p.v1) :
    VoicesFit q := voicesFit_goesOn law segments (v0 ▸ goesOn_refl _) (v1 ▸ goesOn_refl _)

theorem voicesFit_released (v0 : p.v0 = Voice.released) (v1 : p.v1 = Voice.released) : VoicesFit p :=
  ⟨v0 ▸ voiceFits_released p, v1 ▸ voiceFits_released p, fun ⟨a, _⟩ => by rw [v0] at a; cases a⟩

/-! ### Takes and chases (R143, R144, R150) -/

theorem voiceFits_starting {k : Fin 64} (playable : Playable p k) (gain dispatch ramp cue : Nat) :
    VoiceFits p (Voice.starting k gain dispatch ramp cue) :=
  fun _ => ⟨k, rfl, playable.1, playable.2.1⟩

theorem voicesFit_actPlay {k : Fin 64} (law : VoicesFit p) (playable : Playable p k) (gain dispatch ramp cue t : Nat) :
    VoicesFit (p.actPlay k gain dispatch ramp cue t) := by
  have way (v : Voice) (fits : VoiceFits p v) : VoiceFits p (v.makeWay t dispatch ramp cue) :=
    voiceFits_goesOn fits rfl (goesOn_makeWay ..)
  have new := voiceFits_starting playable gain dispatch ramp cue
  unfold Playback.actPlay
  dsimp only
  split_ifs
  · exact ⟨new, way _ law.voice1, fun ⟨_, front⟩ => makeWay_not_front _ _ _ _ _ front⟩
  · exact ⟨way _ law.voice0, new, fun ⟨front, _⟩ => makeWay_not_front _ _ _ _ _ front⟩

theorem voicesFit_handOver {c : Cue} (law : VoicesFit p) (playable : ∀ k, c.payload.segment? = some k → Playable p k) (t : Nat) :
    VoicesFit (p.handOver c t) := by
  unfold Playback.handOver
  split
  · next k g payload => exact voicesFit_actPlay law (playable k (by rw [payload]; rfl)) ..
  · exact voicesFit_goesOn law rfl (goesOn_actGain ..) (goesOn_actGain ..)
  · exact voicesFit_goesOn law rfl (goesOn_actQuiet ..) (goesOn_actQuiet ..)
  · exact law
  · exact law

theorem voicesFit_amendTaken (law : VoicesFit p) (c : Cue) (t : Nat) : VoicesFit (p.amendTaken c t) := by
  unfold Playback.amendTaken
  split
  · exact voicesFit_goesOn law rfl (goesOn_amendGain ..) (goesOn_amendGain ..)
  · exact voicesFit_goesOn law rfl (goesOn_amendGain ..) (goesOn_amendGain ..)
  · exact voicesFit_goesOn law rfl (goesOn_amendQuiet ..) (goesOn_amendQuiet ..)
  · exact law
  · exact law

theorem lastPlay_mem {cues after : List Cue} {c : Cue} (h : lastPlay cues = some (c, after)) : c ∈ cues := by
  induction cues with
  | nil => cases h
  | cons d rest ih =>
    unfold lastPlay at h
    split at h
    · next r found =>
      cases h
      exact List.mem_cons_of_mem d (ih found)
    · split_ifs at h
      cases h
      exact List.mem_cons_self

/-- The position that a chase works out is inside the segment (R150 step 3). -/
theorem chasePosition_lt {g : Segment} {start t pos : Nat} (loop : ∀ l, g.loopStart = some l → l < g.length)
    (h : chasePosition g start t = some pos) : pos < g.length := by
  unfold chasePosition at h
  dsimp only at h
  split_ifs at h with inside
  · cases h
    exact inside
  · split at h
    · next l found =>
      cases h
      have short := loop l found
      have rest := Nat.mod_lt ((t - start) * 48 - l) (show 0 < g.length - l by omega)
      omega
    · cases h

theorem voicesFit_chase {cues : List Cue} (playable : ∀ c ∈ cues, ∀ k, c.payload.segment? = some k → Playable p k)
    (rec : ChannelRec) (t : Nat) : VoicesFit (p.chase cues rec t) := by
  have released : VoicesFit p.releaseBoth := voicesFit_released rfl rfl
  unfold Playback.chase
  dsimp only
  split
  · exact released
  · next c after last =>
    split
    · next k vs segment _ =>
      split
      · exact released
      · next pos position =>
        have mem : c ∈ cues := (List.mem_filter.1 (lastPlay_mem last)).1
        obtain ⟨ready, -, loop⟩ := playable c mem k segment
        exact ⟨fun _ => ⟨k, rfl, ready, chasePosition_lt loop position⟩, voiceFits_released _, fun ⟨_, front⟩ => nomatch front⟩
    · exact released

/-! ### Audio frames (R146, R147, R149) -/

/-- After a frame that it has read a voice stands before the next frame of its segment, at its loop start, or is released. -/
theorem voiceFits_advance {v : Voice} (loops : ∀ k, p.segments[k].state = .ready → Playable p k) (fits : VoiceFits p v) :
    VoiceFits p (p.advanceVoice v) ∧ ((p.advanceVoice v).state = .front → v.state = .front) := by
  unfold Playback.advanceVoice
  split
  · exact ⟨fits, id⟩
  · exact ⟨fits, id⟩
  · next k segment _ =>
    split_ifs with last
    · unfold Voice.atSegmentEnd
      split
      · next l loop =>
        refine ⟨fun sounds => ?_, id⟩
        obtain ⟨j, at_, ready, -⟩ := fits sounds
        cases segment.symm.trans at_
        exact ⟨k, segment, ready, (loops k ready).2.2 l loop⟩
      · exact ⟨voiceFits_released p, nofun⟩
    · refine ⟨fun sounds => ?_, id⟩
      obtain ⟨j, at_, ready, -⟩ := fits sounds
      cases segment.symm.trans at_
      exact ⟨k, segment, ready, Nat.not_le.1 last⟩

theorem voicesFit_playFrame (law : VoicesFit p) (loops : ∀ k, p.segments[k].state = .ready → Playable p k) (t m : Nat) :
    VoicesFit (p.playFrame t m) := by
  have zero : VoicesFit (p.releaseZero t) := voicesFit_goesOn law rfl (goesOn_releaseIfZero ..) (goesOn_releaseIfZero ..)
  obtain ⟨fits0, front0⟩ := voiceFits_advance (p := p.releaseZero t) loops zero.voice0
  obtain ⟨fits1, front1⟩ := voiceFits_advance (p := p.releaseZero t) loops zero.voice1
  exact ⟨fits0, fits1, fun ⟨a, b⟩ => zero.front ⟨front0 a, front1 b⟩⟩

theorem voicesFit_safeFrame (law : VoicesFit p) (loops : ∀ k, p.segments[k].state = .ready → Playable p k) (t : Nat)
    (origin : ClockState) : VoicesFit (p.safeFrame t origin) := by
  unfold Playback.safeFrame
  dsimp only
  split_ifs
  · exact voicesFit_released rfl rfl
  · exact voicesFit_of_same law rfl rfl rfl
  · have counted : VoicesFit { p with multiplier := p.nextMultiplier, fadeCount := p.fadeCount + 1 } :=
      voicesFit_of_same law rfl rfl rfl
    exact voicesFit_playFrame counted loops _ _

/-- No voice stands at the end of its segment: AUDIO_FRAME has met it (R147, log 4). -/
theorem segmentEnd_of_fits {s : State} (law : VoicesFit s.play) (i : VoiceId) : segmentEnd i s = s := by
  have fits : VoiceFits s.play (s.play.voice i) := by
    cases i
    · exact law.voice0
    · exact law.voice1
  unfold segmentEnd
  dsimp only
  split
  · rfl
  · next k segment =>
    refine if_neg fun ⟨_, sounds, reached⟩ => ?_
    obtain ⟨j, at_, -, inside⟩ := fits (bne_iff_ne.1 sounds)
    cases segment.symm.trans at_
    omega

/-- The voices read frames that exist, where the segments lie in sample memory (R135, R137). -/
theorem readsExist_of_fits (law : VoicesFit p) (inside : ∀ k : Fin 64, SegmentFits p.segments[k]) (t : Nat) : p.readsExist t = true := by
  have zero : VoicesFit (p.releaseZero t) := voicesFit_goesOn law rfl (goesOn_releaseIfZero ..) (goesOn_releaseIfZero ..)
  have reads (v : Voice) (fits : VoiceFits (p.releaseZero t) v) :
      (!v.sounding || decide ((p.releaseZero t).voiceIndex v < Config.memoryFrames)) = true := by
    by_cases sounds : v.state = .idle
    · rw [Voice.sounding, sounds]
      rfl
    · obtain ⟨k, segment, ready, position⟩ := fits sounds
      have ready : p.segments[k].state = .ready := ready
      obtain ⟨-, last, -⟩ := inside k (ready ▸ nofun)
      rw [Bool.or_eq_true, decide_eq_true_iff, Playback.voiceIndex, segment]
      exact .inr (lt_of_lt_of_le (Nat.add_lt_add_left position _) last)
  simp only [Playback.readsExist, reads _ zero.voice0, reads _ zero.voice1, Bool.and_self]

end

end Sys2Proof.Machine
end

section

/-! # Segments, cues and voices keep their law, and no step faults (R136, R137, R138, R141) -/

namespace Sys2Proof.Machine

open Sys2Proof.Safety

/-- A cue is of its channel's kind, and the segment that it names is READY (R2, R136). -/
def CueReady (p : Playback) (c : Fin 49) (x : Payload) : Prop :=
  payloadFits c x = true ∧ ∀ k, x.segment? = some k → p.segments[k].state = .ready

/-- The laws of R136, R137 and R141, less that of a load under way. -/
structure ShowFits (s : State) : Prop where
  extents : ∀ k : Fin 64, SegmentFits s.play.segments[k]
  apart : ∀ j k : Fin 64, j ≠ k → ExtentsApart s.play.segments[j] s.play.segments[k]
  cues : ∀ c : Fin 49, ∀ q ∈ s.store.timelines[c], CueReady s.play c q.payload
  voices : VoicesFit s.play

theorem playbackLaw_iff {s : State} : PlaybackLaw s ↔ ShowFits s ∧ LoadFits s :=
  ⟨fun law => ⟨⟨law.extents, law.apart, law.cues, law.voice0, law.voice1, law.front⟩, law.load⟩,
    fun ⟨law, load⟩ => ⟨law.extents, law.apart, law.cues, law.voices.voice0, law.voices.voice1, law.voices.front, load⟩⟩

section
variable {s t : State}

theorem playable_of_ready (law : ShowFits s) (k : Fin 64) (ready : s.play.segments[k].state = .ready) : Playable s.play k := by
  obtain ⟨long, -, loop⟩ := law.extents k (ready ▸ nofun)
  exact ⟨ready, long, loop⟩

theorem cueReady_congr {p q : Playback} (segments : q.segments = p.segments) {c : Fin 49} {x : Payload} (h : CueReady p c x) :
    CueReady q c x := by
  rw [CueReady, segments]
  exact h

/-- The segments are as they were. -/
theorem showFits_of (law : ShowFits s) (segments : t.play.segments = s.play.segments)
    (cues : ∀ c : Fin 49, ∀ q ∈ t.store.timelines[c], CueReady s.play c q.payload) (voices : VoicesFit t.play) : ShowFits t :=
  ⟨fun k => by rw [segments]; exact law.extents k, fun j k => by rw [segments]; exact law.apart j k,
    fun c q hq => cueReady_congr segments (cues c q hq), voices⟩

theorem showFits_of_same (law : ShowFits s) (store : t.store.timelines = s.store.timelines) (play : t.play = s.play) :
    ShowFits t :=
  showFits_of law (by rw [play]) (by rw [store]; exact law.cues) (by rw [play]; exact law.voices)

theorem cues_of_sameCues (law : ShowFits s) {c : Fin 49} {tl : List Cue} (same : SameCues s.store.timelines[c] tl) :
    ∀ q ∈ tl, CueReady s.play c q.payload :=
  same.forall (fun _ => .rfl) (law.cues c)

/-- The cues are as they were but for state and mark. -/
theorem showFits_of_sameCues (law : ShowFits s) (segments : t.play.segments = s.play.segments)
    (same : ∀ c : Fin 49, SameCues s.store.timelines[c] t.store.timelines[c]) (voices : VoicesFit t.play) : ShowFits t :=
  showFits_of law segments (fun c => cues_of_sameCues law (same c)) voices

/-- One timeline is written. -/
theorem showFits_setTimeline (law : ShowFits s) {c : Fin 49} {tl : List Cue}
    (store : t.store = s.store.setTimeline c tl) (segments : t.play.segments = s.play.segments)
    (cues : ∀ q ∈ tl, CueReady s.play c q.payload) (voices : VoicesFit t.play) : ShowFits t := by
  refine showFits_of law segments (fun d q hq => ?_) voices
  rw [store, timelines_setTimeline] at hq
  split_ifs at hq with here
  · exact here ▸ cues q hq
  · exact law.cues d q hq

theorem showFits_of_safeAtMost (law : ShowFits s) (h : SafeAtMost s t) : ShowFits t := by
  rcases h.entry with ⟨-, -, play⟩ | entry
  · exact showFits_of_same law (by rw [h.store]) play
  · obtain ⟨-, -, -, ⟨fade, play⟩, -⟩ := entry
    have segments : t.play.segments = s.play.segments := (sameSamples_of_safeAtMost h rfl).1
    refine showFits_of law segments (by rw [h.store]; exact law.cues) ?_
    rw [beginSafeFade_eq] at play
    refine voicesFit_goesOn law.voices segments ?_ ?_
    all_goals
      rw [play]
      dsimp only
      split_ifs
      · exact goesOn_released _
      · exact goesOn_refl _

/-! ### Segments -/

/-- No cue names the segment, and no voice plays it (R136). -/
structure Unused (s : State) (k : Fin 64) : Prop where
  cues : ∀ c : Fin 49, ∀ q ∈ s.store.timelines[c], q.payload.segment? ≠ some k
  voice0 : s.play.v0.state ≠ .idle → s.play.v0.segment ≠ some k
  voice1 : s.play.v1.state ≠ .idle → s.play.v1.segment ≠ some k

theorem voice_not_at {p : Playback} {v : Voice} {k : Fin 64} (fits : VoiceFits p v) (unready : p.segments[k].state ≠ .ready) :
    v.state ≠ .idle → v.segment ≠ some k := by
  intro sounds at_
  obtain ⟨j, segment, ready, -⟩ := fits sounds
  cases segment.symm.trans at_
  exact unready ready

theorem unused_of_not_ready (law : ShowFits s) {k : Fin 64} (unready : s.play.segments[k].state ≠ .ready) : Unused s k :=
  ⟨fun c q hq named => unready ((law.cues c q hq).2 k named), voice_not_at law.voices.voice0 unready,
    voice_not_at law.voices.voice1 unready⟩

theorem not_plays_iff {v : Voice} {k : Fin 64} : v.plays k = false ↔ (v.state ≠ .idle → v.segment ≠ some k) := by
  unfold Voice.plays Voice.sounding
  cases v.state <;> simp

theorem channel_of_segment {c : Fin 49} {x : Payload} {k : Fin 64} (fits : payloadFits c x = true) (named : x.segment? = some k) :
    c = programme := by
  cases x <;> cases named
  exact Fin.ext (of_decide_eq_true fits)

theorem unused_of_unreferenced (law : ShowFits s) {k : Fin 64} (free : isReferenced s k = false) : Unused s k := by
  have none : cueReferences s k = 0 ∧ s.play.v0.plays k = false ∧ s.play.v1.plays k = false := by
    rw [isReferenced, bne_eq_false_iff_eq, voiceReferences] at free
    revert free
    cases s.play.v0.plays k <;> cases s.play.v1.plays k <;> simp [bitNat]
  obtain ⟨cues, voice0, voice1⟩ := none
  refine ⟨fun c q hq named => ?_, not_plays_iff.1 voice0, not_plays_iff.1 voice1⟩
  cases channel_of_segment (law.cues c q hq).1 named
  exact absurd (List.countP_eq_zero.1 cues q hq) (by simp [named])

theorem segments_set (k j : Fin 64) (g : Segment) (s : State) :
    (setSegment k g s).play.segments[j] = if k = j then g else s.play.segments[j] := by
  simp [setSegment, Vector.getElem_set, Fin.ext_iff]

theorem voiceFits_setSegment {k : Fin 64} {g : Segment} {v : Voice} (fits : VoiceFits s.play v)
    (away : v.state ≠ .idle → v.segment ≠ some k) : VoiceFits (setSegment k g s).play v := by
  intro sounds
  obtain ⟨j, at_, ready, inside⟩ := fits sounds
  have other : k ≠ j := fun e => away sounds (e ▸ at_)
  refine ⟨j, at_, ?_, ?_⟩ <;> rw [segments_set, if_neg other]
  · exact ready
  · exact inside

/-- A segment that nothing uses is written, apart from the others. -/
theorem showFits_setSegment (law : ShowFits s) {k : Fin 64} {g : Segment} (unused : Unused s k) (fits : SegmentFits g)
    (apart : ∀ j, j ≠ k → ExtentsApart g s.play.segments[j]) : ShowFits (setSegment k g s) := by
  refine ⟨fun j => ?_, fun i j ij => ?_, fun c q hq => ⟨(law.cues c q hq).1, fun j named => ?_⟩,
    voiceFits_setSegment law.voices.voice0 unused.voice0, voiceFits_setSegment law.voices.voice1 unused.voice1, law.voices.front⟩
  · rw [segments_set]
    split_ifs
    · exact fits
    · exact law.extents j
  · rw [segments_set, segments_set]
    split_ifs with ki kj kj
    · exact absurd (ki.symm.trans kj) ij
    · exact apart j (Ne.symm kj)
    · exact fun full full' => (apart i (Ne.symm ki) full' full).symm
    · exact law.apart i j ij
  · have other : k ≠ j := fun e => unused.cues c q hq (e ▸ named)
    rw [segments_set, if_neg other]
    exact (law.cues c q hq).2 j named

/-! ### Owners -/

/-- A chase hands its programme timeline and record to the voices (R150). -/
theorem chaseAll_play (now t0 : Nat) (s : State) : (chaseAll now t0 s).play =
    s.play.chase (chaseAll now t0 s).store.timelines[programme] (chaseAll now t0 s).channels[programme] now := by
  simp [chaseAll, handOverChase]

theorem chaseProgramme_play (now : Nat) (s : State) : (chaseProgramme now s).play =
    s.play.chase (chaseProgramme now s).store.timelines[programme] (chaseProgramme now s).channels[programme] now := by
  simp [chaseProgramme, handOverChase]

theorem voicesFit_chased (law : ShowFits s) {tl : List Cue} (same : SameCues s.store.timelines[programme] tl)
    (rec : ChannelRec) (now : Nat) : VoicesFit (s.play.chase tl rec now) :=
  voicesFit_chase (fun q hq k named => playable_of_ready law k ((cues_of_sameCues law same q hq).2 k named)) rec now

theorem showFits_chaseAll (law : ShowFits s) (now t0 : Nat) (store : t.store = (chaseAll now t0 s).store)
    (play : t.play = (chaseAll now t0 s).play) : ShowFits t := by
  have same (c : Fin 49) : SameCues s.store.timelines[c] (chaseAll now t0 s).store.timelines[c] := by
    rw [chaseAll_timelines]
    exact sameCues_chaseTimeline ..
  refine showFits_of_sameCues law (by rw [play]; exact (sameSamples_chaseAll s now t0).1) (fun c => by rw [store]; exact same c) ?_
  rw [play, chaseAll_play]
  exact voicesFit_chased law (same programme) ..

theorem showFits_chaseProgramme (law : ShowFits s) (now : Nat) (store : t.store = (chaseProgramme now s).store)
    (play : t.play = (chaseProgramme now s).play) : ShowFits t := by
  have same (c : Fin 49) : SameCues s.store.timelines[c] (chaseProgramme now s).store.timelines[c] := by
    rw [chaseProgramme_timelines]
    split_ifs
    · exact sameCues_chaseTimeline ..
    · rfl
  refine showFits_of_sameCues law (by rw [play]; exact (sameSamples_chaseProgramme s now).1) (fun c => by rw [store]; exact same c) ?_
  rw [play, chaseProgramme_play]
  exact voicesFit_chased law (same programme) ..

theorem cueReady_of_unready {c : Fin 49} {x : Payload} (fits : payloadFits c x = true) (ready : unready x s = false) :
    CueReady s.play c x := by
  refine ⟨fits, fun k named => ?_⟩
  rw [unready, named] at ready
  exact not_not.1 (bne_eq_false_iff_eq.1 ready ▸ not_not.2 rfl)

/-- The payload of an amendment: the cue's own, or one that was read for the channel and whose segment is READY. -/
theorem cueReady_amended (law : ShowFits s) {a : AmendArgs} {c : Fin 49} {q : Cue} {p : Payload}
    (mem : q ∈ s.store.timelines[c]) (payload : amendedPayload a c q = some p)
    (ready : AmendArgs.selects a 3 = true → unready p s = false) : CueReady s.play c p := by
  unfold amendedPayload at payload
  split_ifs at payload with selected
  · exact cueReady_of_unready (payloadFits_of_readPayload payload) (ready selected)
  · cases payload
    exact law.cues c q mem

theorem cues_replaced (law : ShowFits s) {c : Fin 49} {r : Cue} (ready : CueReady s.play c r.payload) (n : Nat) :
    ∀ q ∈ s.store.timelines[c].map (fun d => if d.number = n then r else d), CueReady s.play c q.payload := by
  intro q hq
  obtain ⟨d, hd, rfl⟩ := List.mem_map.1 hq
  split_ifs
  · exact ready
  · exact law.cues c d hd

theorem showFits_amendWaiting (law : ShowFits s) {a : AmendArgs} {c : Fin 49} {q r : Cue} (ready : CueReady s.play c r.payload) :
    ShowFits (amendWaiting a c q r s) := by
  unfold amendWaiting
  dsimp only
  split_ifs
  · refine showFits_setTimeline law rfl rfl (fun d hd => ?_) law.voices
    rcases mem_insertCue.1 hd with rfl | old
    · exact ready
    · exact law.cues c d (List.mem_filter.1 old).1
  · exact showFits_setTimeline law rfl rfl (cues_replaced law ready q.number) law.voices

theorem showFits_amendTaken (law : ShowFits s) {c : Fin 49} {q r : Cue} (ready : CueReady s.play c r.payload) :
    ShowFits (amendTaken c q r s) := by
  unfold amendTaken
  by_cases changes : amendChanges q r = true
  · rw [if_pos changes]
    dsimp only
    have cues := cues_replaced law (c := c) (r := { r with
      state := takenState (restartedRecord r s.channels[c] s.clock.showTime) s.clock.showTime }) ready q.number
    split_ifs
    · exact showFits_setTimeline law rfl (sameSamples_amendTaken _ _ _).1 cues (voicesFit_amendTaken law.voices _ _)
    · exact showFits_setTimeline law rfl rfl cues law.voices
  · rw [if_neg changes]
    exact law

theorem showFits_retireOn (law : ShowFits s) (c : Fin 49) (q : Cue) : ShowFits (retireOn c q s) := by
  have cues : ∀ d ∈ removeCue q.number s.store.timelines[c], CueReady s.play c d.payload :=
    fun d hd => law.cues c d (List.mem_filter.1 hd).1
  unfold retireOn
  dsimp only
  split_ifs
  · exact showFits_setTimeline law rfl rfl cues
      (voicesFit_goesOn (q := s.play.retireTaken q.number s.clock.showTime) law.voices rfl (goesOn_retireTaken ..)
        (goesOn_retireTaken ..))
  · exact showFits_setTimeline law rfl rfl cues law.voices
  · exact showFits_setTimeline law rfl rfl cues law.voices

theorem showFits_retirePassedOn (law : ShowFits s) (time : Nat) (channel : Option (Fin 49)) :
    ShowFits (retirePassedOn time channel s) := by
  refine showFits_of law (by rw [retirePassedOn_frame]) (fun c q hq => ?_) (by rw [retirePassedOn_frame]; exact law.voices)
  refine law.cues c q ?_
  simp only [retirePassedOn, State.setStore_store, Fin.getElem_fin, Vector.getElem_ofFn] at hq
  split_ifs at hq
  · exact (List.mem_filter.1 hq).1
  · exact hq

theorem showFits_placeOn (law : ShowFits s) {c : Fin 49} {q : Cue} (ready : CueReady s.play c q.payload) :
    ShowFits (placeOn c q s) := by
  refine showFits_setTimeline law (placeOn_spec c q s) (by rw [placeOn_frame]) (fun d hd => ?_)
    (by rw [placeOn_frame]; exact law.voices)
  rcases mem_insertCue.1 hd with rfl | old
  · exact ready
  · exact law.cues c d old

theorem showFits_acceptGroup (law : ShowFits s) (n : Fin 32) (g : Group) : ShowFits (acceptGroup n g s) := by
  obtain ⟨st, bound, written⟩ := acceptGroup_bound n g s
  have stored : ShowFits (s.setStore st) := by
    rcases written with ⟨same, -⟩ | ⟨-, recomputed⟩
    · exact showFits_of_same law (by rw [same]; rfl) rfl
    · refine showFits_setTimeline law recomputed rfl (fun q hq => ?_) law.voices
      obtain ⟨d, hd, rfl⟩ := List.mem_map.1 hq
      exact law.cues _ d hd
  exact showFits_of_safeAtMost stored bound

theorem extentsApart_of_overlaps {k : Fin 64} {first length : Nat} (free : overlapsAnother s k first length = false)
    (loop : Option Nat) (j : Fin 64) (other : j ≠ k) :
    ExtentsApart { state := .filling, first := first, length := length, loopStart := loop } s.play.segments[j] := by
  intro _ full
  have clear := List.any_eq_false.1 free j (List.mem_finRange j)
  simp only [Bool.and_eq_true, bne_iff_ne, decide_eq_true_eq, not_and, not_lt] at clear
  by_cases before : first < s.play.segments[j].first + s.play.segments[j].length
  · exact .inl (clear ⟨⟨other, full⟩, before⟩)
  · exact .inr (Nat.not_lt.1 before)

theorem emptyShow_fits (law : ShowFits s) : ShowFits (emptyShow s) := by
  refine showFits_of law rfl (fun c q hq => ?_) (voicesFit_released rfl rfl)
  simp [emptyShow] at hq

theorem showFits_restartClock (law : ShowFits s) : ShowFits (restartClock s) := by
  have same : (restartClock s).play.v0 = s.play.v0 ∧ (restartClock s).play.v1 = s.play.v1 := by
    unfold restartClock
    split_ifs <;> exact ⟨rfl, rfl⟩
  have segments := (sameSamples_restartClock s).1
  refine showFits_of law segments ?_ (voicesFit_of_same law.voices segments same.1 same.2)
  rw [restartClock_frame]
  exact law.cues

theorem showFits_owner {r : Request} (h : OwnerDoes s r t) (law : ShowFits s) : ShowFits t := by
  cases h with
  | start => exact showFits_chaseAll law s.clock.showTime s.clock.showTime (by simp) (by simp)
  | resume =>
    by_cases pending : s.clock.returnPending = true
    · simp only [if_pos pending]
      exact showFits_chaseProgramme law s.clock.showTime (by simp) (by simp)
    · simp only [if_neg pending]
      exact showFits_of_same law (by simp) (by simp)
  | stop =>
    refine showFits_of_sameCues law (sameSamples_clearShow _).1 (fun c => ?_) (voicesFit_released rfl rfl)
    simp only [clearShow, State.setPlay_store, State.setChannels_store, State.setStore_store, State.setClock_store,
      Fin.getElem_fin, Vector.getElem_ofFn]
    exact sameCues_map (f := Cue.toWaiting) (fun _ => rfl) _
  | seek time => exact showFits_chaseAll (s := s.setClock _) (showFits_of_same law rfl rfl) _ _ rfl rfl
  | place a c sh p payload range new clash room late ready =>
    exact showFits_placeOn law (cueReady_of_unready (payloadFits_of_readPayload payload) ready)
  | amendWaiting a c q p range found payload waiting clash late ready =>
    exact showFits_amendWaiting law (cueReady_amended law (Store.find_some found).1 payload ready)
  | amendTaken a c q p range found payload taken free ready =>
    exact showFits_amendTaken law (cueReady_amended law (Store.find_some found).1 payload ready)
  | retire n c q => exact showFits_retireOn law c q
  | retirePassed time channel c => exact showFits_retirePassedOn law time c
  | group a n pump valve wind => exact showFits_acceptGroup law ..
  | node i => exact showFits_of_safeAtMost law (safeAtMost_writeNode i _ s)
  | dropNode n i => exact showFits_of_safeAtMost law (safeAtMost_dropNode i s)
  | define n first length loop k range empty inside apart =>
    refine showFits_setSegment law (unused_of_not_ready law (empty ▸ nofun)) (fun _ => ?_) (extentsApart_of_overlaps apart loop)
    simp only [extentInRange, Bool.and_eq_true, decide_eq_true_eq] at range
    obtain ⟨⟨⟨-, long⟩, -⟩, loops⟩ := range
    refine ⟨long, inside, fun l here => ?_⟩
    cases here
    simpa using loops
  | finish n k filling =>
    have full : s.play.segments[k].state ≠ .empty := filling ▸ nofun
    exact showFits_setSegment law (unused_of_not_ready law (filling ▸ nofun)) (fun _ => law.extents k full)
      fun j other _ => law.apart k j (Ne.symm other) full
  | reopen n k ready free =>
    have full : s.play.segments[k].state ≠ .empty := ready ▸ nofun
    exact showFits_setSegment law (unused_of_unreferenced law free) (fun _ => law.extents k full)
      fun j other _ => law.apart k j (Ne.symm other) full
  | dropSegment n k free =>
    exact showFits_setSegment law (unused_of_unreferenced law free) (fun full => absurd rfl full) fun j _ full => absurd rfl full
  | mode m f x k =>
    refine showFits_of law ?_ ?_ ?_ <;> rw [changeMode_frame]
    · rfl
    · exact law.cues
    · exact voicesFit_of_same law.voices rfl rfl rfl
  | format => exact showFits_of law rfl law.cues (voicesFit_of_same law.voices rfl rfl rfl)
  | supervision c =>
    obtain ⟨since, bound⟩ := applySupervision_bound c s
    refine showFits_of_safeAtMost (showFits_of_same law ?_ ?_) bound <;> rfl
  | forceSafe => exact showFits_of_safeAtMost law (safeAtMost_addCause .forced s)
  | clearSafe => exact showFits_of law rfl law.cues (voicesFit_of_same law.voices rfl rfl rfl)
  | restart =>
    have emptied := emptyShow_fits (s := restartLink s) (showFits_of_same law rfl rfl)
    exact showFits_restartClock (showFits_of_same emptied rfl rfl)
  | _ => exact showFits_of_same law rfl rfl

/-! ### Events -/

/-- The programme cue that a tick takes is handed to the voices (R52). -/
theorem takeDue_play (now : Nat) (s : State) : (takeDue now s).play =
    ((actingCue now s.store.timelines[programme]).map (s.play.handOver · now)).getD s.play := by
  unfold takeDue
  dsimp only
  generalize (Vector.ofFn _ : Vector (List Cue) 49) = tl
  generalize (Vector.ofFn _ : Vector ChannelRec 49) = recs
  cases actingCue now s.store.timelines[programme] <;> split_ifs <;> rfl

theorem showFits_takeDue (law : ShowFits s) (now : Nat) : ShowFits (takeDue now s) := by
  refine showFits_of_sameCues law (sameSamples_takeDue s now).1 (fun c => ?_) ?_
  · rw [takeDue_timelines]
    exact sameCues_tickTimeline ..
  · rw [takeDue_play]
    cases acting : actingCue now s.store.timelines[programme] with
    | none => exact law.voices
    | some a =>
      obtain ⟨before, after, split, -, -⟩ := actingCue_split acting
      have mem : a ∈ s.store.timelines[programme] := by rw [split]; simp
      exact voicesFit_handOver law.voices
        (fun k named => playable_of_ready law k ((law.cues programme a mem).2 k named)) now

theorem showFits_recordCompletions (law : ShowFits s) (now : Nat) : ShowFits (recordCompletions now s) := by
  refine showFits_of_sameCues law (by rw [recordCompletions_play]) (fun c => ?_) (by rw [recordCompletions_play]; exact law.voices)
  simp only [recordCompletions, State.setStore_store, Fin.getElem_fin, Vector.getElem_ofFn]
  refine sameCues_map (fun q => ?_) _
  split_ifs <;> rfl

theorem showFits_raise (c : Attention) (law : ShowFits s) : ShowFits (raise c s) :=
  showFits_of_same law (by rw [raise_store]) (raise_play c s)

theorem showFits_showTick (law : ShowFits s) : ShowFits (showTick s) := by
  have clock (k : Clock) : ShowFits (s.setClock k) := showFits_of_same law rfl rfl
  unfold showTick advanceShow
  dsimp only
  split_ifs
  · exact law
  · exact showFits_raise .showEnd (showFits_recordCompletions (clock _) _)
  · exact showFits_takeDue (clock _) _
  · exact clock _

theorem showFits_buildFrame (law : ShowFits s) : ShowFits (buildFrame s) := by
  have voices : VoicesFit (buildFrame s).play := by
    unfold buildFrame
    split
    · exact voicesFit_playFrame law.voices (playable_of_ready law) ..
    · exact voicesFit_safeFrame law.voices (playable_of_ready law) ..
    · exact voicesFit_of_same law.voices rfl rfl rfl
    · exact voicesFit_of_same law.voices rfl rfl rfl
  refine showFits_of law (sameSamples_buildFrame s).1 ?_ voices
  rw [buildFrame_frame]
  exact law.cues

theorem showFits_audioFrame (law : ShowFits s) : ShowFits (audioFrame s) := by
  have edge : ShowFits (if s.clock.mode = .follow then wordClockEdge s else s) := by
    split_ifs
    · exact showFits_of_same law rfl rfl
    · exact law
  exact showFits_of_same (showFits_buildFrame edge) (by rw [audioFrame, countFrame_store]) (by rw [audioFrame, countFrame_play])

theorem showFits_safeFadeEnd (law : ShowFits s) : ShowFits (safeFadeEnd s) := by
  unfold safeFadeEnd
  split_ifs
  · exact showFits_of law rfl law.cues (voicesFit_released rfl rfl)
  · exact law

theorem showFits_pinReset (cause : PinResetCause) (s : State) : ShowFits (pinReset cause s) := by
  refine showFits_of_safeAtMost (s := pinResetRecords cause s) ?_ (pinReset_bound cause s)
  have reset := (playbackLaw_iff.1 playbackLaw_reset).1
  cases cause <;> exact showFits_of reset rfl reset.cues (voicesFit_released rfl rfl)

theorem showFits_event {i : Instr} (h : EventDoes s i t) (law : ShowFits s) : ShowFits t := by
  cases h with
  | nothing => exact law
  | link => exact showFits_of_same law rfl rfl
  | written => exact showFits_of law rfl (by rw [finishLoad_store]; exact law.cues) (voicesFit_of_same law.voices rfl rfl rfl)
  | reset cause => exact showFits_pinReset cause s
  | audio => exact showFits_audioFrame law
  | tick => exact showFits_showTick law
  | segmentEnd v => rw [segmentEnd_of_fits law.voices]; exact law
  | fadeEnd => exact showFits_safeFadeEnd law
  | clockLoss =>
    unfold wordClockLoss
    split_ifs
    · refine showFits_of_safeAtMost (showFits_of_same law ?_ ?_) (safeAtMost_addCause _ _) <;> rfl
    · exact law
  | clockEdge => exact showFits_of_same law rfl rfl
  | field _ _ reach => exact showFits_of_safeAtMost law (safeAtMost_turnReach reach)
  | measured => exact showFits_of_same law rfl rfl
  | accepted _ k u =>
    exact showFits_of_safeAtMost (s := s.setSup u) (showFits_of_same law rfl rfl) (safeAtMost_acceptLevel k _)
  | estop => exact showFits_of_safeAtMost law (safeAtMost_estopFilterExpiry s)
  | silence =>
    obtain ⟨since, bound⟩ := silenceTimerExpiry_bound s
    refine showFits_of_safeAtMost (showFits_of_same law ?_ ?_) bound <;> rfl
  | light => rw [lightUpdate_frame]; exact showFits_of_same law rfl rfl
  | pwm => rw [pwmFrameBoundary_frame]; exact showFits_of_same law rfl rfl

/-! ### The load under way (R138) -/

theorem loadFits_of_same (load : LoadFits s) (state : t.link.state = s.link.state) (segments : t.play.segments = s.play.segments) :
    LoadFits t := by
  intro first frames writing
  rw [segments]
  exact load first frames (state ▸ writing)

theorem loadFits_event {i : Instr} (h : EventDoes s i t) (load : LoadFits s) : LoadFits t := by
  rcases event_link h with ⟨link, -⟩ | ⟨x, aside, rfl⟩ | ⟨first, frames, rfl⟩ | ⟨cause, -, rfl⟩
  · rcases event_samples h with ⟨segments, -⟩ | ⟨_, _, -, -, rfl⟩ | ⟨cause, rfl⟩
    · exact loadFits_of_same load (by rw [link]) segments
    · exact nofun
    · intro first frames writing
      rw [(pinReset_bound cause s).link] at writing
      cases writing
  · exact fun first frames writing => load first frames (aside.writing first frames writing)
  · exact nofun
  · intro first frames writing
    rw [(pinReset_bound cause s).link] at writing
    cases writing

/-- The frames of a LOAD FRAMES that has begun to write lie in its segment (R138). -/
theorem loadFits_begun {n offset count : Nat} {frames : List Frame} (h : OwnerDoes s (.loadFrames n offset count frames) t)
    (taken : s.link.state = .handling .taken) (length : frames.length = count) : LoadFits t := by
  cases h with
  | nothing => exact fun first frames writing => absurd (taken.symm.trans writing) nofun
  | load _ _ _ _ k filling room =>
    intro first frames' writing
    cases writing
    refine ⟨k, filling, Nat.le_add_right _ _, ?_⟩
    show s.play.segments[k].first + offset + frames.length ≤ s.play.segments[k].first + s.play.segments[k].length
    omega

theorem loadFits_owner {r : Request} {bytes : List Byte} (hr : r.wf = true) (due : Bool) (s : State) :
    LoadFits (setRowDue due (settle (handle r) (s.setLink (takenLink bytes r s)))) := by
  have does := handle_does r (s.setLink (takenLink bytes r s))
  rcases handle_answers r (s.setLink (takenLink bytes r s)) with ⟨reply, given, -⟩ | ⟨n, offset, count, frames, first, rfl, writes⟩
  · rw [settle_answer (Prod.ext rfl given)]
    exact nofun
  · rw [settle_writing writes]
    rw [writes] at does
    simp only [Request.wf, Bool.and_eq_true, decide_eq_true_eq] at hr
    exact loadFits_of_same (loadFits_begun does rfl hr.2) rfl rfl

end

/-! ### The queue -/

theorem owner_queue {r : Request} {s t : State} (h : OwnerDoes s r t) : t.pending = s.pending := by
  cases h with
  | start => simp
  | resume => rw [doReturnWork_pending, setRunning_pending]; split_ifs <;> simp
  | stop => simp
  | seek => simp
  | place => rw [placeOn_frame]
  | amendWaiting => rw [amendWaiting_frame]
  | amendTaken => rw [amendTaken_frame]
  | retire => rw [retireOn_frame]
  | retirePassed => rw [retirePassedOn_frame]
  | group a n pump valve wind => exact (acceptGroup_bound n _ s).elim fun st bound => bound.1.queue
  | node i => exact (safeAtMost_writeNode i _ s).queue
  | dropNode n i => exact (safeAtMost_dropNode i s).queue
  | mode m f x k => rw [State.setPlay_pending, changeMode_frame]
  | supervision c => exact (applySupervision_bound c s).elim fun since bound => bound.queue
  | forceSafe => exact (safeAtMost_addCause .forced s).queue
  | clearSafe => simp
  | restart => rw [restartClock_frame]; simp [restartTime, restartLink]
  | _ => rfl

theorem event_queue {i : Instr} {s t : State} (h : EventDoes s i t) : t.pending = s.pending := by
  cases h with
  | written => simp
  | reset cause => exact (pinReset_bound cause s).queue
  | audio => rw [audioFrame_frame]
  | tick => rw [showTick_frame]
  | segmentEnd v => rw [segmentEnd_frame]
  | fadeEnd => rw [safeFadeEnd_frame]
  | clockLoss => rw [onlySafe_wordClockLoss s]
  | field _ _ reach => exact (safeAtMost_turnReach reach).queue
  | accepted _ k u => exact (safeAtMost_acceptLevel k _).queue
  | estop => exact (safeAtMost_estopFilterExpiry s).queue
  | silence => rw [onlySafe_silenceTimerExpiry s]
  | light => rw [lightUpdate_frame]
  | pwm => rw [pwmFrameBoundary_frame]
  | _ => rfl

theorem exec_queue {i : Instr} {s t : State} (h : exec i s = .next t) : t.pending = s.pending := by
  cases exec_does h with
  | owner r bytes due free brings =>
    obtain ⟨x, e⟩ := settle_blocks (handle r) (s.setLink (takenLink bytes r s))
    rw [setRowDue_pending, e, State.setLink_pending]
    exact (owner_queue (handle_does r (s.setLink (takenLink bytes r s))) :)
  | event t does => exact event_queue does

/-! ### No fault and no refusal -/

/-- The frames that a load writes are in sample memory (R135, R137). -/
theorem writesExist_of_fits {s : State} {first : Nat} {frames : List Frame} (law : PlaybackLaw s)
    (writing : s.link.state = .handling (.writing first frames)) : writesExist first frames = true := by
  obtain ⟨k, filling, -, inside⟩ := law.load first frames writing
  obtain ⟨-, last, -⟩ := law.extents k (filling ▸ nofun)
  exact decide_eq_true (inside.trans last)

/-- Every command has a next state where the law holds. -/
theorem exec_next {s : State} (law : PlaybackLaw s) (i : Instr) : ∃ t, exec i s = .next t := by
  cases i
  case loadFramesWritten =>
    show ∃ t, execLoadFramesWritten s = .next t
    unfold execLoadFramesWritten
    split
    · next first frames writing =>
      rw [if_pos (writesExist_of_fits law writing)]
      exact ⟨_, rfl⟩
    · exact ⟨_, rfl⟩
  case audioFrame =>
    have exist := readsExist_of_fits (playbackLaw_iff.1 law).1.voices law.extents s.clock.showTime
    show ∃ t, execAudioFrame s = .next t
    unfold execAudioFrame
    rw [exist, Bool.not_true, Bool.and_false]
    exact ⟨_, rfl⟩
  all_goals exact ⟨_, rfl⟩

/-- The bytes of a SEND that are read as a request are those of a well-formed one (11.2). -/
theorem wf_of_sentRequest {bytes : List Byte} {r : Request} (h : sentRequest bytes = some r) : r.wf = true :=
  (requestBytesReadBack _ r (List.length_take_le _ _) (sentRequest_eq_some.1 h)).1

theorem playbackLaw_exec {i : Instr} {s t : State} (law : PlaybackLaw s) (wf : i.wf = true) (h : exec i s = .next t) :
    PlaybackLaw t := by
  obtain ⟨show_, load⟩ := playbackLaw_iff.1 law
  refine playbackLaw_iff.2 ?_
  cases exec_does h with
  | owner r bytes due free brings =>
    have hr : r.wf = true := by
      rcases brings with row | ⟨sent, -, read⟩
      · rw [Instr.wf, row, Bool.and_eq_true] at wf
        exact wf.1
      · exact wf_of_sentRequest read
    refine ⟨?_, loadFits_owner hr due s⟩
    obtain ⟨x, e⟩ := settle_blocks (handle r) (s.setLink (takenLink bytes r s))
    have owned : ShowFits (handle r (s.setLink (takenLink bytes r s))).1 :=
      showFits_owner (handle_does r _) (showFits_of_same show_ rfl rfl)
    rw [e]
    exact showFits_of_same owned rfl rfl
  | event t does => exact ⟨showFits_event does show_, loadFits_event does load⟩

/-- Settles O59: no fault by the frames of voices and loads, the law by what each owner and event does, and the queue's
rest is what waits. -/
theorem playbackLawKeptWithoutFaults : Obligations.PlaybackLawKeptWithoutFaults := by
  intro s law wf
  cases queue : s.pending with
  | nil =>
    refine ⟨s, ?_, law, wf⟩
    rw [step, queue]
  | cons c rest =>
    have law' : PlaybackLaw (s.withQueue rest) := ⟨law.extents, law.apart, law.cues, law.voice0, law.voice1, law.front, law.load⟩
    obtain ⟨t, next⟩ := exec_next law' c
    refine ⟨t, ?_, playbackLaw_exec law' (wf c (by simp [queue])) next, ?_⟩
    · rw [step, queue]
      exact next
    · rw [exec_queue next]
      exact fun d hd => wf d (by rw [queue]; exact List.mem_cons_of_mem c hd)

end Sys2Proof.Machine
end

section

/-! # Requests of the playback unit, RESTART and the pin reset (8.2, 8.5, 8.7, 9.7) -/

namespace Sys2Proof.Machine

open Sys2Proof.Safety

/-! ### DEFINE, REOPEN and DROP SEGMENT (R137, R140) -/

theorem defineSegment_wf {n first length : Nat} {loop : Option Nat} (hn : n < 256) (hf : first < 33554432)
    (hl : length ≤ 33554432) (hp : ∀ l, loop = some l → l < length) : (Request.defineSegment n first length loop).wf = true := by
  have loops : loop.all (fun v => decide (v < 4294967295)) = true := by
    cases loop with
    | none => rfl
    | some l =>
      have := hp l rfl
      rw [Option.all_some, decide_eq_true_iff]
      omega
  rw [Request.wf, loops]
  simp [fits]
  omega

theorem extentInRange_iff {first length : Nat} {loop : Option Nat} : extentInRange first length loop = true ↔
    first < 33554432 ∧ 1 ≤ length ∧ length ≤ 33554432 ∧ ∀ l, loop = some l → l < length := by
  have loops : loop.all (fun l => decide (l < length)) = true ↔ ∀ l, loop = some l → l < length := by
    cases loop <;> simp
  rw [extentInRange, Bool.and_eq_true, loops, ← and_assoc, ← and_assoc]
  simp only [Bool.and_eq_true, decide_eq_true_iff, and_assoc]
  rfl

theorem ownDefineSegment_out {n first length : Nat} {loop : Option Nat} (s : State) (h : 64 ≤ n ∨ 33554432 ≤ first ∨ length = 0 ∨
    33554432 < length ∨ ∃ l, loop = some l ∧ length ≤ l) : ownDefineSegment n first length loop s = refuse .outOfRange s := by
  unfold ownDefineSegment
  split
  · rfl
  · next k index =>
    have small : n < 64 := by rw [fin?_eq_some.1 index]; exact k.isLt
    refine if_pos ?_
    rw [Bool.not_eq_true', ← Bool.not_eq_true, extentInRange_iff]
    rintro ⟨hf, long, hl, loops⟩
    rcases h with h | h | h | h | ⟨l, here, beyond⟩
    · omega
    · omega
    · omega
    · omega
    · exact absurd (loops l here) (Nat.not_lt.2 beyond)

theorem overlapsAnother_iff {s : State} {k : Fin 64} {first length : Nat} : overlapsAnother s k first length = true ↔
    ∃ j : Fin 64, j ≠ k ∧ s.play.segments[j].state ≠ .empty ∧
      first < s.play.segments[j].first + s.play.segments[j].length ∧ s.play.segments[j].first < first + length := by
  simp only [overlapsAnother, List.any_eq_true, List.mem_finRange, true_and, Bool.and_eq_true, bne_iff_ne, decide_eq_true_eq,
    and_assoc]

/-- Some PLAY cue names the segment or some voice plays it (R136). -/
theorem isReferenced_iff {s : State} {k : Fin 64} : isReferenced s k = true ↔
    (∃ q ∈ s.store.timelines[programme], q.payload.segment? = some k) ∨
      ∃ v ∈ [s.play.v0, s.play.v1], v.state ≠ .idle ∧ v.segment = some k := by
  have plays (v : Voice) : bitNat (v.plays k) ≠ 0 ↔ v.state ≠ .idle ∧ v.segment = some k := by
    rw [Voice.plays, Voice.sounding]
    cases v.state <;> cases named : v.segment == some k <;> simp_all [bitNat]
  have cues : cueReferences s k ≠ 0 ↔ ∃ q ∈ s.store.timelines[programme], q.payload.segment? = some k := by
    rw [cueReferences, playCues, ← Nat.pos_iff_ne_zero, List.countP_pos_iff]
    simp only [beq_iff_eq]
  rw [isReferenced, bne_iff_ne, voiceReferences, ← cues]
  simp only [List.mem_cons, List.not_mem_nil, or_false, exists_eq_or_imp, exists_eq_left, ← plays]
  omega

/-- A request on one segment that is out of the range of segments is refused. -/
theorem owned_segment_out {own : Nat → State → Owned} {n : Nat} {s : State} (h : 64 ≤ n)
    (own_none : fin? 64 n = none → own n s = refuse .outOfRange s) : own n s = refuse .outOfRange s :=
  own_none (fin?_eq_none.2 h)

theorem ownDefineSegment_in {k : Fin 64} {first length : Nat} {loop : Option Nat} (s : State)
    (h : extentInRange first length loop = true) : ownDefineSegment k.val first length loop s =
      if s.play.segments[k].state ≠ .empty then refuse .wrongState s
      else if 33554432 < first + length then refuse .outOfRange s
      else if overlapsAnother s k first length then refuse .overlap s
      else done [] (setSegment k { state := .filling, first := first, length := length, loopStart := loop } s) := by
  rw [ownDefineSegment, fin?_val]
  exact if_neg (by rw [h]; nofun)

theorem ownReopenSegment_at (k : Fin 64) (s : State) : ownReopenSegment k.val s =
    if s.play.segments[k].state = .empty then refuse .noSuch s
    else if isReferenced s k then refuse .referenced s
    else if s.play.segments[k].state = .filling then refuse .wrongState s
    else done [] (setSegment k { s.play.segments[k] with state := .filling } s) := by
  rw [ownReopenSegment, fin?_val]

theorem ownDropSegment_at (k : Fin 64) (s : State) : ownDropSegment k.val s =
    if s.play.segments[k].state = .empty then refuse .noSuch s
    else if isReferenced s k then refuse .referenced s
    else done [] (setSegment k Segment.emptyRecord s) := by
  rw [ownDropSegment, fin?_val]

/-- What the row of a request leaves where its owner has left `o`. -/
def settled (r : Request) (o : Owned) : State :=
  match o.2 with
  | none => o.1
  | some reply => o.1.setLink { o.1.link with
      state := .handling (.finished { echo := BitVec.ofNat 8 r.code, status := reply.status, data := reply.data }) }

section
variable {i : Instr} {r : Request} {s : State}

theorem exec_settled (hi : i.request? = some r) (hf : LinkFree s) (hr : r.wf = true) :
    exec i s = .next (settled r (handle r (withRequest r s))) := by
  have held := handle_request r (withRequest r s)
  generalize owned : handle r (withRequest r s) = o at held ⊢
  obtain ⟨t, _ | ⟨st, data⟩⟩ := o
  · rw [exec_request hi, issue_wf _ hf hr, settle, owned]
    rfl
  · exact exec_settles hi hf hr owned

theorem settled_refuse (r : Request) (st : Status) (s : State) :
    settled r (refuse st (withRequest r s)) = { s with link := linkWithAnswer r st [] s } := rfl

end

/-- Settles O45: the three owners' checks in their order. -/
theorem segmentRequestsKeepTheirChecks : Obligations.SegmentRequestsKeepTheirChecks := by
  refine ⟨fun s n first length loop hf => ⟨fun hr h => ?_, fun out hn => ⟨?_, ?_⟩⟩, fun s k hf => ?_⟩
  · exact exec_refuses rfl hf hr (ownDefineSegment_out _ h)
  · exact exec_refuses rfl hf (decide_eq_true hn) (owned_segment_out (own := ownReopenSegment) out fun none => by
      rw [ownReopenSegment, none])
  · exact exec_refuses rfl hf (decide_eq_true hn) (owned_segment_out (own := ownDropSegment) out fun none => by
      rw [ownDropSegment, none])
  have bound : k.val < 256 := by omega
  have small : decide (k.val < 256 ^ 1) = true := decide_eq_true bound
  refine ⟨?_, ?_, ?_, ?_⟩
  · intro first length loop hfirst long hl loops
    have hr := defineSegment_wf bound hfirst hl loops
    rw [exec_settled rfl hf hr, show handle (.defineSegment k.val first length loop) _ = _ from
      ownDefineSegment_in _ (extentInRange_iff.2 ⟨hfirst, long, hl, loops⟩)]
    simp only [overlapsAnother_iff, apply_ite (settled _)]
    rfl
  · intro empty
    exact ⟨exec_refuses rfl hf small ((ownReopenSegment_at k _).trans (if_pos empty)),
      exec_refuses rfl hf small ((ownDropSegment_at k _).trans (if_pos empty))⟩
  · intro full referenced
    have named : isReferenced s k = true := isReferenced_iff.2 referenced
    exact ⟨exec_refuses rfl hf small ((ownReopenSegment_at k _).trans ((if_neg full).trans (if_pos named))),
      exec_refuses rfl hf small ((ownDropSegment_at k _).trans ((if_neg full).trans (if_pos named)))⟩
  · intro full free
    have free : ¬isReferenced s k = true := fun named => free (isReferenced_iff.1 named)
    constructor
    · rw [exec_settled (r := .reopenSegment k.val) rfl hf small, show handle (.reopenSegment k.val) (withRequest (.reopenSegment k.val) s) = _ from
        (ownReopenSegment_at k _).trans ((if_neg full).trans (if_neg free))]
      simp only [apply_ite (settled _)]
      rfl
    · exact exec_answers (r := .dropSegment k.val) rfl hf small ((ownDropSegment_at k _).trans ((if_neg full).trans (if_neg free))) rfl

/-! ### SET AUDIO and the playback ends (R36, R147, R149, R151) -/

theorem clockMode?_code (m : ClockMode) : clockMode? m.code = some m := by cases m <;> rfl

theorem outputFormat?_code (f : OutputFormat) : outputFormat? f.code = some f := by cases f <;> rfl

theorem clockMode?_eq_none {m : Nat} (h : 2 ≤ m) : clockMode? m = none := by
  unfold clockMode?
  split
  · omega
  · omega
  · rfl

theorem outputFormat?_eq_none {f : Nat} (h : 2 ≤ f) : outputFormat? f = none := by
  unfold outputFormat?
  split
  · omega
  · omega
  · rfl

theorem setAudio_wf {m f : Nat} (hm : m < 256) (hf : f < 256) : (Request.setAudio m f).wf = true :=
  Bool.and_eq_true_iff.2 ⟨decide_eq_true hm, decide_eq_true hf⟩

theorem ownSetAudio_out {m f : Nat} (s : State) (h : 2 ≤ m ∨ 2 ≤ f) : ownSetAudio m f s = refuse .outOfRange s := by
  unfold ownSetAudio
  split
  · next known shown =>
    rcases h with h | h
    · rw [clockMode?_eq_none h] at known; cases known
    · rw [outputFormat?_eq_none h] at shown; cases shown
  · rfl

theorem ownSetAudio_same {m : ClockMode} (f : OutputFormat) {s : State} (same : m = s.clock.mode) :
    ownSetAudio m.code f.code s = done [] (s.setPlay { s.play with format := f }) := by
  simp only [ownSetAudio, clockMode?_code, outputFormat?_code]
  rw [if_neg fun h => h.1 same, if_pos same]

theorem ownSetAudio_busy {m : ClockMode} (f : OutputFormat) {s : State} (other : m ≠ s.clock.mode)
    (busy : s.clock.state ≠ .stopped) : ownSetAudio m.code f.code s = refuse .wrongState s := by
  simp only [ownSetAudio, clockMode?_code, outputFormat?_code]
  exact if_pos ⟨other, busy⟩

theorem ownSetAudio_changes {m : ClockMode} (f : OutputFormat) {s : State} (other : m ≠ s.clock.mode)
    (stopped : s.clock.state = .stopped) :
    ownSetAudio m.code f.code s = done [] ((changeMode m s).setPlay { (changeMode m s).play with format := f }) := by
  simp only [ownSetAudio, clockMode?_code, outputFormat?_code]
  rw [if_neg fun h => h.2 stopped, if_neg other]

/-- The worked-out multiplier is 0 where it was so before, or once the fade has run (R149). -/
theorem nextMultiplier_eq_zero {p : Playback} : p.nextMultiplier = 0 ↔
    p.multiplier = 0 ∨ 1000 ≤ 1000 * p.fadeCount / (48 * p.fadeLength) := by
  unfold Playback.nextMultiplier safeMultiplier
  split_ifs with zero
  · exact iff_of_true rfl (.inl zero)
  · rw [or_iff_right zero, Nat.sub_eq_zero_iff_le]

theorem voicesRead_iff {s : State} : voicesRead s = true ↔
    s.clock.state = .running ∨ (s.clock.state = .safe ∧ ¬s.play.nextMultiplier = 0 ∧ s.clock.safeOrigin ≠ .paused) := by
  unfold voicesRead
  cases s.clock.state <;> simp

theorem sounding_iff {v : Voice} : v.sounding = true ↔ v.state ≠ .idle := bne_iff_ne

/-- SEGMENT_END of a voice with a segment (R147). -/
theorem segmentEnd_eq {id : VoiceId} {s : State} {k : Fin 64} (named : (s.play.voice id).segment = some k) :
    segmentEnd id s = if voicesRead s ∧ (s.play.voice id).sounding ∧ s.play.segments[k].length ≤ (s.play.voice id).position then
      s.setPlay (s.play.setVoice id ((s.play.voice id).atSegmentEnd s.play.segments[k])) else s := by
  simp only [segmentEnd, named]

/-- Settles O48: SET AUDIO by its codes, and the two ends by the conditions they check. -/
theorem setAudioAndPlaybackEndsAct : Obligations.SetAudioAndPlaybackEndsAct := by
  refine ⟨fun m f s hf => ?_, fun m f s hf hm hn out => exec_refuses rfl hf (setAudio_wf hm hn) (ownSetAudio_out _ out),
    fun s => ?_⟩
  · have hr : (Request.setAudio m.code f.code).wf = true := setAudio_wf (by cases m <;> decide) (by cases f <;> decide)
    refine ⟨fun same => ?_, fun other busy => ?_, fun other stopped follow => ?_, fun other stopped master => ?_⟩
    · exact exec_answers rfl hf hr (ownSetAudio_same f (show m = (withRequest _ s).clock.mode from same)) rfl
    · exact exec_refuses rfl hf hr (ownSetAudio_busy f (show m ≠ (withRequest _ s).clock.mode from other) busy)
    · subst follow
      exact exec_answers rfl hf hr (ownSetAudio_changes f (show _ ≠ (withRequest _ s).clock.mode from other) stopped) rfl
    · subst master
      exact exec_answers rfl hf hr (ownSetAudio_changes f (show _ ≠ (withRequest _ s).clock.mode from other) stopped) rfl
  · dsimp only
    rw [← nextMultiplier_eq_zero, ← voicesRead_iff]
    refine ⟨fun id k named => ?_, fun safe ended => ?_, fun h => ?_⟩
    · rw [← sounding_iff]
      exact ⟨fun atEnd => congrArg Host.Outcome.next ((segmentEnd_eq named).trans (if_pos atEnd)),
        fun before => congrArg Host.Outcome.next ((segmentEnd_eq named).trans (if_neg before))⟩
    · exact congrArg Host.Outcome.next (if_pos ⟨safe, ended⟩)
    · refine congrArg Host.Outcome.next (if_neg fun ⟨safe, ended⟩ => ?_)
      exact h.elim (fun outside => outside safe) (fun going => going ended)

/-! ### RESTART (R162) -/

/-- The clock after RESTART, once the latched causes are cleared (R40, R118). -/
theorem restartClock_eq (s : State) : restartClock s = { s with
    clock := { s.clock with
      state := if s.clock.state = .safe ∧ conditionPresent s then .safe else .stopped
      safeOrigin := if s.clock.state = .safe ∧ conditionPresent s then .stopped else s.clock.safeOrigin
      returnPending := if s.clock.state = .safe then true else s.clock.returnPending }
    play := { s.play with
      multiplier := if s.clock.state = .safe ∧ ¬conditionPresent s then 1000 else s.play.multiplier
      fadeCount := if s.clock.state = .safe ∧ ¬conditionPresent s then 0 else s.play.fadeCount } } := by
  unfold restartClock
  by_cases safe : s.clock.state = .safe
  · by_cases present : conditionPresent s = true
    · simp [safe, present, State.setClock]
    · simp only [safe, present, ne_eq, not_true_eq_false, if_true, if_false]
      rfl
  · simp only [safe, ne_eq, not_false_eq_true, false_and, if_true, if_false]
    rfl

/-- Clearing the latched causes leaves the conditions as they were (R114). -/
theorem conditions_clearLatched (causes : BitVec 6) :
    ((causes &&& ~~~latchedCauses &&& conditionCauses) != 0) = ((causes &&& conditionCauses) != 0) := by
  revert causes
  decide

/-- Settles O51: the owner's actions one after the other. -/
theorem restartEmptiesTheShow : Obligations.RestartEmptiesTheShow := by
  intro s hf
  simp only [← conditionPresent_iff]
  have present : conditionPresent (clearLatched (restartTime (emptyShow (restartLink (withRequest .restart s))))) =
      conditionPresent s := conditions_clearLatched s.sup.causes
  have owned : handle .restart (withRequest .restart s) = done [] _ :=
    congrArg (done []) (restartClock_eq _)
  simp only [present] at owned
  rw [exec_settled rfl hf rfl, owned]
  rfl

/-! ### The pin reset (R118, R154) -/

theorem addCause_enters {c : SafeCause} {s : State} (absent : c.memberOf s.sup.causes = false) (outside : s.clock.state ≠ .safe) :
    addCause c s = enterSafe (s.setSup { s.sup with causes := s.sup.causes ||| c.bit }) := by
  rw [addCause, if_neg (absent ▸ nofun)]
  exact if_neg outside

theorem addCause_joins {c : SafeCause} {s : State} (absent : c.memberOf s.sup.causes = false) (safe : s.clock.state = .safe) :
    addCause c s = s.setSup { s.sup with causes := s.sup.causes ||| c.bit, seen := s.sup.seen ||| c.bit } := by
  rw [addCause, if_neg (absent ▸ nofun)]
  exact if_pos safe

/-- The causes of the two inputs (R107, R108). -/
def inputCauses (stops dry : Bool) : BitVec 6 :=
  (if stops then SafeCause.eStop.bit else 0) ||| (if dry then SafeCause.lowLow.bit else 0)

/-- The two conditions of a pin reset, one after the other, enter SAFE once with both in both cause sets (R112, R118). -/
theorem addCauses_of_calm {s : State} (calm : s.sup.causes = 0) (outside : s.clock.state ≠ .safe) (stops dry : Bool) :
    (if dry then addCause .lowLow (if stops then addCause .eStop s else s) else if stops then addCause .eStop s else s) =
      if stops || dry then enterSafe (s.setSup { s.sup with causes := inputCauses stops dry }) else s := by
  have first (c : SafeCause) : addCause c s = enterSafe (s.setSup { s.sup with causes := c.bit }) := by
    have absent : c.memberOf s.sup.causes = false := by rw [calm]; cases c <;> rfl
    have alone : 0 ||| c.bit = c.bit := BitVec.zero_or
    rw [addCause_enters absent outside, calm, alone]
  cases stops with
  | false =>
    cases dry with
    | false => rfl
    | true => exact first .lowLow
  | true =>
    cases dry with
    | false => exact first .eStop
    | true =>
      simp only [if_true, first]
      have absent : SafeCause.lowLow.memberOf SafeCause.eStop.bit = false := by decide
      exact addCause_joins absent rfl

/-- What the pin reset leaves: the records, and SAFE where an input is active (R118, R154). -/
theorem pinReset_eq (cause : PinResetCause) (s : State) : pinReset cause s =
    if !s.sup.estop.high || s.sup.lowLow.high then
      enterSafe ((pinResetRecords cause s).setSup { (pinResetRecords cause s).sup with
        causes := inputCauses (!s.sup.estop.high) s.sup.lowLow.high })
    else pinResetRecords cause s := by
  have stop : (pinResetRecords cause s).sup.estop.active = !s.sup.estop.high := levelActive_false _
  have dry : (pinResetRecords cause s).sup.lowLow.active = s.sup.lowLow.high := levelActive_true _
  rw [pinReset, stop, dry]
  exact addCauses_of_calm rfl ClockState.noConfusion _ _

theorem inputCauses_not (a b : Bool) : inputCauses (!a) b =
    (if a = false then SafeCause.eStop.bit else 0) ||| (if b = true then SafeCause.lowLow.bit else 0) := by
  cases a <;> rfl

theorem memoryAtReset_free {s : State} (hf : LinkFree s) : memoryAtReset s = s.play.memory := by
  rcases hf with idle | ready
  · rw [memoryAtReset, idle]
  · rw [memoryAtReset, ready]

theorem playAfterReset_eq (cause : PinResetCause) (s : State) : playAfterReset cause s = { Playback.reset with
    memory := (playAfterReset cause s).memory, memoryEpoch := (playAfterReset cause s).memoryEpoch } := by
  cases cause <;> rfl

/-- Settles O52: the records of the reset, and the one entry into SAFE that an active input makes. -/
theorem pinResetRestoresEveryRecord : Obligations.PinResetRestoresEveryRecord := by
  intro cause s
  refine ⟨pinReset cause s, rfl, ?_⟩
  have memory : (LinkFree s → cause = .resetLine → (playAfterReset cause s).memory = s.play.memory ∧
      (playAfterReset cause s).memoryEpoch = s.play.memoryEpoch) ∧
      (cause = .powerOn → (playAfterReset cause s).memory = [] ∧ (playAfterReset cause s).memoryEpoch = s.play.memoryEpoch + 1) :=
    ⟨fun hf e => e ▸ ⟨memoryAtReset_free hf, rfl⟩, fun e => e ▸ ⟨rfl, rfl⟩⟩
  have lines (l : Line) : FieldLines.reset.line l = LineRec.reset := by cases l <;> rfl
  have idle (l : Line) (k : Nat) : (FieldLines.reset.line l).transmit k = idleLevel ∧ (FieldLines.reset.line l).driverActive k = false := by
    rw [lines]
    exact ⟨transmit_reset k, driverActive_reset k⟩
  have levels : s.sup.loaded s.now = { Supervision.reset with
      low := { high := s.sup.low.high, active := s.sup.low.high, since := s.now }
      lowLow := { high := s.sup.lowLow.high, active := s.sup.lowLow.high, since := s.now }
      estop := { high := s.sup.estop.high, active := !s.sup.estop.high, since := s.now } } := by
    simp only [Supervision.loaded, FilteredInput.load, levelActive_true, levelActive_false]
  dsimp only
  rw [pinReset_eq, ← inputCauses_not]
  by_cases active : s.sup.estop.high = false ∨ s.sup.lowLow.high = true
  · have either : (!s.sup.estop.high || s.sup.lowLow.high) = true := by simpa using active
    simp only [if_pos active, if_pos either]
    refine ⟨rfl, rfl, rfl, rfl, idle, rfl, rfl, rfl, rfl, ?_, rfl, ?_, memory.1, memory.2, ?_⟩
    · exact congrArg (fun u : Supervision => { u with
        causes := inputCauses (!s.sup.estop.high) s.sup.lowLow.high
        seen := inputCauses (!s.sup.estop.high) s.sup.lowLow.high }) levels
    · show Playback.beginSafeFade (playAfterReset cause s) 2000 = _
      rw [playAfterReset_eq]
      rfl
    · have raised : 0 ||| Attention.safeEntered.bit = Attention.safeEntered.bit := by decide
      rw [← raised]
      cases cause <;> rfl
  · have neither : ¬(!s.sup.estop.high || s.sup.lowLow.high) = true := by simpa using active
    have calm : inputCauses (!s.sup.estop.high) s.sup.lowLow.high = 0 := by
      revert neither
      cases s.sup.estop.high <;> cases s.sup.lowLow.high <;> decide
    simp only [if_neg active, if_neg neither, calm]
    refine ⟨rfl, rfl, rfl, rfl, idle, rfl, rfl, rfl, rfl, levels, rfl, ?_, memory.1, memory.2, ?_⟩
    · exact playAfterReset_eq cause s
    · cases cause <;> rfl

end Sys2Proof.Machine
end

section

/-! # LOAD FRAMES, the audio frame and the wires (5.2, 8.2, 8.5, 8.6) -/

namespace Sys2Proof.Machine

open Sys2Proof.Safety

/-! ### Sample memory as bytes and frames (R135, 11.6) -/

/-- The last frame of a load in memory. -/
def Playback.withFrames (p : Playback) (first : Nat) (frames : List Frame) : Playback :=
  { p with memory := memWriteFrames p.memory first frames }

theorem byteAt_withFrames_inside (p : Playback) {first j : Nat} {frames : List Frame} {f : Frame} (here : frames[j]? = some f)
    {place : Nat} (small : place < 4) : (p.withFrames first frames).byteAt (4 * (first + j) + place) = frameByte f place := by
  have quot : (4 * (first + j) + place) / 4 = first + j := by omega
  have rem : (4 * (first + j) + place) % 4 = place := by omega
  have index : first + j - first = j := by omega
  simp only [Playback.byteAt, Playback.withFrames, memRead_memWriteFrames, quot, rem, index, here]
  rw [if_pos (Nat.le_add_right first j)]

theorem byteAt_withFrames_outside (p : Playback) {first a : Nat} {frames : List Frame}
    (outside : a < 4 * first ∨ 4 * (first + frames.length) ≤ a) : (p.withFrames first frames).byteAt a = p.byteAt a := by
  have same : memRead (memWriteFrames p.memory first frames) a = memRead p.memory a := by
    rw [memRead_memWriteFrames]
    rcases outside with below | above
    · cases frames[a / 4 - first]? with
      | none => rfl
      | some f => exact if_neg (by omega)
    · rw [List.getElem?_eq_none (by omega)]
  exact congrArg (fun b : Option Byte => match b with | some b => b | none => Config.powerOnByte p.memoryEpoch a) same

/-- A 16-bit sample is its high byte before its low byte (11.6). -/
theorem append_bytes (x : Sample) : x.extractLsb' 8 8 ++ x.extractLsb' 0 8 = x := by
  ext k hk
  rw [BitVec.getElem_append]
  split_ifs with low
  · simp [BitVec.getLsbD_eq_getElem hk]
  · have back : 8 + (k - 8) = k := by omega
    simp [back, BitVec.getLsbD_eq_getElem hk]

theorem frameAt_withFrames (p : Playback) {first j : Nat} {frames : List Frame} {f : Frame} (here : frames[j]? = some f) :
    (p.withFrames first frames).frameAt (first + j) = f := by
  have low : (p.withFrames first frames).byteAt (4 * (first + j)) = frameByte f 0 :=
    byteAt_withFrames_inside p here (place := 0) (by decide)
  simp only [Playback.frameAt, low, byteAt_withFrames_inside p here (place := 1) (by decide),
    byteAt_withFrames_inside p here (place := 2) (by decide), byteAt_withFrames_inside p here (place := 3) (by decide)]
  rw [show frameByte f 0 = f.left.extractLsb' 0 8 from rfl, show frameByte f 1 = f.left.extractLsb' 8 8 from rfl,
    show frameByte f 2 = f.right.extractLsb' 0 8 from rfl, show frameByte f 3 = f.right.extractLsb' 8 8 from rfl,
    append_bytes, append_bytes]

/-! ### LOAD FRAMES (R138) -/

theorem ownLoadFrames_out {n offset count : Nat} (frames : List Frame) (s : State) (h : 64 ≤ n ∨ count = 0 ∨ 33554432 ≤ offset) :
    ownLoadFrames n offset count frames s = refuse .outOfRange s := by
  unfold ownLoadFrames
  split
  · rfl
  · next k index =>
    have small : n < 64 := by rw [fin?_eq_some.1 index]; exact k.isLt
    refine if_pos ?_
    rcases h with h | h | h
    · omega
    · exact .inl h
    · exact .inr (.inr h)

theorem ownLoadFrames_in {offset count : Nat} (k : Fin 64) (frames : List Frame) (s : State) (some_ : 1 ≤ count) (few : count ≤ 256)
    (inside : offset < 33554432) : ownLoadFrames k.val offset count frames s =
      if s.play.segments[k].state = .empty then refuse .noSuch s
      else if s.play.segments[k].state = .ready then refuse .protected_ s
      else if s.play.segments[k].length < offset + count then refuse .outOfRange s
      else (s.setLink { s.link with state := .handling (.writing (s.play.segments[k].first + offset) frames) }, none) := by
  have range : ¬(count = 0 ∨ 256 < count ∨ Config.memoryFrames ≤ offset) := by
    rintro (h | h | h)
    · omega
    · omega
    · exact absurd h (Nat.not_le.2 inside)
  simp only [ownLoadFrames, fin?_val, if_neg range]
  cases s.play.segments[k].state <;> rfl

/-- A LOAD FRAMES of more than 256 frames is longer than the bytes that the link keeps (R155, R164). -/
theorem parseRequest_loadFrames_long {rest : List Byte} (long : 256 < field (rest.drop 2) 5 2) :
    parseRequest ((0x39#8 :: rest).take Config.largestRequest) = .error .badLength := by
  have kept : ((0x39#8 :: rest).take Config.largestRequest).drop 3 = (rest.drop 2).take 1037 := by
    rw [List.drop_take]
    rfl
  have count : field ((rest.drop 2).take 1037) 5 2 = field (rest.drop 2) 5 2 := by
    rw [field, List.drop_take, List.take_take]
    rfl
  have code : field ((0x39#8 :: rest).take Config.largestRequest) 0 1 = 0x39 := field_code 0x39#8 (rest.take 1039)
  refine parseRequest_badLength (n := 13 + 4 * field (rest.drop 2) 5 2) ?_ ?_
  · rw [code, kept, requiredLength, count]
  · rw [kept]
    have few : ((rest.drop 2).take 1037).length ≤ 1037 := List.length_take_le ..
    omega

/-- Settles O47: the owner's checks, the link's length check, and the memory after the last frame. -/
theorem loadedFramesStandInMemory : Obligations.LoadedFramesStandInMemory := by
  refine ⟨fun n offset count frames s hf hr out => exec_refuses rfl hf hr (ownLoadFrames_out frames _ out), fun rest s hf long => ?_,
    fun k offset count frames s hf some_ few len inside => ?_, fun first frames s writing => ⟨fun fits => ?_, fun beyond => ?_⟩⟩
  · have parsed := parseRequest_loadFrames_long long
    refine ⟨_, exec_sendFrame _ s, ?_⟩
    rw [sendFrame_not_parsed hf parsed, takeRequest_badLength parsed]
    rfl
  · have hr : (Request.loadFrames k.val offset count frames).wf = true := loadFrames_index_wf k few len inside
    rw [exec_settled rfl hf hr, show handle (.loadFrames k.val offset count frames) _ = _ from
      ownLoadFrames_in k frames _ some_ few inside]
    have play : (withRequest (.loadFrames k.val offset count frames) s).play = s.play := rfl
    simp only [apply_ite (settled _), play]
    split_ifs <;> rfl
  · have exists_ : writesExist first frames = true := decide_eq_true fits
    refine ⟨finishLoad first frames s, ?_, rfl, fun j f here => frameAt_withFrames s.play here,
      fun a outside => byteAt_withFrames_outside s.play outside⟩
    show execLoadFramesWritten s = _
    rw [execLoadFramesWritten, writing]
    exact if_pos exists_
  · have absent : writesExist first frames ≠ true := fun h => absurd (of_decide_eq_true h) (Nat.not_le.2 beyond)
    show execLoadFramesWritten s = _
    rw [execLoadFramesWritten, writing]
    exact if_neg absent

/-! ### The audio frame (R142, R146, R147, R149) -/

/-- R142: the voice is released at this frame. -/
abbrev Voice.GoesOut (v : Voice) (now : Nat) : Prop := v.releaseAtZero = true ∧ v.gainAt now = 0

/-- What one voice puts into one side of the mix (R146 steps 1 and 2). -/
def Playback.part (p : Playback) (now : Nat) (v : Voice) (side : Frame → Sample) (scale : Nat) : Int :=
  match v.segment with
  | none => 0
  | some k => if v.state = .idle ∨ v.GoesOut now then 0 else
    Int.tdiv (Int.tdiv ((side (p.frameAt (p.segments[k].first + v.position))).toInt * v.gainAt now) 1000 * scale) 1000

/-- Where a frame that sounds leaves a voice (R142, R147). -/
def Playback.voiceAfter (p : Playback) (now : Nat) (v : Voice) : Voice :=
  match v.segment with
  | none => v
  | some k =>
    if v.state = .idle then v
    else if v.GoesOut now then Voice.released
    else if v.position + 1 < p.segments[k].length then { v with position := v.position + 1 }
    else match p.segments[k].loopStart with
      | some l => { v with position := l }
      | none => Voice.released

section
variable {p : Playback} {v : Voice} {now : Nat}

theorem releaseIfZero_out (sounds : v.state ≠ .idle) (out : v.GoesOut now) : v.releaseIfZero now = Voice.released := by
  simp [Voice.releaseIfZero, Voice.sounding, sounds, out.1, out.2]

theorem releaseIfZero_stays (stays : v.state = .idle ∨ ¬v.GoesOut now) : v.releaseIfZero now = v := by
  refine if_neg fun h => ?_
  simp only [Bool.and_eq_true, beq_iff_eq, Voice.sounding, bne_iff_ne] at h
  obtain ⟨⟨sounds, mark⟩, zero⟩ := h
  exact stays.elim sounds (fun out => out ⟨mark, zero⟩)

/-- A silent sample stays silent under every gain. -/
theorem scaled_zero (gain scale : Nat) : scaled 0 gain scale = 0 := by
  simp [scaled]

theorem scaled_of_idle (idle : v.state = .idle) {side : Frame → Sample} (silent : side Frame.silence = 0) (gain scale : Nat) :
    scaled (side (p.voiceFrame v)) gain scale = 0 := by
  have frame : p.voiceFrame v = Frame.silence := if_neg (by rw [Voice.sounding, idle]; nofun)
  rw [frame, silent, scaled_zero]

/-- The model's share of a voice that keeps its law is the spec's (R146). -/
theorem scaled_eq_part (fits : VoiceFits p v) {side : Frame → Sample} (silent : side Frame.silence = 0) (scale : Nat) :
    scaled (side ((p.releaseZero now).voiceFrame (v.releaseIfZero now))) ((v.releaseIfZero now).gainAt now) scale =
      p.part now v side scale := by
  by_cases idle : v.state = .idle
  · have none_ : p.part now v side scale = 0 := by
      unfold Playback.part
      split
      · rfl
      · exact if_pos (.inl idle)
    rw [releaseIfZero_stays (.inl idle), scaled_of_idle idle silent, none_]
  · obtain ⟨k, segment, -⟩ := fits idle
    simp only [Playback.part, segment]
    by_cases out : v.GoesOut now
    · rw [releaseIfZero_out idle out, scaled_of_idle rfl silent, if_pos (.inr out)]
    · have frame : (p.releaseZero now).voiceFrame v = p.frameAt (p.segments[k].first + v.position) := by
        rw [Playback.voiceFrame, if_pos (sounding_iff.2 idle), Playback.voiceIndex, segment]
        rfl
      rw [releaseIfZero_stays (.inr out), if_neg (not_or.2 ⟨idle, out⟩), frame]
      rfl

theorem advance_eq_voiceAfter (fits : VoiceFits p v) :
    (p.releaseZero now).advanceVoice (v.releaseIfZero now) = p.voiceAfter now v := by
  by_cases idle : v.state = .idle
  · have held : p.voiceAfter now v = v := by
      unfold Playback.voiceAfter
      split
      · rfl
      · exact if_pos idle
    rw [releaseIfZero_stays (.inl idle), held, Playback.advanceVoice, idle]
  · obtain ⟨k, segment, -⟩ := fits idle
    simp only [Playback.voiceAfter, segment, if_neg idle]
    by_cases out : v.GoesOut now
    · rw [releaseIfZero_out idle out, if_pos out]
      rfl
    · rw [releaseIfZero_stays (.inr out), if_neg out]
      have moves : (p.releaseZero now).advanceVoice v = if p.segments[k].length ≤ v.position + 1 then
          v.atSegmentEnd p.segments[k] else { v with position := v.position + 1 } := by
        simp only [Playback.advanceVoice, segment]
        cases state : v.state
        · exact absurd state idle
        all_goals rfl
      rw [moves]
      by_cases last : v.position + 1 < p.segments[k].length
      · rw [if_pos last, if_neg (Nat.not_le.2 last), segment]
      · rw [if_neg last, if_pos (Nat.not_lt.1 last), Voice.atSegmentEnd, segment] <;> rfl

theorem saturate_eq (x : Int) : saturate x = max (-32768) (min 32767 x) := by
  unfold saturate
  split_ifs <;> omega

/-- One side of the mix (R146 step 3). -/
def Playback.mixOf (p : Playback) (now : Nat) (side : Frame → Sample) (scale : Nat) : Int :=
  max (-32768) (min 32767 (p.part now p.v0 side scale + p.part now p.v1 side scale))

theorem playFrame_eq (law : VoicesFit p) (scale : Nat) : p.playFrame now scale = { p with
    frameSent := formatFrame p.format (p.mixOf now Frame.left scale) (p.mixOf now Frame.right scale)
    v0 := p.voiceAfter now p.v0
    v1 := p.voiceAfter now p.v1 } := by
  have mix (side : Frame → Sample) (silent : side Frame.silence = 0) :
      mixSide (side ((p.releaseZero now).voiceFrame (p.v0.releaseIfZero now)))
        (side ((p.releaseZero now).voiceFrame (p.v1.releaseIfZero now))) ((p.v0.releaseIfZero now).gainAt now)
        ((p.v1.releaseIfZero now).gainAt now) scale = p.mixOf now side scale := by
    rw [mixSide, scaled_eq_part law.voice0 silent, scaled_eq_part law.voice1 silent, saturate_eq, Playback.mixOf]
  rw [← mix Frame.left rfl, ← mix Frame.right rfl, ← advance_eq_voiceAfter law.voice0, ← advance_eq_voiceAfter law.voice1]
  rfl

/-- A frame in SAFE (R146, R149). -/
theorem safeFrame_eq (law : VoicesFit p) (origin : ClockState) : p.safeFrame now origin =
    if p.nextMultiplier = 0 then
      { p with frameSent := Frame.silence, multiplier := 0, v0 := Voice.released, v1 := Voice.released }
    else if origin = .paused then
      { p with frameSent := Frame.silence, multiplier := p.nextMultiplier, fadeCount := p.fadeCount + 1 }
    else { p with
      frameSent := formatFrame p.format (p.mixOf now Frame.left p.nextMultiplier) (p.mixOf now Frame.right p.nextMultiplier)
      multiplier := p.nextMultiplier
      fadeCount := p.fadeCount + 1
      v0 := p.voiceAfter now p.v0
      v1 := p.voiceAfter now p.v1 } := by
  unfold Playback.safeFrame
  split_ifs
  · rfl
  · rfl
  · have counted : VoicesFit { p with multiplier := p.nextMultiplier, fadeCount := p.fadeCount + 1 } :=
      voicesFit_of_same law rfl rfl rfl
    exact playFrame_eq counted p.nextMultiplier

end

section
variable {s : State}

theorem exec_audioFrame (law : PlaybackLaw s) : exec .audioFrame s = .next (audioFrame s) := by
  have exist := readsExist_of_fits (playbackLaw_iff.1 law).1.voices law.extents s.clock.showTime
  show execAudioFrame s = _
  rw [execAudioFrame, exist, Bool.not_true, Bool.and_false]
  rfl

/-- The state in which the frame is built: in FOLLOW mode an edge of the rack's word clock has been seen (R37). -/
def edgeSeen (s : State) : State := if s.clock.mode = .follow then wordClockEdge s else s

theorem edgeSeen_eq : edgeSeen s = { s with
    clock := { s.clock with lossTimerRunning := if s.clock.mode = .follow then true else s.clock.lossTimerRunning }
    sup := if s.clock.mode = .follow then { s.sup with causes := s.sup.causes &&& ~~~SafeCause.clockLost.bit } else s.sup } := by
  unfold edgeSeen
  split_ifs <;> rfl

theorem buildFrame_play : (buildFrame s).play = match s.clock.state with
    | .running => s.play.playFrame s.clock.showTime 1000
    | .safe => s.play.safeFrame s.clock.showTime s.clock.safeOrigin
    | .stopped => s.play.silentFrame
    | .paused => s.play.silentFrame := by
  unfold buildFrame
  cases s.clock.state <;> rfl

theorem countFrame_eq : countFrame s = { s with clock := { s.clock with
    framePhase := if s.clock.framePhase + 1 = 48 then 0 else s.clock.framePhase + 1
    ticksDue := if s.clock.framePhase + 1 = 48 then s.clock.ticksDue + 1 else s.clock.ticksDue } } := by
  by_cases full : s.clock.framePhase + 1 = 48
  · rw [if_pos full, if_pos full]
    exact if_pos full
  · rw [if_neg full, if_neg full]
    exact if_neg full

/-- The whole frame: only the playback unit looks at more than the clock and the word-clock condition (R26, R37, R146). -/
theorem audioFrame_eq : audioFrame s = { s with
    clock := { s.clock with
      framePhase := if s.clock.framePhase + 1 = 48 then 0 else s.clock.framePhase + 1
      ticksDue := if s.clock.framePhase + 1 = 48 then s.clock.ticksDue + 1 else s.clock.ticksDue
      lossTimerRunning := if s.clock.mode = .follow then true else s.clock.lossTimerRunning }
    sup := if s.clock.mode = .follow then { s.sup with causes := s.sup.causes &&& ~~~SafeCause.clockLost.bit } else s.sup
    play := (buildFrame s).play } := by
  have built : buildFrame (edgeSeen s) = { edgeSeen s with play := (buildFrame s).play } := by
    have play : (buildFrame (edgeSeen s)).play = (buildFrame s).play := by
      rw [buildFrame_play, buildFrame_play, edgeSeen_eq]
    rw [buildFrame_frame, play]
  show countFrame (buildFrame (edgeSeen s)) = _
  rw [countFrame_eq, built, edgeSeen_eq]

end

/-- Settles O49: the frame phase, the loss timer, and the frame built in each clock state. -/
theorem audioFrameMixesTheVoices : Obligations.AudioFrameMixesTheVoices := by
  intro s law
  refine ⟨audioFrame s, exec_audioFrame law, audioFrame_frame s, ?_, ?_, ?_⟩
  · rw [audioFrame_eq]
  · rw [audioFrame_eq]
  have voices := (playbackLaw_iff.1 law).1.voices
  rw [audioFrame_eq]
  dsimp only
  rw [buildFrame_play]
  cases s.clock.state with
  | stopped => rfl
  | paused => rfl
  | running => exact playFrame_eq voices 1000
  | safe => exact safeFrame_eq voices s.clock.safeOrigin

/-! ### The characters of the field lines (R85) -/

theorem ofNat_sum_bits : ∀ b : Byte,
    BitVec.ofNat 8 (((List.range 8).map (fun k => bitNat (b.getLsbD k) * 2 ^ k)).sum) = b := by
  decide

theorem getElem?_bits_data (c : TxChar) {k : Nat} (h : k < 8) : c.bits[k + 1]? = some (c.data.getLsbD k) := by
  rw [TxChar.bits, List.getElem?_cons_succ, List.getElem?_append_left (by simpa using h)]
  simp [h]

theorem ofBits_bits (c : TxChar) : RxChar.ofBits c.bits = { data := c.data, mark := c.mark, stopHigh := true } := by
  have bit (k : Nat) (h : k ∈ List.range 8) : bitNat (c.bits.getD (k + 1) false) * 2 ^ k = bitNat (c.data.getLsbD k) * 2 ^ k := by
    rw [List.getD_eq_getElem?_getD, getElem?_bits_data c (List.mem_range.1 h)]
    rfl
  rw [RxChar.ofBits, List.map_congr_left bit, ofNat_sum_bits]
  rfl

/-- The bits of an order stand eleven to a character. -/
theorem getElem?_flatMap_bits {order : List TxChar} {j k : Nat} {c : TxChar} (here : order[j]? = some c) (h : k < 11) :
    (order.flatMap TxChar.bits)[11 * j + k]? = c.bits[k]? := by
  induction order generalizing j with
  | nil => cases here
  | cons d rest ih =>
    rw [List.flatMap_cons]
    cases j with
    | zero =>
      cases here
      rw [List.getElem?_append_left (by rw [TxChar.length_bits]; omega), Nat.mul_zero, Nat.zero_add]
    | succ j =>
      have past : 11 * (j + 1) + k - d.bits.length = 11 * j + k := by
        rw [TxChar.length_bits]
        omega
      rw [List.getElem?_append_right (by rw [TxChar.length_bits]; omega), past]
      exact ih here

section
variable (r : LineRec)

/-- The bits before the characters: none, or a break and an idle character (R85). -/
def LineRec.leadIn : List Bool := if r.sentBreak then breakBits ++ idleCharacter else []

theorem length_leadIn : r.leadIn.length = if r.sentBreak then 31 else 0 := by
  unfold LineRec.leadIn
  split_ifs <;> rfl

theorem getElem?_sentBits_leadIn (follows : r.sentBreak = true) {k : Nat} (h : k < 31) :
    r.sentBits[k]? = some (decide (20 ≤ k)) := by
  rw [LineRec.sentBits, if_pos follows, List.getElem?_append_left (show k < 31 from h)]
  revert k
  decide

theorem getElem?_sentBits_char {j k : Nat} {c : TxChar} (here : r.sentOrder[j]? = some c) (h : k < 11) :
    r.sentBits[(if r.sentBreak then 31 else 0) + 11 * j + k]? = c.bits[k]? := by
  show (r.leadIn ++ _)[_]? = _
  rw [← length_leadIn, Nat.add_assoc, List.getElem?_append_right (Nat.le_add_right ..), Nat.add_sub_cancel_left]
  exact getElem?_flatMap_bits here h

theorem getElem?_driverEnable {k : Nat} (h : k < r.sentBits.length) (other : ¬(r.sentBreak = true ∧ 20 ≤ k ∧ k < 31)) :
    r.driverEnable[k]? = some true := by
  rw [length_sentBits] at h
  unfold LineRec.driverEnable
  by_cases follows : r.sentBreak = true
  · rw [if_pos follows] at h ⊢
    rw [List.append_assoc]
    by_cases early : k < 20
    · rw [List.getElem?_append_left (by simpa using early), List.getElem?_replicate, if_pos early]
    · have late : 31 ≤ k := by
        by_contra below
        exact other ⟨follows, by omega, by omega⟩
      have inside : k - 20 - 11 < 11 * r.sentOrder.length := by omega
      rw [List.getElem?_append_right (by simpa using early), List.length_replicate,
        List.getElem?_append_right (by rw [List.length_replicate]; omega), List.length_replicate, List.getElem?_replicate,
        if_pos inside]
  · rw [if_neg follows, Nat.zero_add] at h
    rw [if_neg follows, List.nil_append, List.getElem?_replicate, if_pos h]

theorem getElem?_transmit {k : Nat} (h : k < r.sentBits.length) :
    r.sentBits[k]? = some (r.transmit k) ∧ r.driverEnable[k]? = some (r.driverActive k) := by
  have h' : k < r.driverEnable.length := by rwa [length_driverEnable]
  refine ⟨?_, ?_⟩
  · rw [LineRec.transmit, List.getD_eq_getElem _ _ h, List.getElem?_eq_getElem h]
  · rw [LineRec.driverActive, List.getD_eq_getElem _ _ h', List.getElem?_eq_getElem h']

end

/-! ### The audio wires (R148) -/

/-- A falling edge at the end of the levels is one more. -/
theorem fallingEdges_append (levels : List Bool) (a b : Bool) : fallingEdges (levels ++ [a, b]) =
    fallingEdges (levels ++ [a]) + if a = true ∧ b = false then 1 else 0 := by
  induction levels with
  | nil => cases a <;> cases b <;> rfl
  | cons x rest ih =>
    cases rest with
    | nil =>
      have one : fallingEdges [a, b] = if a = true ∧ b = false then 1 else 0 := by cases a <;> cases b <;> rfl
      simp [fallingEdges, ← one]
    | cons y rest =>
      simp only [List.cons_append, fallingEdges] at ih ⊢
      rw [ih, Nat.add_assoc]

theorem bitClockFrame_succ (periods : Nat) : bitClockFrame (periods + 1) = false :: true :: bitClockFrame periods := rfl

theorem getElem?_bitClockFrame {periods k : Nat} (h : k < 2 * periods) : (bitClockFrame periods)[k]? = some (decide (k % 2 = 1)) := by
  induction periods generalizing k with
  | zero => omega
  | succ n ih =>
    rw [bitClockFrame_succ]
    match k with
    | 0 => rfl
    | 1 => rfl
    | k + 2 =>
      rw [List.getElem?_cons_succ, List.getElem?_cons_succ, ih (by omega), Nat.add_mod_right]

/-- The bit clock falls once in two half-periods. -/
theorem fallingEdges_take {periods k : Nat} (h : k < 2 * periods) : fallingEdges ((bitClockFrame periods).take (k + 1)) = k / 2 := by
  induction periods generalizing k with
  | zero => omega
  | succ n ih =>
    rw [bitClockFrame_succ]
    match k with
    | 0 => rfl
    | 1 => rfl
    | k + 2 =>
      obtain ⟨m, rfl⟩ : ∃ m, n = m + 1 := ⟨n - 1, by omega⟩
      have before := ih (k := k) (by omega)
      simp only [bitClockFrame_succ, List.take_succ_cons, fallingEdges] at before ⊢
      rw [before]
      simp [bitNat]
      omega

section
variable (s : State)

theorem dataWire_of {rack : Option (Nat × Nat)} {left right : Nat} (halves : s.halfPeriods rack = some (left, right)) (k : Nat) :
    s.dataWire rack k = (serialFrame s.play.frameSent left right).getD k false := by
  rw [State.dataWire, halves]

theorem dataWire_left {rack : Option (Nat × Nat)} {left right k : Nat} (halves : s.halfPeriods rack = some (left, right))
    (h : k < left) : s.dataWire rack k =
      if 1 ≤ k ∧ k ≤ 16 then s.play.frameSent.left.getMsbD (k - 1) else false := by
  rw [dataWire_of s halves, List.getD_eq_getElem?_getD, serialFrame, List.getElem?_append_left (by rwa [length_serialHalf]),
    getElem?_serialHalf _ h]
  rfl

theorem dataWire_right {rack : Option (Nat × Nat)} {left right k : Nat} (halves : s.halfPeriods rack = some (left, right))
    (h : k < right) : s.dataWire rack (left + k) =
      if 1 ≤ k ∧ k ≤ 16 then s.play.frameSent.right.getMsbD (k - 1) else false := by
  rw [dataWire_of s halves, List.getD_eq_getElem?_getD, serialFrame,
    List.getElem?_append_right (by rw [length_serialHalf]; exact Nat.le_add_right ..), length_serialHalf, Nat.add_sub_cancel_left,
    getElem?_serialHalf _ h]
  rfl

theorem halfPeriods_eq (rack : Option (Nat × Nat)) :
    s.halfPeriods rack = if s.clock.mode = .master then some (32, 32) else rack := by
  unfold State.halfPeriods
  cases s.clock.mode <;> rfl

theorem wordClockDriven_eq (k : Nat) :
    s.wordClockDriven k = if s.clock.mode = .master then some (decide (32 ≤ k % 64)) else none := by
  have level : ∀ p < 64, (wordClockFrame 32 32)[p]? = some (decide (32 ≤ p)) := by decide
  unfold State.wordClockDriven
  cases s.clock.mode with
  | master => exact level _ (Nat.mod_lt k (by decide))
  | follow => rfl

theorem bitClockDriven_eq (k : Nat) :
    s.bitClockDriven k = if s.clock.mode = .master then some (decide (k % 2 = 1)) else none := by
  have parity : k % 128 % 2 = k % 2 := Nat.mod_mod_of_dvd k (by decide)
  unfold State.bitClockDriven
  cases s.clock.mode with
  | master => exact (getElem?_bitClockFrame (Nat.mod_lt k (by decide))).trans (by rw [parity]; rfl)
  | follow => rfl

end

/-- Settles O50: the characters, the bits of an order, and the wires of the serial audio output. -/
theorem wiresCarryTheirBits : Obligations.WiresCarryTheirBits := by
  refine ⟨fun c => ⟨c.length_bits, rfl, rfl, rfl, fun k => getElem?_bits_data c, ofBits_bits c⟩, fun r => ⟨length_sentBits r,
    fun follows k => getElem?_sentBits_leadIn r follows, fun j k c => getElem?_sentBits_char r, length_driverEnable r,
    fun k => getElem?_driverEnable r⟩, fun r k => ⟨getElem?_transmit r, fun past => ⟨transmit_of_le past, driverActive_of_le past⟩⟩,
    fun s rack => ⟨halfPeriods_eq s rack, fun left right halves => ⟨fun k => dataWire_left s halves, fun k => dataWire_right s halves⟩,
      fun none_ k => by rw [State.dataWire, none_], wordClockDriven_eq s, bitClockDriven_eq s, rfl, fun levels a b => ?_,
      fun k h => ?_⟩⟩
  · exact congrArg (s.dataWire rack) (fallingEdges_append levels a b)
  · exact congrArg (s.dataWire rack) (fallingEdges_take (periods := 64) h)

end Sys2Proof.Machine
end

section

/-! # The clock requests, the chase and the show tick (2.2, 2.3, 3.3 to 3.7, 8.4, 8.8) -/

namespace Sys2Proof.Machine

open Sys2Proof.Safety

/-! ### What the chase and STOP leave alone -/

section
variable {s : State}

theorem chaseAll_frame (t t0 : Nat) : chaseAll t t0 s =
    { s with store := (chaseAll t t0 s).store, channels := (chaseAll t t0 s).channels, play := (chaseAll t t0 s).play } := by
  unfold chaseAll
  generalize (Vector.ofFn _ : Vector (List Cue) 49) = tl
  generalize (Vector.ofFn _ : Vector ChannelRec 49) = recs
  rfl

theorem chaseProgramme_frame (t : Nat) : chaseProgramme t s = { s with
    store := (chaseProgramme t s).store, channels := (chaseProgramme t s).channels, play := (chaseProgramme t s).play } := by
  unfold chaseProgramme
  dsimp only
  generalize (s.channels.set _ _ _ : Vector ChannelRec 49) = recs
  generalize s.store.setTimeline _ _ = store
  rfl

theorem clearShow_frame : clearShow s =
    { s with store := (clearShow s).store, channels := (clearShow s).channels, play := (clearShow s).play } := by
  unfold clearShow
  generalize (Vector.ofFn _ : Vector (List Cue) 49) = tl
  rfl

theorem doReturnWork_eq : doReturnWork s = { s with
    clock := { s.clock with returnPending := false }
    lights := if s.clock.returnPending then
        { s.lights with blend := { s.lights.blend with
          direction := .falling, b0 := s.lights.blend.value, fade := s.sup.settings.lightReturnFade, elapsed := 0 } }
      else s.lights } := by
  by_cases pending : s.clock.returnPending = true
  · rw [doReturnWork, if_pos pending, if_pos pending]
    rfl
  · have clock : { s.clock with returnPending := false } = s.clock := by
      rw [← Bool.eq_false_of_not_eq_true pending]
    rw [doReturnWork, if_neg pending, if_neg pending, clock]

theorem doReturnWork_calm (calm : s.clock.returnPending = false) : doReturnWork s = s := if_neg (by rw [calm]; nofun)

theorem chaseAll_threshold (t t0 : Nat) : (chaseAll t t0 s).store.threshold = s.store.threshold := by
  rw [chaseAll, handOverChase_store, State.setChannels_store, State.setStore_store]

theorem chaseProgramme_threshold (t : Nat) : (chaseProgramme t s).store.threshold = s.store.threshold := by
  rw [chaseProgramme, handOverChase_store, State.setChannels_store, State.setStore_store]
  rfl

end

/-! ### The chase of a channel (R53, R54) -/

theorem takenState_eq (x : Cue) (fromVal : Levels) (t : Nat) : takenState (takenRecord x fromVal) t =
    if x.ramp = 0 ∨ x.dispatch + x.ramp ≤ t then .standing else .live := by
  have complete : (takenRecord x fromVal).completeAt t = true ↔ x.ramp = 0 ∨ x.dispatch + x.ramp ≤ t := by
    show (decide (x.ramp = 0) || decide (x.dispatch + x.ramp ≤ t)) = true ↔ _
    rw [Bool.or_eq_true, decide_eq_true_iff, decide_eq_true_iff]
  simp only [takenState, complete]

theorem channelChased_chase (t t0 : Nat) (tl : List Cue) (rec : ChannelRec) :
    ChannelChased t t0 tl rec (chaseTimeline t t0 tl rec) (chaseRecord t t0 tl rec) := by
  refine ⟨fun before x after split come later => ?_, fun later => ?_⟩
  · subst split
    rw [chaseRecord, chaseTimeline, chasedCue_append come later, ← takenState_eq x (chaseFrom before rec t0)]
    have start : chaseFrom before rec t0 = ((before.getLast?).map (fun p => p.payload.target)).getD (rec.valueAt t0) := by
      unfold chaseFrom
      cases before.getLast? <;> rfl
    exact ⟨by rw [← start]; rfl, rfl⟩
  · rw [chaseRecord, chaseTimeline, chasedCue_none.2 later]
    exact ⟨rfl, rfl⟩

/-! ### The chase of the programme (R150) -/

theorem lastPlay_none {cues : List Cue} (h : ∀ q ∈ cues, q.payload.isPlay = false) : lastPlay cues = none := by
  induction cues with
  | nil => rfl
  | cons c rest ih =>
    rw [lastPlay, ih fun q hq => h q (List.mem_cons_of_mem c hq), if_neg (by rw [h c List.mem_cons_self]; nofun)]

theorem lastPlay_append {before after : List Cue} {x : Cue} (plays : x.payload.isPlay = true)
    (h : ∀ q ∈ after, q.payload.isPlay = false) : lastPlay (before ++ x :: after) = some (x, after) := by
  induction before with
  | nil => rw [List.nil_append, lastPlay, lastPlay_none h, if_pos plays]
  | cons c rest ih => rw [List.cons_append, lastPlay, ih]

/-- The cues that a chase has taken or passed are those that do not wait. -/
theorem takenOrPassed_eq (q : Cue) : (q.isTaken || q.state == .passed) = (q.state != .waiting) := by
  unfold Cue.isTaken
  cases q.state <;> rfl

theorem isPlay_of_segment {p : Payload} (h : p.segment? = none) : p.isPlay = false := by rw [Payload.isPlay, h]; rfl

theorem isQuiet_eq (p : Payload) : p.isQuiet = (p == .quiet) := by
  cases p <;> simp [Payload.isQuiet]

section
variable {after : List Cue} {rec : ChannelRec} {t : Nat}

/-- A QUIET after the last PLAY cue that no longer fades has ended the music (R150 step 2). -/
theorem chaseVoiceState_ended
    (ended : ∃ q ∈ after.filter (·.payload.isQuiet), rec.taken ≠ some q.number ∨ rec.completeAt t = true) :
    chaseVoiceState after rec t = none := by
  obtain ⟨q, mem, quit⟩ := ended
  have some_ : (after.filter (·.payload.isQuiet)).isEmpty = false := by
    rw [List.isEmpty_eq_false_iff]
    exact List.ne_nil_of_mem mem
  have stopped : ¬((after.filter (·.payload.isQuiet)).all (fun c => some c.number == rec.taken) && !rec.completeAt t) = true := by
    rw [Bool.and_eq_true, List.all_eq_true, Bool.not_eq_true']
    rintro ⟨governs, running⟩
    rcases quit with other | complete
    · exact other (beq_iff_eq.1 (governs q mem)).symm
    · rw [complete] at running; cases running
  simp only [chaseVoiceState, some_, if_neg stopped]
  rfl

theorem chaseVoiceState_going
    (going : ¬∃ q ∈ after.filter (·.payload.isQuiet), rec.taken ≠ some q.number ∨ rec.completeAt t = true) :
    chaseVoiceState after rec t = some (if after.filter (·.payload.isQuiet) = [] then .front else .fading) := by
  unfold chaseVoiceState
  generalize after.filter (·.payload.isQuiet) = quiets at going ⊢
  cases quiets with
  | nil => rfl
  | cons c rest =>
    have each (q : Cue) (mem : q ∈ c :: rest) : rec.taken = some q.number ∧ rec.completeAt t = false := by
      by_contra quit
      refine going ⟨q, mem, ?_⟩
      rwa [← Bool.not_eq_true, not_and_or, not_not] at quit
    have fades : ((c :: rest).all (fun c => some c.number == rec.taken) && !rec.completeAt t) = true := by
      rw [Bool.and_eq_true, List.all_eq_true, Bool.not_eq_true']
      exact ⟨fun q mem => beq_iff_eq.2 (each q mem).1.symm, (each c List.mem_cons_self).2⟩
    exact if_pos fades

end

theorem chasePosition_eq (g : Segment) (start t : Nat) : chasePosition g start t =
    if (t - start) * 48 < g.length then some ((t - start) * 48)
    else g.loopStart.map (fun l => l + ((t - start) * 48 - l) % (g.length - l)) := by
  unfold chasePosition
  cases g.loopStart <;> rfl

theorem voicesChased_chase (t : Nat) (tl : List Cue) (rec : ChannelRec) (p : Playback) :
    VoicesChased t tl rec p (p.chase tl rec t) := by
  have kept : tl.filter (fun c => c.isTaken || c.state == .passed) = tl.filter (fun c => c.state != .waiting) :=
    congrArg (tl.filter ·) (funext takenOrPassed_eq)
  refine ⟨?_, fun silent => ?_, fun before x after k g split acts plays silent => ?_⟩
  · unfold Playback.chase
    dsimp only
    repeat' split
    all_goals rfl
  · have none_ : lastPlay (tl.filter (fun c => c.isTaken || c.state == .passed)) = none := by
      rw [kept]
      refine lastPlay_none fun q hq => ?_
      obtain ⟨mem, acts⟩ := List.mem_filter.1 hq
      exact isPlay_of_segment (silent q mem (bne_iff_ne.1 acts))
    rw [Playback.chase, none_]
    rfl
  · have last : lastPlay (tl.filter (fun c => c.isTaken || c.state == .passed)) =
        some (x, after.filter (fun c => c.state != .waiting)) := by
      rw [kept, split, List.filter_append, List.filter_cons_of_pos (p := fun c : Cue => c.state != .waiting) (bne_iff_ne.2 acts)]
      refine lastPlay_append (by rw [plays]; rfl) fun q hq => ?_
      obtain ⟨mem, acts⟩ := List.mem_filter.1 hq
      exact isPlay_of_segment (silent q mem (bne_iff_ne.1 acts))
    have quiets : after.filter (fun q => q.state != .waiting && q.payload == .quiet) =
        (after.filter (fun c => c.state != .waiting)).filter (·.payload.isQuiet) := by
      rw [List.filter_filter]
      exact congrArg (after.filter ·) (funext fun q => by rw [isQuiet_eq, Bool.and_comm])
    dsimp only
    have segment : x.payload.segment? = some k := by rw [plays]; rfl
    rw [quiets, ← chasePosition_eq]
    refine ⟨fun h => ?_, fun going pos position => ?_⟩
    · rcases h with ended | past
      · simp only [Playback.chase, last, segment, chaseVoiceState_ended ended]
        rfl
      · have past : chasePosition p.releaseBoth.segments[k] x.start t = none := past
        simp only [Playback.chase, last, segment]
        cases chaseVoiceState (after.filter (fun c => c.state != .waiting)) rec t with
        | none => rfl
        | some vs => simp only [past]; rfl
    · have position : chasePosition p.releaseBoth.segments[k] x.start t = some pos := position
      simp only [Playback.chase, last, segment, position, chaseVoiceState_going going]
      generalize (after.filter (fun c => c.state != .waiting)).filter (·.payload.isQuiet) = left
      cases left <;> rfl

/-! ### The clock requests (R28 to R33) -/

section
variable {s : State}

theorem ownStart_refuses (h : ¬(s.clock.state = .stopped ∧ s.clock.showTime < s.clock.showLength)) :
    ownStart s = refuse .wrongState s := if_neg h

theorem ownResume_refuses (h : ¬(s.clock.state = .paused ∧ s.clock.showTime < s.clock.showLength)) :
    ownResume s = refuse .wrongState s := if_neg h

theorem ownPause_running (running : s.clock.state = .running) :
    ownPause s = done [] (s.setClock { s.clock with state := .paused }) := if_pos running

theorem ownSeek_beyond {t : Nat} (h : Config.showTimeMax < t) : ownSeek t s = refuse .outOfRange s := if_pos h

theorem ownSetShowLength_beyond {t : Nat} (h : Config.showTimeMax < t) : ownSetShowLength t s = refuse .outOfRange s := if_pos h

theorem ownSeek_busy {t : Nat} (busy : s.clock.state = .running ∨ s.clock.state = .safe) (range : t ≤ Config.showTimeMax) :
    ownSeek t s = refuse .wrongState s := by
  rw [ownSeek, if_neg (Nat.not_lt.2 range)]
  rcases busy with h | h <;> simp only [h]

theorem ownSetShowLength_busy {t : Nat} (busy : s.clock.state = .running ∨ s.clock.state = .safe)
    (range : t ≤ Config.showTimeMax) : ownSetShowLength t s = refuse .wrongState s := by
  rw [ownSetShowLength, if_neg (Nat.not_lt.2 range)]
  rcases busy with h | h <;> simp only [h]

theorem ownSetShowLength_stopped {t : Nat} (stopped : s.clock.state = .stopped) (range : t ≤ Config.showTimeMax) :
    ownSetShowLength t s = done [] (s.setClock { s.clock with showLength := t, showTime := min s.clock.showTime t }) := by
  rw [ownSetShowLength, if_neg (Nat.not_lt.2 range), stopped]

theorem ownSetShowLength_paused {t : Nat} (paused : s.clock.state = .paused) (range : t ≤ Config.showTimeMax)
    (later : s.clock.showTime ≤ t) : ownSetShowLength t s = done [] (s.setClock { s.clock with showLength := t }) := by
  rw [ownSetShowLength, if_neg (Nat.not_lt.2 range), paused]
  exact if_neg (Nat.not_lt.2 later)

theorem ownSetShowLength_short {t : Nat} (paused : s.clock.state = .paused) (range : t ≤ Config.showTimeMax)
    (earlier : t < s.clock.showTime) : ownSetShowLength t s = refuse .outOfRange s := by
  rw [ownSetShowLength, if_neg (Nat.not_lt.2 range), paused]
  exact if_pos earlier

theorem ownSeek_stopped {t : Nat} (stopped : s.clock.state = .stopped) (range : t ≤ Config.showTimeMax) :
    ownSeek t s = done (beBytes 4 (min t s.clock.showLength)) (s.setClock { s.clock with showTime := min t s.clock.showLength }) := by
  rw [ownSeek, if_neg (Nat.not_lt.2 range), stopped]

theorem ownSeek_paused {t : Nat} (paused : s.clock.state = .paused) (range : t ≤ Config.showTimeMax) :
    ownSeek t s = done (beBytes 4 (min t s.clock.showLength)) (chaseAll (min t s.clock.showLength) s.clock.showTime
      (s.setClock { s.clock with showTime := min t s.clock.showLength })) := by
  rw [ownSeek, if_neg (Nat.not_lt.2 range), paused]

/-- The show has been cleared (R57). -/
structure Cleared (s u : State) : Prop where
  frame : u = { s with store := u.store, channels := u.channels, play := u.play }
  threshold : u.store.threshold = s.store.threshold
  timelines : ∀ c : Fin 49, u.store.timelines[c] = s.store.timelines[c].map Cue.toWaiting
  channels : ∀ c : Fin 49, u.channels[c] = ChannelRec.reset
  play : u.play = s.play.releaseBoth

theorem cleared_clearShow (s : State) : Cleared s (clearShow s) where
  frame := clearShow_frame
  threshold := by simp [clearShow]
  timelines c := by simp [clearShow]
  channels c := by simp [clearShow]
  play := by simp [clearShow]

end

theorem seek_wf {t : Nat} (h : t < 4294967296) : (Request.seek t).wf = true := decide_eq_true h

theorem setShowLength_wf {t : Nat} (h : t < 4294967296) : (Request.setShowLength t).wf = true := decide_eq_true h

theorem small_of_showTime {t : Nat} (h : t ≤ Config.showTimeMax) : t < 4294967296 := lt_of_le_of_lt h (by decide)

/-- Settles O10: each owner on the state and the range that it checks. -/
theorem clockRequestsActInTheirStates : Obligations.ClockRequestsActInTheirStates := by
  intro s hf
  refine ⟨fun h => exec_refuses rfl hf rfl (ownStart_refuses h), fun h => exec_refuses rfl hf rfl (if_neg h),
    fun h => exec_refuses rfl hf rfl (ownResume_refuses h), fun h => exec_refuses rfl hf rfl (if_neg ?_),
    fun t beyond small => ⟨exec_refuses rfl hf (seek_wf small) (ownSeek_beyond beyond),
      exec_refuses rfl hf (setShowLength_wf small) (ownSetShowLength_beyond beyond)⟩,
    fun busy t range => ⟨exec_refuses rfl hf (seek_wf (small_of_showTime range)) (ownSeek_busy busy range),
      exec_refuses rfl hf (setShowLength_wf (small_of_showTime range)) (ownSetShowLength_busy busy range)⟩,
    fun running => exec_answers (r := .pause) rfl hf rfl (ownPause_running running) rfl, fun len range => ?_, fun moving => ?_⟩
  · rintro (running | paused)
    · rcases h with stopped | safe
      · exact absurd (running.symm.trans stopped) nofun
      · exact absurd (running.symm.trans safe) nofun
    · rcases h with stopped | safe
      · exact absurd (paused.symm.trans stopped) nofun
      · exact absurd (paused.symm.trans safe) nofun
  · have hr := setShowLength_wf (small_of_showTime range)
    exact ⟨fun stopped => exec_answers rfl hf hr (ownSetShowLength_stopped stopped range) rfl,
      fun paused later => exec_answers rfl hf hr (ownSetShowLength_paused paused range later) rfl,
      fun paused earlier => exec_refuses rfl hf hr (ownSetShowLength_short paused range earlier)⟩
  · have owned : handle .stop (withRequest .stop s) =
        done [] (clearShow ((withRequest .stop s).setClock { s.clock with state := .stopped, showTime := 0 })) := if_pos moving
    have cleared := cleared_clearShow ((withRequest .stop s).setClock { s.clock with state := .stopped, showTime := 0 })
    generalize clearShow _ = u at owned cleared
    obtain ⟨frame, threshold, timelines, channels, play⟩ := cleared
    rw [frame] at owned
    exact ⟨_, exec_answers rfl hf rfl owned rfl, rfl, rfl, rfl, play, threshold, fun c => ⟨channels c, timelines c⟩⟩

/-! ### START, SEEK and RESUME (R28, R30, R32) -/

/-- Every channel has been chased, and the voices with the programme channel (R53 to R55, R150). -/
structure AllChased (t t0 : Nat) (s u : State) : Prop where
  frame : u = { s with store := u.store, channels := u.channels, play := u.play }
  threshold : u.store.threshold = s.store.threshold
  channels : ∀ c : Fin 49, ChannelChased t t0 s.store.timelines[c] s.channels[c] u.store.timelines[c] u.channels[c]
  numbers : ∀ c : Fin 49, u.store.timelines[c].map (·.number) = s.store.timelines[c].map (·.number)
  noneDue : NoneDue t u
  voices : VoicesChased t u.store.timelines[programme] u.channels[programme] s.play u.play

theorem allChased_chaseAll (t t0 : Nat) (s : State) : AllChased t t0 s (chaseAll t t0 s) where
  frame := chaseAll_frame t t0
  threshold := chaseAll_threshold t t0
  channels c := by
    rw [chaseAll_timelines, chaseAll_channels]
    exact channelChased_chase ..
  numbers c := by
    rw [chaseAll_timelines]
    exact (sameCues_chaseTimeline ..).numbers
  noneDue c := by
    rw [chaseAll_timelines]
    exact chaseTimeline_noneDue _ _ _ _
  voices := by
    rw [chaseAll_play, chaseAll_timelines, chaseAll_channels]
    exact voicesChased_chase ..

/-- The programme channel alone has been chased, and the voices with it (R56, R150). -/
structure ProgrammeChased (t : Nat) (s u : State) : Prop where
  frame : u = { s with store := u.store, channels := u.channels, play := u.play }
  threshold : u.store.threshold = s.store.threshold
  others : ∀ c : Fin 49, c ≠ programme → u.store.timelines[c] = s.store.timelines[c] ∧ u.channels[c] = s.channels[c]
  noneDue : ∀ q ∈ u.store.timelines[programme], dueAt t q = false
  channel : ChannelChased t t s.store.timelines[programme] s.channels[programme] u.store.timelines[programme]
    u.channels[programme]
  voices : VoicesChased t u.store.timelines[programme] u.channels[programme] s.play u.play

theorem programmeChased_chaseProgramme (t : Nat) (s : State) : ProgrammeChased t s (chaseProgramme t s) where
  frame := chaseProgramme_frame t
  threshold := chaseProgramme_threshold t
  others c other := by
    rw [chaseProgramme_timelines, chaseProgramme_channels, if_neg other.symm, if_neg other.symm]
    exact ⟨rfl, rfl⟩
  noneDue := by
    rw [chaseProgramme_timelines, if_pos rfl]
    exact chaseTimeline_noneDue _ _ _ _
  channel := by
    rw [chaseProgramme_timelines, chaseProgramme_channels, if_pos rfl, if_pos rfl]
    exact channelChased_chase ..
  voices := by
    rw [chaseProgramme_play, chaseProgramme_timelines, chaseProgramme_channels, if_pos rfl, if_pos rfl]
    exact voicesChased_chase ..

/-- Settles O11: the chase of every channel and of the programme, then the clock and the light return fade. -/
theorem startChasesAndRuns : Obligations.StartChasesAndRuns := by
  intro s hf stopped short
  have owned : handle .start (withRequest .start s) =
      done [] (doReturnWork (setRunning (chaseAll s.clock.showTime s.clock.showTime (withRequest .start s)))) :=
    if_pos ⟨stopped, short⟩
  have chased := allChased_chaseAll s.clock.showTime s.clock.showTime (withRequest .start s)
  generalize chaseAll s.clock.showTime s.clock.showTime (withRequest .start s) = u at owned chased
  obtain ⟨frame, threshold, channels, numbers, noneDue, voices⟩ := chased
  rw [doReturnWork_eq] at owned
  rw [frame] at owned
  exact ⟨_, exec_answers rfl hf rfl owned rfl, rfl, rfl, rfl, rfl, noneDue, threshold, fun c => ⟨numbers c, channels c⟩, voices⟩

/-- Settles O12: the clock moved, and in PAUSED the chase of every channel and of the programme. -/
theorem seekMovesAndChases : Obligations.SeekMovesAndChases := by
  intro s time hf range
  have hr := seek_wf (small_of_showTime range)
  refine ⟨fun stopped => exec_answers rfl hf hr (ownSeek_stopped stopped range) rfl, fun paused => ?_⟩
  have owned : handle (.seek time) (withRequest (.seek time) s) = done (beBytes 4 (min time s.clock.showLength))
      (chaseAll (min time s.clock.showLength) s.clock.showTime
        ((withRequest (.seek time) s).setClock { s.clock with showTime := min time s.clock.showLength })) :=
    ownSeek_paused paused range
  have chased := allChased_chaseAll (min time s.clock.showLength) s.clock.showTime
    ((withRequest (.seek time) s).setClock { s.clock with showTime := min time s.clock.showLength })
  generalize chaseAll _ _ _ = u at owned chased
  obtain ⟨frame, threshold, channels, -, -, voices⟩ := chased
  rw [frame] at owned
  exact ⟨_, exec_answers rfl hf hr owned rfl, rfl, rfl, rfl, threshold, channels, voices⟩

/-- Settles O13: the clock runs; where return is pending, after the chase of the programme. -/
theorem resumeRunsThePausedShow : Obligations.ResumeRunsThePausedShow := by
  intro s hf paused short
  have owned : handle .resume (withRequest .resume s) = done [] (doReturnWork (setRunning
      (if s.clock.returnPending then chaseProgramme s.clock.showTime (withRequest .resume s) else withRequest .resume s))) :=
    if_pos ⟨paused, short⟩
  refine ⟨fun calm => ?_, fun pending => ?_⟩
  · rw [if_neg (by rw [calm]; nofun), doReturnWork_calm (s := setRunning (withRequest .resume s)) calm] at owned
    exact exec_answers rfl hf rfl owned rfl
  · rw [if_pos pending, doReturnWork_eq] at owned
    have chased := programmeChased_chaseProgramme s.clock.showTime (withRequest .resume s)
    generalize chaseProgramme s.clock.showTime (withRequest .resume s) = u at owned chased
    obtain ⟨frame, threshold, others, noneDue, channel, voices⟩ := chased
    rw [frame] at owned
    refine ⟨_, exec_answers rfl hf rfl owned rfl, rfl, rfl, rfl, ?_, threshold, others, noneDue, channel, voices⟩
    exact if_pos pending

/-! ### The show tick (R27, R46 to R50) -/

section
variable {s : State}

theorem showTick_idle (due : s.clock.ticksDue ≠ 0) (other : s.clock.state ≠ .running) :
    showTick s = s.setClock { s.clock with ticksDue := s.clock.ticksDue - 1 } := by
  rw [showTick, if_neg due]
  exact if_neg other

/-- The tick used up and show time one later (R27). -/
def ticked (s : State) : State :=
  s.setClock { s.clock with ticksDue := s.clock.ticksDue - 1, showTime := s.clock.showTime + 1 }

theorem showTick_takes (due : s.clock.ticksDue ≠ 0) (running : s.clock.state = .running)
    (short : s.clock.showTime + 1 ≠ s.clock.showLength) : showTick s = takeDue (s.clock.showTime + 1) (ticked s) := by
  rw [showTick, if_neg due]
  dsimp only
  rw [if_pos running]
  exact if_neg short

theorem showTick_ends (due : s.clock.ticksDue ≠ 0) (running : s.clock.state = .running)
    (length : s.clock.showTime + 1 = s.clock.showLength) : showTick s =
      raise .showEnd (recordCompletions (s.clock.showTime + 1) ((ticked s).setClock { (ticked s).clock with state := .paused })) := by
  rw [showTick, if_neg due]
  dsimp only
  rw [if_pos running]
  exact if_pos length

theorem recordCompletions_timelines (t : Nat) (c : Fin 49) : (recordCompletions t s).store.timelines[c] =
    recordCompletion s.channels[c] t s.store.timelines[c] := by
  simp [recordCompletions]

theorem recordCompletions_threshold (t : Nat) : (recordCompletions t s).store.threshold = s.store.threshold := by
  simp [recordCompletions]

theorem takeDue_threshold (t : Nat) : (takeDue t s).store.threshold = s.store.threshold := by
  unfold takeDue
  dsimp only
  cases actingCue t s.store.timelines[programme] <;> split_ifs <;> simp

theorem takeDue_link (t : Nat) : (takeDue t s).link =
    if tickSkips t s.store then { s.link with pending := s.link.pending ||| Attention.cueSkipped.bit } else s.link := by
  unfold takeDue
  dsimp only
  cases actingCue t s.store.timelines[programme] <;> split_ifs <;> simp [raise]

theorem tickSkips_iff {t : Nat} : tickSkips t s.store = true ↔ ∃ c : Fin 49, 2 ≤ (s.store.timelines[c].filter (dueAt t)).length := by
  rw [tickSkips, List.any_eq_true]
  constructor
  · rintro ⟨tl, mem, skips⟩
    obtain ⟨k, hk, rfl⟩ := List.mem_iff_getElem.1 mem
    exact ⟨⟨k, by simpa using hk⟩, of_decide_eq_true skips⟩
  · rintro ⟨c, skips⟩
    exact ⟨s.store.timelines[c], by simp, decide_eq_true skips⟩

end

theorem handOver_frame (p : Playback) (a : Cue) (t : Nat) :
    p.handOver a t = { p with v0 := (p.handOver a t).v0, v1 := (p.handOver a t).v1 } := by
  unfold Playback.handOver Playback.actPlay
  dsimp only
  cases a.payload with
  | play k g =>
    dsimp only
    split_ifs <;> rfl
  | _ => rfl

/-- What a take makes of one cue (R49, R50). -/
theorem takeCue_eq (now : Nat) (a q : Cue) (fromVal : Levels) :
    takeCue now a (takenState (takenRecord a fromVal) now) q =
      if q.state = .waiting ∧ q.dispatch ≤ now then
        (if q.number = a.number then
          { q with state := if a.ramp = 0 ∨ a.dispatch + a.ramp ≤ now then .standing else .live, skipped := false }
        else { q with state := .passed, skipped := true })
      else if q.state = .live ∨ q.state = .standing then { q with state := .passed, skipped := false }
      else q := by
  have taken : q.isTaken = true ↔ q.state = .live ∨ q.state = .standing := by
    rw [Cue.isTaken, Bool.or_eq_true, beq_iff_eq, beq_iff_eq]
  simp only [takeCue, takenState_eq, dueAt_iff, taken]

/-- The due cues of every channel have been taken (R46, R48 to R52). -/
structure Taken (now : Nat) (s u : State) : Prop where
  frame : u = { s with store := u.store, channels := u.channels, play := u.play, link := u.link }
  threshold : u.store.threshold = s.store.threshold
  noneDue : NoneDue now u
  link : u.link = { s.link with pending := u.link.pending }
  pending : u.link.pending = if ∃ c : Fin 49, 2 ≤ (s.store.timelines[c].filter (dueAt now)).length then
    s.link.pending ||| Attention.cueSkipped.bit else s.link.pending
  play : u.play = ((actingCue now s.store.timelines[programme]).map (s.play.handOver · now)).getD s.play
  others : ∀ c : Fin 49, actingCue now s.store.timelines[c] = none → u.channels[c] = s.channels[c] ∧
    u.store.timelines[c] = recordCompletion s.channels[c] now s.store.timelines[c]
  acting : ∀ (c : Fin 49) (a : Cue), actingCue now s.store.timelines[c] = some a →
    u.channels[c] = takenRecord a (s.channels[c].valueAt now) ∧
    u.store.timelines[c] = s.store.timelines[c].map
      (takeCue now a (takenState (takenRecord a (s.channels[c].valueAt now)) now))

theorem taken_takeDue (now : Nat) (s : State) : Taken now s (takeDue now s) where
  frame := takeDue_frame s now
  threshold := takeDue_threshold now
  noneDue c := by
    rw [takeDue_timelines]
    exact tickTimeline_noneDue _ _ _
  link := by
    rw [takeDue_link]
    split_ifs <;> rfl
  pending := by
    rw [takeDue_link]
    simp only [tickSkips_iff]
    split_ifs <;> rfl
  play := takeDue_play now s
  others c none_ := by
    rw [takeDue_timelines, takeDue_channels, tickTimeline, tickRecord, none_]
    exact ⟨rfl, rfl⟩
  acting c a acts := by
    rw [takeDue_timelines, takeDue_channels, tickTimeline, tickRecord, acts]
    exact ⟨rfl, rfl⟩

theorem actingCue_eq_none {now : Nat} {tl : List Cue} (none_ : tl.filter (dueAt now) = []) : actingCue now tl = none := by
  rw [actingCue, none_]
  rfl

/-- Settles O14: the tick that is used up, the tick that ends the show, and the tick that takes. -/
theorem showTickAdvancesOnlyRunning : Obligations.ShowTickAdvancesOnlyRunning := by
  intro s due
  refine ⟨fun other => congrArg Host.Outcome.next (showTick_idle due other), fun running length => ?_, fun running short => ?_⟩
  · refine ⟨_, congrArg Host.Outcome.next (showTick_ends due running length), ?_⟩
    have frame := recordCompletions_frame (s := (ticked s).setClock { (ticked s).clock with state := .paused })
      (s.clock.showTime + 1)
    have timelines := recordCompletions_timelines (s := (ticked s).setClock { (ticked s).clock with state := .paused })
      (s.clock.showTime + 1)
    have threshold := recordCompletions_threshold (s := (ticked s).setClock { (ticked s).clock with state := .paused })
      (s.clock.showTime + 1)
    generalize recordCompletions _ _ = u at frame timelines threshold ⊢
    rw [frame]
    exact ⟨rfl, rfl, rfl, threshold, timelines⟩
  · refine ⟨_, congrArg Host.Outcome.next (showTick_takes due running short), ?_⟩
    have taken := taken_takeDue (s.clock.showTime + 1) (ticked s)
    generalize takeDue _ _ = u at taken ⊢
    obtain ⟨frame, threshold, noneDue, link, pending, play, others, acts⟩ := taken
    have clock : u.clock = (ticked s).clock := by rw [frame]
    refine ⟨by rw [frame]; rfl, clock, noneDue, threshold, ?_, link, pending, fun none_ => ?_, fun c =>
      ⟨fun none_ => others c (actingCue_eq_none none_), fun a act => ?_⟩⟩
    · rw [play]
      cases actingCue _ (ticked s).store.timelines[programme] with
      | none => rfl
      | some a => exact handOver_frame _ a _
    · have calm : actingCue _ (ticked s).store.timelines[programme] = none := actingCue_eq_none none_
      rw [play, calm]
      rfl
    · obtain ⟨channels, timelines⟩ := acts c a act
      refine ⟨channels, timelines.trans (List.map_congr_left fun q _ => takeCue_eq ..)⟩

/-! ### The take of a programme cue (R142 to R144) -/

/-- A voice on its way out from its present gain (R143 step 2). -/
def Voice.faded (v : Voice) (now dispatch ramp cue : Nat) : Voice :=
  { v with
    state := .fading
    fromGain := v.gainAt now
    toGain := 0
    origin := dispatch
    duration := ramp
    releaseAtZero := true
    governing := some cue }

section
variable {v : Voice} {now dispatch ramp cue : Nat}

theorem fadeOut_eq : v.fadeOut now dispatch ramp cue =
    if ramp = 0 ∨ (v.faded now dispatch ramp cue).gainAt now = 0 then Voice.released else v.faded now dispatch ramp cue := by
  unfold Voice.fadeOut
  by_cases instant : ramp = 0
  · rw [if_pos instant, if_pos (.inl instant)]
  · rw [if_neg instant]
    by_cases zero : (v.faded now dispatch ramp cue).gainAt now = 0
    · rw [if_pos (.inr zero)]
      exact releaseIfZero_out (v := v.faded now dispatch ramp cue) nofun ⟨rfl, zero⟩
    · rw [if_neg (not_or.2 ⟨instant, zero⟩)]
      exact releaseIfZero_stays (v := v.faded now dispatch ramp cue) (.inr fun out => zero out.2)

theorem makeWay_eq : v.makeWay now dispatch ramp cue = match v.state with
    | .idle => v
    | .front => v.fadeOut now dispatch ramp cue
    | .fading => Voice.released := by
  unfold Voice.makeWay
  cases v.state <;> rfl

/-- A voice that makes way is IDLE, unless it was the FRONT voice and fades (R143 step 3). -/
theorem makeWay_idle (h : ¬(v.state = .front ∧ v.fadeOut now dispatch ramp cue = v.faded now dispatch ramp cue)) :
    (v.makeWay now dispatch ramp cue).state = .idle := by
  rw [makeWay_eq]
  cases state : v.state with
  | idle => exact state
  | fading => rfl
  | front =>
    have differs : v.fadeOut now dispatch ramp cue ≠ v.faded now dispatch ramp cue := fun e => h ⟨state, e⟩
    dsimp only
    rw [fadeOut_eq] at differs ⊢
    split_ifs at differs ⊢
    · rfl
    · exact absurd rfl differs

end

/-- Settles O15: the hand-over of the acting programme cue, by its action. -/
theorem takenProgrammeCueMovesTheVoices : Obligations.TakenProgrammeCueMovesTheVoices := by
  intro a s due running short
  dsimp only
  intro acts
  refine ⟨_, congrArg Host.Outcome.next (showTick_takes due running short), ?_⟩
  have play := (taken_takeDue (s.clock.showTime + 1) (ticked s)).play
  generalize takeDue _ _ = u at play ⊢
  have acts : actingCue (s.clock.showTime + 1) (ticked s).store.timelines[programme] = some a := acts
  rw [acts] at play
  have play : u.play = s.play.handOver a (s.clock.showTime + 1) := play
  have out (v : Voice) := fadeOut_eq (v := v) (now := s.clock.showTime + 1) (dispatch := a.dispatch) (ramp := a.ramp)
    (cue := a.number)
  refine ⟨fun k g plays => ⟨fun ⟨front, fades⟩ => ?_, fun h => ?_⟩, fun g gains => ?_, fun quiets => ?_⟩
  · have way : s.play.v0.makeWay (s.clock.showTime + 1) a.dispatch a.ramp a.number =
        s.play.v0.faded (s.clock.showTime + 1) a.dispatch a.ramp a.number := by
      rw [makeWay_eq, front]
      exact (out s.play.v0).trans fades
    rw [play, Playback.handOver, plays]
    dsimp only
    rw [Playback.actPlay, way]
    rfl
  · have idle := makeWay_idle (v := s.play.v0) (now := s.clock.showTime + 1) (dispatch := a.dispatch) (ramp := a.ramp)
      (cue := a.number) fun ⟨front, fades⟩ => h ⟨front, (out s.play.v0).symm.trans fades⟩
    rw [play, Playback.handOver, plays]
    dsimp only [Playback.actPlay]
    rw [if_pos idle, makeWay_eq, out]
    rfl
  · rw [play, Playback.handOver, gains]
    rfl
  · rw [play, Playback.handOver, quiets]
    simp only [Voice.actQuiet, out]
    rfl

end Sys2Proof.Machine
end

section

/-! # The requests on the cue store (1.5 to 1.8, 8.4) -/

namespace Sys2Proof.Machine

open Sys2Proof.Safety

/-! ### The ranges of R8 -/

theorem shape?_isSome_iff {n : Nat} : (shape? n).isSome = true ↔ n ≤ 1 := by
  unfold shape?
  split
  · exact iff_of_true rfl (by omega)
  · exact iff_of_true rfl (by omega)
  · next not0 not1 =>
    have not0 : n ≠ 0 := not0
    have not1 : n ≠ 1 := not1
    exact iff_of_false nofun (by omega)

theorem shape?_eq_none {n : Nat} (h : 1 < n) : shape? n = none := by
  rw [← Option.not_isSome_iff_eq_none, shape?_isSome_iff]
  omega

theorem readProgramme_isSome_iff {p : RawPayload} : (readProgramme p).isSome = true ↔
    p.w0 / 256 ≤ 2 ∧ (p.w0 / 256 = 0 → p.w0 % 256 < 64) ∧ (p.w0 / 256 ≤ 1 → p.w1 ≤ 1000) := by
  have segment : (fin? 64 (p.w0 % 256)).isSome = true ↔ p.w0 % 256 < 64 := by
    rw [← Option.ne_none_iff_isSome, Ne, fin?_eq_none, Nat.not_le]
  unfold readProgramme
  split
  · next action =>
    by_cases gain : p.w1 ≤ 1000
    · rw [if_pos gain, Option.isSome_map, segment]
      omega
    · rw [if_neg gain]
      exact iff_of_false nofun (by omega)
  · next action =>
    by_cases gain : p.w1 ≤ 1000
    · rw [if_pos gain]
      exact iff_of_true rfl (by omega)
    · rw [if_neg gain]
      exact iff_of_false nofun (by omega)
  · next action => exact iff_of_true rfl (by omega)
  · next not0 not1 not2 =>
    have not0 : p.w0 / 256 ≠ 0 := not0
    have not1 : p.w0 / 256 ≠ 1 := not1
    have not2 : p.w0 / 256 ≠ 2 := not2
    exact iff_of_false nofun (by omega)

/-- A payload can be read exactly where it is within the ranges of R2. -/
theorem readPayload_isSome_iff {c : Fin 49} {p : RawPayload} : (readPayload c p).isSome = true ↔ PayloadInRange c.val p := by
  unfold readPayload PayloadInRange
  split_ifs with jet height head levels
  · exact iff_of_true rfl ⟨fun _ => height, by omega, by omega⟩
  · exact iff_of_false nofun fun h => height (h.1 jet)
  · rw [levelsWithin_iff] at levels
    exact iff_of_true rfl ⟨fun h => absurd h jet, fun _ _ => levels, by omega⟩
  · rw [levelsWithin_iff] at levels
    exact iff_of_false nofun fun h => levels (h.2.1 (Nat.not_lt.1 jet) head)
  · rw [readProgramme_isSome_iff]
    exact ⟨fun h => ⟨fun low => absurd low jet, fun _ low => absurd low head, fun _ => h⟩, fun h => h.2.2 (by omega)⟩

theorem readPayload_of_range {c : Fin 49} {p : RawPayload} (h : PayloadInRange c.val p) : ∃ x, readPayload c p = some x :=
  Option.isSome_iff_exists.1 (readPayload_isSome_iff.2 h)

theorem readPayload_eq_none {c : Fin 49} {p : RawPayload} (h : ¬PayloadInRange c.val p) : readPayload c p = none := by
  rwa [← Option.not_isSome_iff_eq_none, readPayload_isSome_iff]

theorem cueFieldsInRange_iff {number start ramp : Nat} : cueFieldsInRange number start ramp = true ↔
    1 ≤ number ∧ number ≤ 65535 ∧ start ≤ Config.showTimeMax ∧ ramp ≤ Config.rampMax := by
  simp only [cueFieldsInRange, Bool.and_eq_true, decide_eq_true_iff, and_assoc]

/-! ### The checks of R9 and R13 -/

theorem startPresent_iff {start : Nat} {tl : List Cue} : startPresent start tl = true ↔ ∃ q ∈ tl, q.start = start := by
  simp only [startPresent, List.any_eq_true, beq_iff_eq]

theorem tooLate_iff {start : Nat} {tl : List Cue} : tooLate start tl = true ↔ ∃ q ∈ tl, q.state ≠ .waiting ∧ start < q.start := by
  simp only [tooLate, List.any_eq_true, Bool.and_eq_true, bne_iff_ne, decide_eq_true_iff]

theorem otherHasStart_iff {number start : Nat} {tl : List Cue} : otherHasStart number start tl = true ↔
    ∃ d ∈ tl, d.number ≠ number ∧ d.start = start := by
  simp only [otherHasStart, List.any_eq_true, Bool.and_eq_true, bne_iff_ne, beq_iff_eq]

theorem unready_iff {p : Payload} {s : State} : unready p s = true ↔
    ∃ k, p.segment? = some k ∧ s.play.segments[k].state ≠ .ready := by
  unfold unready
  cases p.segment? with
  | none => simp
  | some k => simp

/-! ### PLACE CUE (R9, R10) -/

section
variable {a : CueArgs} {c : Fin 49} {sh : Shape} {p : Payload} {s : State}

theorem ownPlaceCue_out (h : ¬(1 ≤ a.number ∧ a.number ≤ 65535 ∧ a.channel ≤ 48 ∧ a.start ≤ Config.showTimeMax ∧
    a.ramp ≤ Config.rampMax ∧ a.shape ≤ 1 ∧ PayloadInRange a.channel a.payload)) : ownPlaceCue a s = refuse .outOfRange s := by
  unfold ownPlaceCue
  split
  · next c sh channel shape =>
    have channel := fin?_eq_some.1 channel
    split
    · rfl
    · next p payload =>
      refine if_pos ?_
      rw [Bool.not_eq_true', ← Bool.not_eq_true, cueFieldsInRange_iff]
      rintro ⟨low, high, start, ramp⟩
      have shape : a.shape ≤ 1 := shape?_isSome_iff.1 (by rw [shape]; rfl)
      have payload := readPayload_isSome_iff.1 (Option.isSome_iff_exists.2 ⟨p, payload⟩)
      exact h ⟨low, high, by omega, start, ramp, shape, channel ▸ payload⟩
  · rfl

/-- The checks of R9 in their order, once every field is in its range. -/
theorem ownPlaceCue_checks (channel : a.channel = c.val) (shape : shape? a.shape = some sh)
    (payload : readPayload c a.payload = some p) (low : 1 ≤ a.number) (high : a.number ≤ 65535)
    (start : a.start ≤ Config.showTimeMax) (ramp : a.ramp ≤ Config.rampMax) : ownPlaceCue a s =
      if s.store.find a.number ≠ none then refuse .duplicate s
      else if ∃ q ∈ s.store.timelines[c], q.start = a.start then refuse .clash s
      else if Config.cueSlots ≤ s.store.occupied then refuse .storeFull s
      else if ∃ q ∈ s.store.timelines[c], q.state ≠ .waiting ∧ a.start < q.start then refuse .tooLate s
      else if ∃ seg, p.segment? = some seg ∧ s.play.segments[seg].state ≠ .ready then refuse .unready s
      else done (beBytes 4 (a.start - leadOf s c)) (placeOn c (newCue s c a sh p) s) := by
  have fields : cueFieldsInRange a.number a.start a.ramp = true := cueFieldsInRange_iff.2 ⟨low, high, start, ramp⟩
  simp only [ownPlaceCue, channel, fin?_val, shape, payload, fields, ← startPresent_iff, ← tooLate_iff, ← unready_iff,
    Option.ne_none_iff_isSome]
  rfl

end

/-- Settles O19: the ranges, then the owner's checks in their order. -/
theorem placeCueRefusesInOrder : Obligations.PlaceCueRefusesInOrder := by
  intro a s hf hr
  dsimp only
  refine ⟨fun out => exec_refuses rfl hf hr (ownPlaceCue_out fun ⟨low, _, channel, start, ramp, shape, payload⟩ =>
    out ⟨low, channel, start, ramp, shape, payload⟩), fun ⟨_, channel, _, _, shape, payload⟩ => ?_,
    fun c sh p channel shape payload low high start ramp => ?_⟩
  · obtain ⟨sh, shape⟩ := Option.isSome_iff_exists.1 (shape?_isSome_iff.2 shape)
    have small : a.channel < 49 := by omega
    obtain ⟨p, payload⟩ := readPayload_of_range (c := ⟨a.channel, small⟩) payload
    exact ⟨⟨a.channel, small⟩, sh, p, rfl, shape, payload⟩
  · have owned : handle (.placeCue a) (withRequest (.placeCue a) s) = _ :=
      ownPlaceCue_checks channel shape payload low high start ramp
    have store : (withRequest (.placeCue a) s).store = s.store := rfl
    have play : (withRequest (.placeCue a) s).play = s.play := rfl
    rw [store, play] at owned
    split_ifs at owned ⊢
    · exact exec_refuses rfl hf hr owned
    · exact exec_refuses rfl hf hr owned
    · exact exec_refuses rfl hf hr owned
    · exact exec_refuses rfl hf hr owned
    · exact exec_refuses rfl hf hr owned
    · exact ⟨_, exec_settles rfl hf hr owned, _, rfl, rfl⟩

/-- The threshold test of a PLACE CUE (R11). -/
theorem placeOn_link (c : Fin 49) (q : Cue) (s : State) : (placeOn c q s).link = { s.link with
    pending := if s.store.threshold ≤ 4096 - s.store.occupied ∧ 4096 - (s.store.occupied + 1) < s.store.threshold then
      s.link.pending ||| Attention.storeLow.bit else s.link.pending } := by
  have grown : (s.store.setTimeline c (insertCue q s.store.timelines[c])).occupied = s.store.occupied + 1 := by
    have := occupied_setTimeline s.store c (insertCue q s.store.timelines[c])
    rw [length_insertCue] at this
    omega
  have free : (s.store.setTimeline c (insertCue q s.store.timelines[c])).free = 4096 - (s.store.occupied + 1) := by
    rw [Store.free, grown]
    rfl
  rw [placeOn, noticeLow, State.setStore_store, free]
  show State.link (if s.store.threshold ≤ 4096 - s.store.occupied ∧ _ < s.store.threshold then _ else _) = _
  split_ifs <;> rfl

/-- Settles O18: the insertion into the channel's timeline, and the test of the threshold. -/
theorem placeCueInsertsTheCue : Obligations.PlaceCueInsertsTheCue := by
  intro a c sh p s hf hr channel shape payload low high start ramp new clash room late ready
  have owned : handle (.placeCue a) (withRequest (.placeCue a) s) = _ :=
    ownPlaceCue_checks channel shape payload low high start ramp
  have store : (withRequest (.placeCue a) s).store = s.store := rfl
  have play : (withRequest (.placeCue a) s).play = s.play := rfl
  rw [store, play, if_neg (not_not.2 new), if_neg fun ⟨q, mem, same⟩ => clash q mem same, if_neg (Nat.not_le.2 room),
    if_neg fun ⟨q, mem, acts, before⟩ => absurd (late q mem acts) (Nat.not_le.2 before),
    if_neg fun ⟨k, named, unready⟩ => unready (ready k named)] at owned
  have frame := placeOn_frame (withRequest (.placeCue a) s) c (newCue (withRequest (.placeCue a) s) c a sh p)
  have spec := placeOn_spec c (newCue (withRequest (.placeCue a) s) c a sh p) (withRequest (.placeCue a) s)
  have link := placeOn_link c (newCue (withRequest (.placeCue a) s) c a sh p) (withRequest (.placeCue a) s)
  generalize placeOn _ _ _ = u at owned frame spec link
  have inserted : u.store.timelines[c] = insertCue (newCue s c a sh p) s.store.timelines[c] := by
    rw [spec, timelines_setTimeline, if_pos rfl]
    rfl
  refine ⟨_, exec_settles rfl hf hr owned, ?_, ?_, fun d other => ?_, fun q => ?_, fun rise => ?_, ?_, ?_⟩
  · rw [frame]
    rfl
  · show u.store.threshold = _
    rw [spec]
    rfl
  · show u.store.timelines[d] = _
    rw [spec, timelines_setTimeline, if_neg other.symm]
    rfl
  · show q ∈ u.store.timelines[c] ↔ _
    rw [inserted, mem_insertCue, or_comm]
    rfl
  · show StartsRise u.store.timelines[c]
    rw [inserted]
    exact startsRise_insertCue rise clash
  · have grown := occupied_setTimeline s.store c (insertCue (newCue s c a sh p) s.store.timelines[c])
    rw [length_insertCue] at grown
    show u.store.occupied = _
    rw [spec]
    have same : ((withRequest (.placeCue a) s).store.setTimeline c (insertCue (newCue (withRequest (.placeCue a) s) c a sh p)
      (withRequest (.placeCue a) s).store.timelines[c])).occupied =
        (s.store.setTimeline c (insertCue (newCue s c a sh p) s.store.timelines[c])).occupied := rfl
    omega
  · rw [State.setLink_link, link]
    rfl

/-! ### RETIRE CUE, RETIRE PASSED and SET STORE THRESHOLD (R12, R17 to R19, R145) -/

theorem ownRetireCue_zero (s : State) : ownRetireCue 0 s = refuse .outOfRange s := if_pos rfl

section
variable {n : Nat} {s : State}

theorem ownRetireCue_absent (number : 1 ≤ n) (absent : s.store.find n = none) : ownRetireCue n s = refuse .noSuch s := by
  rw [ownRetireCue, if_neg (by omega), absent]

theorem ownRetireCue_found {c : Fin 49} {q : Cue} (number : 1 ≤ n) (found : s.store.find n = some (c, q)) :
    ownRetireCue n s = done (beBytes 1 (reportedState q s.channels[c] s.clock.showTime).code) (retireOn c q s) := by
  rw [ownRetireCue, if_neg (by omega), found]

theorem retireTaken_eq (v : Voice) (n now : Nat) : v.retireTaken n now =
    { (if v.state = .front then
        { v with fromGain := v.gainAt now, toGain := v.gainAt now, origin := now, duration := 0 } else v) with
      governing := if v.governing = some n then none else v.governing } := by
  unfold Voice.retireTaken
  by_cases front : v.state = .front
  · simp only [if_pos front]
    split_ifs <;> rfl
  · simp only [if_neg front]
    split_ifs <;> rfl

/-- What leaves with a retired cue (R17, R18, R145). -/
theorem retireOn_eq (c : Fin 49) (q : Cue) : retireOn c q s = { s with
    store := s.store.setTimeline c (removeCue q.number s.store.timelines[c])
    channels := if q.isTaken then s.channels.set c (frozenRecord s.channels[c] s.clock.showTime) else s.channels
    play := if q.isTaken ∧ c = programme then s.play.retireTaken q.number s.clock.showTime else s.play } := by
  unfold retireOn
  by_cases taken : q.isTaken = true
  · by_cases voice : c = programme
    · simp only [taken, voice, and_self, if_true]
      rfl
    · simp only [taken, voice, and_false, if_true, if_false]
      rfl
  · simp only [taken]
    rfl

theorem retirePassedOn_timelines (time : Nat) (channel : Option (Fin 49)) (c : Fin 49) :
    (retirePassedOn time channel s).store.timelines[c] =
      if channel = none ∨ channel = some c then s.store.timelines[c].filter (fun q => !passedBefore time q)
      else s.store.timelines[c] := by
  simp [retirePassedOn]

theorem retirePassedOn_threshold (time : Nat) (channel : Option (Fin 49)) :
    (retirePassedOn time channel s).store.threshold = s.store.threshold := by
  simp [retirePassedOn]

theorem ownRetirePassed_in {time : Nat} (channel : Option (Fin 49)) (range : time ≤ Config.showTimeMax) :
    ownRetirePassed time (channel.map (·.val)) s =
      done (beBytes 2 (s.store.occupied - (retirePassedOn time channel s).store.occupied)) (retirePassedOn time channel s) := by
  rw [ownRetirePassed, optFin?_map_val]
  exact if_neg (Nat.not_lt.2 range)

theorem ownRetirePassed_out {time : Nat} {channel : Option Nat} (h : Config.showTimeMax < time ∨ ∃ k, channel = some k ∧ 48 < k) :
    ownRetirePassed time channel s = refuse .outOfRange s := by
  unfold ownRetirePassed
  split
  · rfl
  · next c index =>
    rcases h with late | ⟨k, rfl, beyond⟩
    · exact if_pos late
    · obtain ⟨j, -, same⟩ := Option.map_eq_some_iff.1 (optFin?_eq_some.1 index).symm
      omega

end

theorem ownSetStoreThreshold_in {n : Nat} {s : State} (few : n ≤ 4095) :
    ownSetStoreThreshold n s = done [] (s.setStore { s.store with threshold := n }) := if_neg (Nat.not_lt.2 few)

theorem setStoreThreshold_wf {n : Nat} (h : n ≤ 65535) : (Request.setStoreThreshold n).wf = true := decide_eq_true (by omega)

theorem retireCue_wf {n : Nat} (h : n ≤ 65535) : (Request.retireCue n).wf = true := decide_eq_true (by omega)

theorem retirePassed_wf {time : Nat} (channel : Option (Fin 49)) (h : time ≤ Config.showTimeMax) :
    (Request.retirePassed time (channel.map (·.val))).wf = true := by
  have small : time < 4294967296 := small_of_showTime h
  cases channel with
  | none => simp [Request.wf, fits, fitsOption, small]
  | some c =>
    have := c.isLt
    simp [Request.wf, fits, fitsOption, fitsPresent, small]
    omega

/-- Settles O22: each owner's answer, and what it leaves of the store, the channels and the voices. -/
theorem retireRequestsRemoveTheirCues : Obligations.RetireRequestsRemoveTheirCues := by
  intro s hf
  refine ⟨fun n c q low high found => ?_, exec_refuses rfl hf rfl (ownRetireCue_zero _),
    fun n low high absent => exec_refuses rfl hf (retireCue_wf high) (ownRetireCue_absent low absent),
    fun time channel range => ?_, fun time channel hr out => exec_refuses rfl hf hr (ownRetirePassed_out out),
    fun n small => ⟨fun few => ?_, fun many => ?_⟩⟩
  · obtain ⟨-, number⟩ := Store.find_some found
    have owned : handle (.retireCue n) (withRequest (.retireCue n) s) = _ := ownRetireCue_found low found
    rw [retireOn_eq] at owned
    subst number
    rw [exec_answers rfl hf (retireCue_wf high) owned rfl]
    simp only [Playback.retireTaken, retireTaken_eq]
    rfl
  · have owned : handle (.retirePassed time (channel.map (·.val))) (withRequest (.retirePassed time (channel.map (·.val))) s) = _ :=
      ownRetirePassed_in channel range
    have frame := retirePassedOn_frame (withRequest (.retirePassed time (channel.map (·.val))) s) time channel
    have threshold := retirePassedOn_threshold (s := withRequest (.retirePassed time (channel.map (·.val))) s) time channel
    have timelines := retirePassedOn_timelines (s := withRequest (.retirePassed time (channel.map (·.val))) s) time channel
    generalize retirePassedOn _ _ _ = u at owned frame threshold timelines
    rw [frame] at owned
    exact ⟨_, exec_answers rfl hf (retirePassed_wf channel range) owned rfl, rfl, threshold, rfl, timelines⟩
  · exact exec_answers rfl hf (setStoreThreshold_wf small) (ownSetStoreThreshold_in few) rfl
  · exact exec_refuses rfl hf (setStoreThreshold_wf small) (if_pos many)

/-! ### AMEND CUE (R13 to R16) -/

theorem amendInRange_iff {a : AmendArgs} : amendInRange a = true ↔
    1 ≤ a.number ∧ a.number ≤ 65535 ∧ a.selection < 16 ∧ (a.selection.testBit 0 = true → a.start ≤ Config.showTimeMax) ∧
      (a.selection.testBit 1 = true → a.ramp ≤ Config.rampMax) ∧ (a.selection.testBit 2 = true → a.shape ≤ 1) := by
  have selected (b p : Bool) : (!b || p) = true ↔ (b = true → p = true) := by cases b <;> simp
  simp only [amendInRange, Bool.and_eq_true, selected, decide_eq_true_iff, shape?_isSome_iff, and_assoc]
  rfl

theorem amendCue_number {a : AmendArgs} (hr : (Request.amendCue a).wf = true) : a.number ≤ 65535 := by
  simp only [Request.wf, AmendArgs.wf, fits, Bool.and_eq_true, decide_eq_true_iff] at hr
  omega

theorem amendInRange_of_wf {a : AmendArgs} (hr : (Request.amendCue a).wf = true) : amendInRange a = true ↔
    1 ≤ a.number ∧ a.selection < 16 ∧ (a.selection.testBit 0 = true → a.start ≤ Config.showTimeMax) ∧
      (a.selection.testBit 1 = true → a.ramp ≤ Config.rampMax) ∧ (a.selection.testBit 2 = true → a.shape ≤ 1) :=
  amendInRange_iff.trans (and_congr_right fun _ => and_iff_right (amendCue_number hr))

/-- What a channel's kind leaves of a payload (R2). -/
theorem payload_of_fits {c : Fin 49} {p : Payload} (fits : payloadFits c p = true) :
    (c.val < 32 ∧ ∃ h, p = .jet h) ∨ (32 ≤ c.val ∧ c.val < 48 ∧ ∃ l, p = .head l) ∨
      (c.val = 48 ∧ ((∃ k g, p = .play k g) ∨ (∃ g, p = .gain g) ∨ p = .quiet)) := by
  cases p with
  | jet h => exact .inl ⟨of_decide_eq_true fits, h, rfl⟩
  | head l =>
    obtain ⟨low, high⟩ := Bool.and_eq_true_iff.1 fits
    exact .inr (.inl ⟨of_decide_eq_true low, of_decide_eq_true high, l, rfl⟩)
  | play k g => exact .inr (.inr ⟨of_decide_eq_true fits, .inl ⟨k, g, rfl⟩⟩)
  | gain g => exact .inr (.inr ⟨of_decide_eq_true fits, .inr (.inl ⟨g, rfl⟩)⟩)
  | quiet => exact .inr (.inr ⟨of_decide_eq_true fits, .inr (.inr rfl)⟩)

/-- R16 for a taken cue: off the programme channel nothing is refused, on it a change of the action or of the PLAY's
segment. -/
theorem actionOrSegmentChanges_iff {c : Fin 49} {p q : Payload} (hp : payloadFits c p = true) (hq : payloadFits c q = true) :
    q.actionOrSegmentChanges p = true ↔ c = programme ∧ actionCodes p ≠ actionCodes q := by
  have programme_iff : c = programme ↔ c.val = 48 := Fin.ext_iff
  rcases payload_of_fits hq with ⟨low, h, rfl⟩ | ⟨low, high, l, rfl⟩ | ⟨here, action⟩
  · rcases payload_of_fits hp with ⟨-, h', rfl⟩ | ⟨low', -⟩ | ⟨here', -⟩
    · exact iff_of_false nofun fun ⟨e, _⟩ => by rw [programme_iff] at e; omega
    · omega
    · omega
  · rcases payload_of_fits hp with ⟨low', -⟩ | ⟨-, -, l', rfl⟩ | ⟨here', -⟩
    · omega
    · exact iff_of_false nofun fun ⟨e, _⟩ => by rw [programme_iff] at e; omega
    · omega
  · have action' : (∃ k g, p = .play k g) ∨ (∃ g, p = .gain g) ∨ p = .quiet := by
      rcases payload_of_fits hp with ⟨low', -⟩ | ⟨-, high', -⟩ | ⟨-, action'⟩
      · omega
      · omega
      · exact action'
    rw [and_iff_right (programme_iff.2 here), ne_comm]
    rcases action with ⟨k, g, rfl⟩ | ⟨g, rfl⟩ | rfl <;> rcases action' with ⟨k', g', rfl⟩ | ⟨g', rfl⟩ | rfl <;>
      simp [Payload.actionOrSegmentChanges, actionCodes, payloadFields, Fin.ext_iff]

section
variable {a : AmendArgs} {c : Fin 49} {q : Cue} {p : Payload} {s : State}

theorem payloadFits_amended (fits : payloadFits c q.payload = true) (payload : amendedPayload a c q = some p) :
    payloadFits c p = true := by
  unfold amendedPayload at payload
  split_ifs at payload
  · exact payloadFits_of_readPayload payload
  · cases payload
    exact fits

theorem ownAmendCue_out (h : ¬amendInRange a = true) : ownAmendCue a s = refuse .outOfRange s := by
  rw [ownAmendCue, if_pos (by rwa [Bool.not_eq_true', ← Bool.not_eq_true])]

theorem ownAmendCue_absent (range : amendInRange a = true) (absent : s.store.find a.number = none) :
    ownAmendCue a s = refuse .noSuch s := by
  rw [ownAmendCue, range, absent]
  rfl

theorem ownAmendCue_payload (range : amendInRange a = true) (found : s.store.find a.number = some (c, q))
    (payload : amendedPayload a c q = none) : ownAmendCue a s = refuse .outOfRange s := by
  simp only [ownAmendCue, range, found, payload]
  rfl

/-- The dispatch time that an amended WAITING cue has (R14). -/
def amendedDispatch (a : AmendArgs) (c : Fin 49) (q : Cue) (s : State) : Nat :=
  if AmendArgs.selects a 0 && a.start != q.start then dispatchTime (leadOf s c) a.start else q.dispatch

/-- An accepted amendment, by the state of its cue (R14, R15). -/
def amendAccepted (a : AmendArgs) (c : Fin 49) (q : Cue) (p : Payload) (s : State) : Owned :=
  if q.state = .waiting then done (beBytes 4 (amendedDispatch a c q s)) (amendWaiting a c q (amendedCue a q p) s)
  else done (beBytes 4 q.dispatch) (amendTaken c q (amendedCue a q p) s)

/-- The checks of R13 in their order, once the fields are in their ranges. -/
theorem ownAmendCue_checks (range : amendInRange a = true) (found : s.store.find a.number = some (c, q))
    (payload : amendedPayload a c q = some p) (fits : payloadFits c q.payload = true) : ownAmendCue a s =
      if q.state = .passed then refuse .wrongState s
      else if (q.state = .live ∨ q.state = .standing) ∧ ((a.selection.testBit 0 = true ∧ a.start ≠ q.start) ∨
          (c = programme ∧ actionCodes p ≠ actionCodes q.payload)) then refuse .inUse s
      else if (q.state = .waiting ∧ a.selection.testBit 0 = true) ∧
          ∃ d ∈ s.store.timelines[c], d.number ≠ q.number ∧ d.start = a.start then refuse .clash s
      else if (q.state = .waiting ∧ a.selection.testBit 0 = true) ∧
          ∃ d ∈ s.store.timelines[c], d.state ≠ .waiting ∧ a.start < d.start then refuse .tooLate s
      else if a.selection.testBit 3 = true ∧ (∃ k, p.segment? = some k ∧ s.play.segments[k].state ≠ .ready) then
        refuse .unready s
      else amendAccepted a c q p s := by
  have sel (k : Nat) : AmendArgs.selects a k = a.selection.testBit k := rfl
  have inUse : amendInUse a q (amendedCue a q p) = true ↔ (a.selection.testBit 0 = true ∧ a.start ≠ q.start) ∨
      (c = programme ∧ actionCodes p ≠ actionCodes q.payload) := by
    rw [amendInUse, Bool.or_eq_true, Bool.and_eq_true, bne_iff_ne, sel]
    exact or_congr Iff.rfl (actionOrSegmentChanges_iff (payloadFits_amended fits payload) fits)
  simp only [ownAmendCue, range, found, payload, Bool.not_true, Bool.false_eq_true, if_false, ← inUse, ← otherHasStart_iff,
    ← tooLate_iff, ← unready_iff, amendAccepted, amendedDispatch]
  cases q.state <;> simp [sel]

end

/-- Settles O20: the ranges, then the owner's checks in their order. -/
theorem amendCueRefusesInOrder : Obligations.AmendCueRefusesInOrder := by
  intro a s hf hr
  dsimp only
  rw [← amendInRange_of_wf hr]
  refine ⟨fun out => exec_refuses rfl hf hr (ownAmendCue_out out),
    fun range absent => exec_refuses rfl hf hr (ownAmendCue_absent range absent),
    fun c q range found fits => ⟨fun selected out => ?_, fun _ inside => readPayload_of_range inside, fun p payload => ?_⟩⟩
  · refine exec_refuses rfl hf hr (ownAmendCue_payload range found ?_)
    exact (if_pos selected).trans (readPayload_eq_none out)
  · have owned : handle (.amendCue a) (withRequest (.amendCue a) s) = _ :=
      ownAmendCue_checks range found payload fits
    have store : (withRequest (.amendCue a) s).store = s.store := rfl
    have play : (withRequest (.amendCue a) s).play = s.play := rfl
    rw [store, play] at owned
    split_ifs at owned ⊢
    · exact exec_refuses rfl hf hr owned
    · exact exec_refuses rfl hf hr owned
    · exact exec_refuses rfl hf hr owned
    · exact exec_refuses rfl hf hr owned
    · exact exec_refuses rfl hf hr owned
    · unfold amendAccepted at owned
      split_ifs at owned
      · exact ⟨_, exec_settles rfl hf hr owned, _, rfl, rfl⟩
      · exact ⟨_, exec_settles rfl hf hr owned, _, rfl, rfl⟩

section
variable {a : AmendArgs} {c : Fin 49} {q r : Cue} {p : Payload} {s : State}

/-- An amendment that changes ramp, shape or payload restarts the transition (R13, R15, R145). -/
theorem amendTaken_changed (changes : amendChanges q r = true) : amendTaken c q r s = { s with
    store := s.store.setTimeline c (replaceCue q.number
      { r with state := takenState (restartedRecord r s.channels[c] s.clock.showTime) s.clock.showTime } s.store.timelines[c])
    channels := s.channels.set c (restartedRecord r s.channels[c] s.clock.showTime)
    play := if c = programme then s.play.amendTaken
      { r with state := takenState (restartedRecord r s.channels[c] s.clock.showTime) s.clock.showTime } s.clock.showTime
      else s.play } := by
  rw [amendTaken, if_pos changes]
  dsimp only
  split_ifs <;> rfl

theorem getElem_set_channel (channels : Vector ChannelRec 49) (c d : Fin 49) (rec : ChannelRec) :
    (channels.set c rec)[d] = if c = d then rec else channels[d] := by
  simp [Vector.getElem_set, Fin.ext_iff]

theorem amendTaken_unchanged (changes : ¬amendChanges q r = true) : amendTaken c q r s = s := if_neg changes

theorem amendChanges_iff : amendChanges q r = true ↔ (q.ramp, q.shape, q.payload) ≠ (r.ramp, r.shape, r.payload) := by
  simp only [amendChanges, Bool.or_eq_true, bne_iff_ne, ne_eq, Prod.mk.injEq, not_and_or, or_assoc]

/-- A transition that starts now is complete only where it takes no time (R46). -/
theorem takenState_restarted (rec : ChannelRec) (now : Nat) :
    takenState (restartedRecord r rec now) now = if r.ramp = 0 then .standing else .live := by
  have complete : (restartedRecord r rec now).completeAt now = true ↔ r.ramp = 0 := by
    show (decide (r.ramp = 0) || decide (now + r.ramp ≤ now)) = true ↔ _
    rw [Bool.or_eq_true, decide_eq_true_iff, decide_eq_true_iff]
    omega
  simp only [takenState, complete]

/-- What the voices do at an amendment of a taken QUIET cue (R145). -/
theorem amendTaken_quiet (x : Playback) (now : Nat) (quiet : r.payload = .quiet) : x.amendTaken r now =
    { x with v0 := x.v0.amendQuiet r.ramp r.number now, v1 := x.v1.amendQuiet r.ramp r.number now } := by
  rw [Playback.amendTaken, quiet]

/-- What the voices do at an amendment of a taken PLAY or GAIN cue (R145). -/
theorem amendTaken_gain (x : Playback) (now : Nat) (fits : payloadFits programme r.payload = true) (gains : r.payload ≠ .quiet) :
    x.amendTaken r now = { x with
      v0 := x.v0.amendGain r.payload.target.r r.ramp r.number now
      v1 := x.v1.amendGain r.payload.target.r r.ramp r.number now } := by
  unfold Playback.amendTaken
  rcases payload_of_fits fits with ⟨low, -⟩ | ⟨-, high, -⟩ | ⟨-, ⟨k, g, e⟩ | ⟨g, e⟩ | e⟩
  · exact absurd low (by decide)
  · exact absurd high (by decide)
  · rw [e]; rfl
  · rw [e]; rfl
  · exact absurd e gains

theorem mem_replaceCue {n : Nat} {d : Cue} {tl : List Cue} (there : ∃ x ∈ tl, x.number = n) :
    d ∈ replaceCue n r tl ↔ (d ∈ tl ∧ d.number ≠ n) ∨ d = r := by
  rw [replaceCue, List.mem_map]
  constructor
  · rintro ⟨x, mem, rfl⟩
    by_cases named : x.number = n
    · exact .inr (if_pos named)
    · rw [if_neg named]
      exact .inl ⟨mem, named⟩
  · rintro (⟨mem, other⟩ | rfl)
    · exact ⟨d, mem, if_neg other⟩
    · obtain ⟨x, mem, named⟩ := there
      exact ⟨x, mem, if_pos named⟩

/-- The timeline after an accepted amendment of a WAITING cue (R14). -/
theorem amendWaiting_spec (mem : q ∈ s.store.timelines[c]) (dispatch : q.dispatch = dispatchTime (leadOf s c) q.start)
    (start : r.start = q.start) (same : r.dispatch = q.dispatch) :
    ∃ tl, (amendWaiting a c q r s).store = s.store.setTimeline c tl ∧
      ∀ d, d ∈ tl ↔ (d ∈ s.store.timelines[c] ∧ d.number ≠ q.number) ∨
        d = { r with
          start := if a.selection.testBit 0 then a.start else q.start
          dispatch := (if a.selection.testBit 0 then a.start else q.start) - leadOf s c } := by
  have others (d : Cue) : d ∈ removeCue q.number s.store.timelines[c] ↔ d ∈ s.store.timelines[c] ∧ d.number ≠ q.number := by
    rw [removeCue, List.mem_filter, bne_iff_ne]
  rw [amendWaiting]
  by_cases moves : (AmendArgs.selects a 0 && a.start != q.start) = true
  · have selected : a.selection.testBit 0 = true := (Bool.and_eq_true_iff.1 moves).1
    refine ⟨_, congrArg State.store (if_pos moves), fun d => ?_⟩
    rw [mem_insertCue, or_comm, others, if_pos selected]
    rfl
  · have stays : (if a.selection.testBit 0 then a.start else q.start) = q.start := by
      split_ifs with selected
      · by_contra other
        exact moves (Bool.and_eq_true_iff.2 ⟨selected, bne_iff_ne.2 other⟩)
      · rfl
    have whole : { r with start := q.start, dispatch := q.start - leadOf s c } = r := by
      rw [← start, show r.start - leadOf s c = r.dispatch by rw [same, dispatch, start]; rfl]
    refine ⟨_, congrArg State.store (if_neg moves), fun d => ?_⟩
    rw [stays, whole]
    exact mem_replaceCue ⟨q, mem, rfl⟩

/-- The dispatch time that the answer to an amendment of a WAITING cue carries (R14). -/
theorem amendedDispatch_eq (dispatch : q.dispatch = dispatchTime (leadOf s c) q.start) : amendedDispatch a c q s =
    (if a.selection.testBit 0 then a.start else q.start) - leadOf s c := by
  unfold amendedDispatch
  by_cases moves : (AmendArgs.selects a 0 && a.start != q.start) = true
  · have selected : a.selection.testBit 0 = true := (Bool.and_eq_true_iff.1 moves).1
    rw [if_pos moves, if_pos selected]
    rfl
  · rw [if_neg moves, dispatch]
    split_ifs with selected
    · have same : a.start = q.start := by
        by_contra other
        exact moves (Bool.and_eq_true_iff.2 ⟨selected, bne_iff_ne.2 other⟩)
      rw [same]
      rfl
    · rfl

end

/-- Settles O21: the refusals by the cue's state, and what an accepted amendment leaves. -/
theorem amendCueFollowsTheCueState : Obligations.AmendCueFollowsTheCueState := by
  intro a c q p s hf hr range found fits payload
  have owned : handle (.amendCue a) (withRequest (.amendCue a) s) = _ := ownAmendCue_checks range found payload fits
  have taken_iff : q.isTaken = true ↔ q.state = .live ∨ q.state = .standing := by
    rw [Cue.isTaken, Bool.or_eq_true, beq_iff_eq, beq_iff_eq]
  obtain ⟨mem, number⟩ := Store.find_some found
  refine ⟨fun passed => ?_, fun taken refused => ?_, fun taken still calm ready => ?_, fun waiting ready room dispatch => ?_⟩
  · rw [if_pos passed] at owned
    exact exec_refuses rfl hf hr owned
  · have there := taken_iff.1 taken
    have kept : q.state ≠ .passed := by rcases there with e | e <;> rw [e] <;> nofun
    rw [if_neg kept, if_pos ⟨there, refused⟩] at owned
    exact exec_refuses rfl hf hr owned
  · have there := taken_iff.1 taken
    have kept : q.state ≠ .passed := by rcases there with e | e <;> rw [e] <;> nofun
    have acting : q.state ≠ .waiting := by rcases there with e | e <;> rw [e] <;> nofun
    rw [if_neg kept, if_neg fun ⟨_, refused⟩ => refused.elim still calm, if_neg fun ⟨⟨waits, _⟩, _⟩ => acting waits,
      if_neg fun ⟨⟨waits, _⟩, _⟩ => acting waits, if_neg fun ⟨selected, k, named, unready⟩ => unready (ready selected k named),
      amendAccepted, if_neg acting] at owned
    by_cases changes : amendChanges q (amendedCue a q p) = true
    · rw [amendTaken_changed changes] at owned
      refine ⟨_, exec_answers rfl hf hr owned rfl, rfl, rfl, rfl, fun d other => ⟨?_, ?_⟩, fun same => ?_, fun _ => ⟨?_, ?_, ?_⟩⟩
      · exact (getElem_set_channel ..).trans (if_neg other.symm)
      · exact (timelines_setTimeline ..).trans (if_neg other.symm)
      · exact absurd same (amendChanges_iff.1 changes)
      · exact (getElem_set_channel ..).trans (if_pos rfl)
      · refine ((timelines_setTimeline ..).trans (if_pos rfl)).trans ?_
        rw [takenState_restarted]
        rfl
      · by_cases voices : c = programme
        · have kind : payloadFits programme p = true := voices ▸ payloadFits_amended fits payload
          refine (if_pos voices).trans (Eq.trans ?_ (if_pos voices).symm)
          by_cases quiet : p = .quiet
          · simp only [if_pos quiet]
            exact amendTaken_quiet _ _ quiet
          · simp only [if_neg quiet]
            exact amendTaken_gain _ _ kind quiet
        · exact (if_neg voices).trans (if_neg voices).symm
    · rw [amendTaken_unchanged changes] at owned
      exact ⟨_, exec_answers rfl hf hr owned rfl, rfl, rfl, rfl, fun _ _ => ⟨rfl, rfl⟩, fun _ => ⟨rfl, rfl, rfl⟩,
        fun differs => absurd (amendChanges_iff.2 differs) changes⟩
  · have here : ¬(q.state = .live ∨ q.state = .standing) := by rw [waiting]; nofun
    rw [if_neg (by rw [waiting]; nofun), if_neg fun ⟨taken, _⟩ => here taken,
      if_neg fun ⟨⟨_, selected⟩, d, hd, other, same⟩ => (room selected d hd).1 other same,
      if_neg fun ⟨⟨_, selected⟩, d, hd, acts, before⟩ => absurd ((room selected d hd).2 acts) (Nat.not_le.2 before),
      if_neg fun ⟨selected, k, named, unready⟩ => unready (ready selected k named), amendAccepted, if_pos waiting,
      amendedDispatch_eq (s := withRequest _ s) dispatch] at owned
    obtain ⟨tl, store, cues⟩ := amendWaiting_spec (a := a) (r := amendedCue a q p) (s := withRequest (.amendCue a) s) mem
      dispatch rfl rfl
    have frame := amendWaiting_frame (withRequest (.amendCue a) s) a c q (amendedCue a q p)
    generalize amendWaiting _ _ _ _ _ = u at owned store frame
    rw [frame, store] at owned
    refine ⟨_, exec_answers rfl hf hr owned rfl, rfl, rfl, fun d other => ?_, rfl, fun d => ?_⟩
    · exact (timelines_setTimeline ..).trans (if_neg other.symm)
    · exact (iff_of_eq (congrArg (d ∈ ·) ((timelines_setTimeline ..).trans (if_pos rfl)))).trans (cues d)

end Sys2Proof.Machine
end

section

/-! # SET GROUP (4.10) -/

namespace Sys2Proof.Machine

open Sys2Proof.Safety

/-! ### The ranges and checks of R80 -/

section
variable {a : GroupArgs} {n : Fin 32} {pump : Option (Fin 40)} {valve : Option ValveBinding} {s : State} {g : Group}

theorem groupInRange_iff : groupInRange a = true ↔ a.heightLimit ≤ 6000 ∧ a.lead ≤ 5000 ∧
    (∀ v ∈ [a.upStep, a.downStep, a.safeDownStep], 1 ≤ v ∧ v ≤ 200) ∧ a.bypass ≤ 1000 ∧ a.ratedPower ≤ 2000 ∧
      (a.enabled = true → a.pumpNode ≠ none) := by
  have needs : (!a.enabled || a.pumpNode.isSome) = true ↔ (a.enabled = true → a.pumpNode ≠ none) := by
    rw [Option.ne_none_iff_isSome]
    cases a.enabled <;> simp
  simp only [groupInRange, Bool.and_eq_true, decide_eq_true_iff, needs, List.forall_mem_cons, and_assoc]
  simp

theorem optFin?_isSome_iff {m : Nat} {o : Option Nat} : (optFin? m o).isSome = true ↔ ∀ k, o = some k → k < m := by
  rw [Option.isSome_iff_exists]
  simp only [optFin?_eq_some]
  constructor
  · rintro ⟨i, rfl⟩ k there
    obtain ⟨j, -, rfl⟩ := Option.map_eq_some_iff.1 there
    exact j.isLt
  · intro inside
    cases o with
    | none => exact ⟨none, rfl⟩
    | some k => exact ⟨some ⟨k, inside k rfl⟩, rfl⟩

theorem valveBinding?_eq_some {v : Option ValveArgs} : valveBinding? v = some valve ↔
    v = valve.map (fun b => { node := b.node.val, output := b.output.val }) := by
  cases v with
  | none => cases valve <;> simp [valveBinding?]
  | some b =>
    constructor
    · intro h
      simp only [valveBinding?] at h
      split at h
      · next i o node output =>
        cases h
        have node := fin?_eq_some.1 node
        have output := fin?_eq_some.1 output
        cases b
        exact congrArg some (congr (congrArg ValveArgs.mk node) output)
      · cases h
    · intro h
      obtain ⟨w, rfl, rfl⟩ := Option.map_eq_some_iff.1 h.symm
      simp [valveBinding?, fin?_val]

theorem valveBinding?_isSome_iff {v : Option ValveArgs} : (valveBinding? v).isSome = true ↔
    ∀ b, v = some b → b.node < 40 ∧ b.output < 8 := by
  rw [Option.isSome_iff_exists]
  simp only [valveBinding?_eq_some]
  constructor
  · rintro ⟨w, rfl⟩ b there
    obtain ⟨x, -, rfl⟩ := Option.map_eq_some_iff.1 there
    exact ⟨x.node.isLt, x.output.isLt⟩
  · intro inside
    cases v with
    | none => exact ⟨none, rfl⟩
    | some b =>
      obtain ⟨node, output⟩ := inside b rfl
      exact ⟨some { node := ⟨b.node, node⟩, output := ⟨b.output, output⟩ }, rfl⟩

theorem namesAbsent_iff : namesAbsent s pump valve = true ↔
    ∃ i ∈ pump.toList ++ (valve.map (·.node)).toList, (s.node i).state = .absent := by
  simp only [namesAbsent, Bool.or_eq_true, List.mem_append, or_and_right, exists_or]
  cases pump <;> cases valve <;> simp [nodeAbsent, State.node]

theorem namesWrongKind_iff : namesWrongKind s pump valve = true ↔
    (∃ i ∈ pump.toList, (s.node i).kind = .valve) ∨ (∃ v ∈ valve.toList, (s.node v.node).kind = .pump) := by
  rw [namesWrongKind, Bool.or_eq_true]
  cases pump <;> cases valve <;> simp [State.node]

theorem boundElsewhere_iff : boundElsewhere s n pump valve = true ↔
    ∃ k : Fin 32, k ≠ n ∧ ((pump ≠ none ∧ s.water.groups[k].pumpNode = pump) ∨
      (valve ≠ none ∧ s.water.groups[k].valve = valve)) := by
  simp only [boundElsewhere, List.any_eq_true, List.mem_finRange, true_and, Bool.and_eq_true, Bool.or_eq_true, bne_iff_ne,
    beq_iff_eq, Option.ne_none_iff_isSome]

theorem removesRunningPump_iff : removesRunningPump s g pump = true ↔
    (∃ i ∈ g.pumpNode.toList, pump ≠ some i ∧ (s.node i).state ∈ [.joining, .online, .suspect]) ∧
      (0 < g.issued ∨ 0 < g.delivered) := by
  have claims : 0 < g.claimed ↔ 0 < g.issued ∨ 0 < g.delivered := lt_max_iff
  rw [removesRunningPump, ← claims]
  cases g.pumpNode with
  | none => simp
  | some i => simp [State.node, and_assoc, and_comm, and_left_comm, or_assoc]

theorem removesOpenValve_iff : removesOpenValve g valve = true ↔ g.valve ≠ none ∧ valve ≠ g.valve ∧ g.valveOpen = true := by
  simp only [removesOpenValve, Bool.and_eq_true, bne_iff_ne, Option.ne_none_iff_isSome, and_assoc]

theorem curveAllZero_iff {curve : Vector CurvePoint 8} :
    curveAllZero curve = true ↔ ∀ k : Fin 8, curve[k] = { height := 0, speed := 0 } := by
  have zero (p : CurvePoint) : (p.height == 0 && p.speed == 0) = true ↔ p = { height := 0, speed := 0 } := by
    rw [Bool.and_eq_true, beq_iff_eq, beq_iff_eq, CurvePoint.mk.injEq]
  simp only [curveAllZero, List.all_eq_true, zero]
  constructor
  · exact fun all k => all _ (by simp)
  · intro all p mem
    obtain ⟨k, hk, rfl⟩ := List.mem_iff_getElem.1 mem
    exact all ⟨k, by simpa using hk⟩

/-- A field out of its range leaves SET GROUP refused (R80). -/
theorem ownSetGroup_out (h : ¬(a.group < 32 ∧ (∀ i, a.pumpNode = some i → i < 40) ∧
    (∀ v, a.valve = some v → v.node < 40 ∧ v.output < 8) ∧ (∀ k, a.windClass = some k → k < 4) ∧ groupInRange a = true)) :
    ownSetGroup a s = refuse .outOfRange s := by
  unfold ownSetGroup
  split
  · next n pump valve wind group pumpIs valveIs windIs =>
    refine if_pos ?_
    rw [Bool.not_eq_true', ← Bool.not_eq_true]
    intro inside
    have group := fin?_eq_some.1 group
    exact h ⟨by omega, optFin?_isSome_iff.1 (by rw [pumpIs]; rfl), valveBinding?_isSome_iff.1 (by rw [valveIs]; rfl),
      optFin?_isSome_iff.1 (by rw [windIs]; rfl), inside⟩
  · rfl

/-- The checks of R80 in their order, once every field is in its range. -/
theorem ownSetGroup_checks {wind : Option (Fin 4)} (group : a.group = n.val) (pumpIs : a.pumpNode = pump.map (·.val))
    (valveIs : a.valve = valve.map (fun v => { node := v.node.val, output := v.output.val }))
    (windIs : a.windClass = wind.map (·.val)) (range : groupInRange a = true) : ownSetGroup a s =
      if namesAbsent s pump valve then refuse .noSuch s
      else if namesWrongKind s pump valve then refuse .outOfRange s
      else if boundElsewhere s n pump valve then refuse .duplicate s
      else if removesRunningPump s s.water.groups[n] pump then refuse .inUse s
      else if removesOpenValve s.water.groups[n] valve then refuse .inUse s
      else if a.enabled && curveAllZero s.water.groups[n].curve then refuse .wrongState s
      else done [] (acceptGroup n (configuredGroup s s.water.groups[n] a pump valve wind) s) := by
  have index : fin? 32 a.group = some n := fin?_eq_some.2 group
  have pumpNode : optFin? 40 a.pumpNode = some pump := optFin?_eq_some.2 pumpIs
  have binding : valveBinding? a.valve = some valve := valveBinding?_eq_some.2 valveIs
  have windClass : optFin? 4 a.windClass = some wind := optFin?_eq_some.2 windIs
  simp only [ownSetGroup, index, pumpNode, binding, windClass, range]
  rfl

theorem ownSetGroup_accepts {wind : Option (Fin 4)} (group : a.group = n.val) (pumpIs : a.pumpNode = pump.map (·.val))
    (valveIs : a.valve = valve.map (fun v => { node := v.node.val, output := v.output.val }))
    (windIs : a.windClass = wind.map (·.val)) (range : groupInRange a = true) (present : namesAbsent s pump valve = false)
    (kind : namesWrongKind s pump valve = false) (free : boundElsewhere s n pump valve = false)
    (still : removesRunningPump s s.water.groups[n] pump = false) (shut : removesOpenValve s.water.groups[n] valve = false)
    (curve : (a.enabled && curveAllZero s.water.groups[n].curve) = false) : ownSetGroup a s =
      done [] (acceptGroup n (configuredGroup s s.water.groups[n] a pump valve wind) s) := by
  rw [ownSetGroup_checks group pumpIs valveIs windIs range, present, kind, free, still, shut, curve]
  rfl

end

/-- Settles O24: the ranges, then the owner's checks in their order. -/
theorem setGroupRefusesInOrder : Obligations.SetGroupRefusesInOrder := by
  intro a s hf hr
  dsimp only
  refine ⟨fun out => exec_refuses rfl hf hr (ownSetGroup_out fun ⟨group, pump, valve, wind, fields⟩ =>
    out ⟨group, pump, valve, wind, groupInRange_iff.1 fields⟩), fun n pump valve inside group pumpIs valveIs => ?_⟩
  obtain ⟨-, -, -, windInside, fields⟩ := inside
  obtain ⟨wind, windIs⟩ := Option.isSome_iff_exists.1 (optFin?_isSome_iff.2 windInside)
  have owned : handle (.setGroup a) (withRequest (.setGroup a) s) = _ :=
    ownSetGroup_checks group pumpIs valveIs (optFin?_eq_some.1 windIs) (groupInRange_iff.2 fields)
  simp only [namesAbsent_iff, namesWrongKind_iff, boundElsewhere_iff, removesRunningPump_iff, removesOpenValve_iff,
    Bool.and_eq_true, curveAllZero_iff] at owned
  have water : (withRequest (.setGroup a) s).water = s.water := rfl
  have node : (withRequest (.setGroup a) s).node = s.node := rfl
  rw [water, node] at owned
  split_ifs at owned ⊢
  · exact exec_refuses rfl hf hr owned
  · exact exec_refuses rfl hf hr owned
  · exact exec_refuses rfl hf hr owned
  · exact exec_refuses rfl hf hr owned
  · exact exec_refuses rfl hf hr owned
  · exact exec_refuses rfl hf hr owned
  · exact ⟨_, exec_settles rfl hf hr owned, _, rfl, rfl⟩

/-! ### What an accepted SET GROUP writes (R81, R110, R111) -/

theorem setCondition_agrees {c : SafeCause} {holds : Bool} {s : State} (agrees : c.memberOf s.sup.causes = holds) :
    setCondition c holds s = s := by
  cases holds with
  | true => exact if_pos agrees
  | false =>
    have absent : ∀ (c : SafeCause) (x : BitVec 6), c.memberOf x = false → x &&& ~~~c.bit = x := by
      intro c
      cases c <;> decide
    show s.setSup { s.sup with causes := s.sup.causes &&& ~~~c.bit } = s
    rw [absent c _ agrees]
    rfl

/-- The record and the dispatch times of an accepted SET GROUP, before CRITICAL_LOST is worked out (R23, R81). -/
def groupWritten (n : Fin 32) (g : Group) (s : State) : State := { s with
  store := if g.lead ≠ s.water.groups[n].lead then
      s.store.setTimeline (jetChannel n) (recomputeDispatch g.lead s.store.timelines[jetChannel n]) else s.store
  water := (setGroupRec n g s).water }

theorem groupWritten_threshold (n : Fin 32) (g : Group) (s : State) :
    (groupWritten n g s).store.threshold = s.store.threshold := by
  unfold groupWritten
  dsimp only
  split_ifs <;> rfl

theorem groupWritten_timelines (n : Fin 32) (g : Group) (s : State) (c : Fin 49) :
    (groupWritten n g s).store.timelines[c] = if c = jetChannel n ∧ g.lead ≠ s.water.groups[n].lead then
      s.store.timelines[c].map (fun q => { q with dispatch := q.start - g.lead }) else s.store.timelines[c] := by
  unfold groupWritten
  dsimp only
  by_cases changed : g.lead ≠ s.water.groups[n].lead
  · rw [if_pos changed, timelines_setTimeline]
    by_cases here : c = jetChannel n
    · rw [if_pos here.symm, if_pos ⟨here, changed⟩, here]
      rfl
    · rw [if_neg (Ne.symm here), if_neg (fun both => here both.1)]
  · rw [if_neg changed, if_neg (fun both => changed both.2)]

/-- CRITICAL_LOST follows an accepted SET GROUP also where neither the critical flag nor the pump node is changed, since
its cause agreed with the condition before (R110, R111). -/
theorem acceptGroup_eq {n : Fin 32} {g : Group} {s : State}
    (agrees : SafeCause.criticalLost.memberOf s.sup.causes = (criticalLostGroup s).isSome) :
    acceptGroup n g s = evalCritical (groupWritten n g s) := by
  have written : acceptGroup n g s = if g.critical ≠ s.water.groups[n].critical ∨ g.pumpNode ≠ s.water.groups[n].pumpNode then
      evalCritical (groupWritten n g s) else groupWritten n g s := by
    unfold acceptGroup groupWritten
    dsimp only
    split_ifs <;> rfl
  rw [written]
  split_ifs with changes
  · rfl
  · rw [not_or, not_ne_iff, not_ne_iff] at changes
    obtain ⟨critical, pump⟩ := changes
    have same : SameCritical s (groupWritten n g s) :=
      (sameCritical_setGroupRec_of critical pump).trans (sameCritical_of_eq rfl rfl)
    refine (setCondition_agrees ?_).symm
    rw [criticalLostGroup_congr same]
    exact agrees

theorem addCause_present {c : SafeCause} {s : State} (present : c.memberOf s.sup.causes = true) : addCause c s = s :=
  if_pos present

/-- The link's part of a cause that enters is only its pending set: the answer is placed beside it. -/
theorem addCause_setState (c : SafeCause) (x : LinkState) (s : State) :
    (addCause c s).setLink { (addCause c s).link with state := x } = addCause c (s.setLink { s.link with state := x }) := by
  rcases addCause_cases c s with ⟨present, eq⟩ | ⟨absent, safe, eq⟩ | ⟨absent, outside, eq⟩
  · rw [eq]
    exact (addCause_present (s := s.setLink { s.link with state := x }) present).symm
  · rw [eq, addCause_joins (s := s.setLink { s.link with state := x }) absent safe]
    rfl
  · rw [eq, addCause_enters (s := s.setLink { s.link with state := x }) absent outside]
    rfl

/-- Where CRITICAL_LOST stands after the groups were written, beside the answer placed in the link. -/
theorem evalCritical_groupWritten {n : Fin 32} {g : Group} {s : State} {r : Request} {x : LinkState} :
    let u := groupWritten n g (withRequest r s)
    let written : State := { s with
      store := u.store
      water := u.water
      link := { linkWithRequest r s with state := x } }
    let lost := ∃ k : Fin 32, u.water.groups[k].critical = true ∧
      ∃ i : Fin 40, u.water.groups[k].pumpNode = some i ∧ (s.node i).state ≠ .online
    let left := (evalCritical u).setLink { (evalCritical u).link with state := x }
    (lost → left = addCause .criticalLost written) ∧
    (¬lost → left = { written with sup := { s.sup with causes := s.sup.causes &&& ~~~SafeCause.criticalLost.bit } }) := by
  intro u written lost left
  have critical : (criticalLostGroup u).isSome = true ↔ lost := by
    simp only [criticalLostGroup_isSome, groupCriticalLost_iff]
    rfl
  refine ⟨fun loses => ?_, fun calm => ?_⟩
  · have lose : (criticalLostGroup u).isSome = true := critical.2 loses
    simp only [left, evalCritical, lose, setCondition, if_true, addCause_setState]
    rfl
  · have keep : (criticalLostGroup u).isSome = false := Bool.eq_false_iff.2 fun lose => calm (critical.1 lose)
    simp only [left, evalCritical, keep, setCondition]
    rfl

theorem configuredGroup_eq {s : State} {g : Group} {a : GroupArgs} {pump : Option (Fin 40)} {valve : Option ValveBinding}
    {wind : Option (Fin 4)} : configuredGroup s g a pump valve wind = { g with
      enabled := a.enabled
      critical := a.critical
      pumpNode := pump
      valve := valve
      heightLimit := a.heightLimit
      lead := a.lead
      upStep := a.upStep
      downStep := a.downStep
      safeDownStep := a.safeDownStep
      bypass := a.bypass
      windClass := wind
      ratedPower := a.ratedPower
      issued := if pump = g.pumpNode then g.issued else 0
      delivered := if pump = g.pumpNode then g.delivered else 0
      valveOpen := g.valveOpen && decide (valve = g.valve) && !(g.pumpNode.isSome && pump.isNone)
      flags := if pump = g.pumpNode then g.flags else
        { g.flags with declined := false, lost := pump.any (fun i => (s.node i).state == .lost) } } := by
  have lost : pumpLost s pump = pump.any (fun i => (s.node i).state == .lost) := by cases pump <;> rfl
  have closes : (if (valve != g.valve || g.pumpNode.isSome && pump.isNone) = true then false else g.valveOpen) =
      (g.valveOpen && decide (valve = g.valve) && !(g.pumpNode.isSome && pump.isNone)) := by
    by_cases same : valve = g.valve
    · cases g.pumpNode.isSome && pump.isNone <;> simp [same]
    · simp [same]
  by_cases kept : pump = g.pumpNode
  · simp only [configuredGroup, closes]
    simp [kept]
  · have changed : (pump != g.pumpNode) = true := bne_iff_ne.2 kept
    simp only [configuredGroup, closes, changed, if_neg kept, if_true, lost]

/-- Settles O23: the record written, the dispatch times, and CRITICAL_LOST worked out over the groups left. -/
theorem setGroupWritesTheRecord : Obligations.SetGroupWritesTheRecord := by
  intro a n pump valve wind s hf hr group pumpIs valveIs windIs range present kind free g still shut curve agrees
  have owned : handle (.setGroup a) (withRequest (.setGroup a) s) =
      done [] (acceptGroup n (configuredGroup s g a pump valve wind) (withRequest (.setGroup a) s)) :=
    ownSetGroup_accepts group pumpIs valveIs windIs range present kind free still shut curve
  rw [acceptGroup_eq (s := withRequest (.setGroup a) s) agrees] at owned
  have left := exec_settles (i := .setGroup a) rfl hf hr owned
  obtain ⟨loses, calms⟩ := evalCritical_groupWritten (n := n) (g := configuredGroup s g a pump valve wind) (s := s)
  refine ⟨_, _, fun lost => left.trans (congrArg _ (loses lost)), fun calm => left.trans (congrArg _ (calms calm)),
    groupWritten_threshold .., ?_, fun c => ?_⟩
  · rw [← configuredGroup_eq]
    rfl
  · exact groupWritten_timelines ..

end Sys2Proof.Machine
end

section

/-! # The eight record reads (11.4) -/

namespace Sys2Proof.Machine

open Sys2Proof.Safety

/-! ### A record as a row of fields -/

/-- The bytes of a row of fields. -/
def fieldBytes (fields : List (Nat × Nat)) : List Byte := fields.flatMap fun f => beBytes f.1 f.2

@[simp] theorem fieldBytes_nil : fieldBytes [] = [] := rfl

@[simp] theorem fieldBytes_cons (f : Nat × Nat) (fields : List (Nat × Nat)) :
    fieldBytes (f :: fields) = beBytes f.1 f.2 ++ fieldBytes fields := List.flatMap_cons

@[simp] theorem fieldBytes_append (a b : List (Nat × Nat)) : fieldBytes (a ++ b) = fieldBytes a ++ fieldBytes b :=
  List.flatMap_append

theorem showsFields_after (before : List Byte) (fields : List (Nat × Nat)) :
    ShowsFields (before ++ fieldBytes fields) before.length fields := by
  induction fields generalizing before with
  | nil => simp [ShowsFields]
  | cons f rest ih =>
    obtain ⟨len, value⟩ := f
    refine ⟨?_, ?_⟩
    · rw [Shows, field, List.drop_left, fieldBytes_cons, List.take_left' (length_beBytes ..), beValue_beBytes]
    · have shown := ih (before ++ beBytes len value)
      rwa [List.length_append, length_beBytes, List.append_assoc] at shown

theorem showsFields_fieldBytes (fields : List (Nat × Nat)) : ShowsFields (fieldBytes fields) 0 fields :=
  showsFields_after [] fields

/-- A row whose owner answers a record and changes nothing. -/
theorem exec_shows {i : Instr} {r : Request} {s : State} {fields : List (Nat × Nat)} (hi : i.request? = some r)
    (hf : LinkFree s) (hr : r.wf = true)
    (h : handle r (withRequest r s) = done (fieldBytes fields) (withRequest r s)) :
    ∃ data : List Byte, ShowsFields data 0 fields ∧ exec i s = .next { s with link := linkWithAnswer r .done data s } :=
  ⟨_, showsFields_fieldBytes fields, exec_reads hi hf hr h⟩

theorem byte_eq_beBytes (b : Byte) : [b] = beBytes 1 b.toNat := by simp [beBytes]

theorem causeByte_eq (c : BitVec 6) : causeByte c = beBytes 1 c.toNat := by
  refine (byte_eq_beBytes _).trans ?_
  rw [BitVec.toNat_setWidth_of_le (by decide)]

theorem optByte_eq (k : Option Nat) : optByte k = k.getD 255 := by cases k <;> rfl

theorem optFinByte_eq {n : Nat} (k : Option (Fin n)) : optFinByte k = beBytes 1 ((k.map (·.val)).getD 255) := by
  cases k <;> rfl

theorem levels_bytes_eq (l : Levels) : l.bytes = fieldBytes (levelFields l) := rfl

theorem payload_bytes_eq (p : Payload) : p.bytes = fieldBytes (payloadFields p) := by cases p <;> rfl

theorem lineSettings_bytes_eq (c : LineSettings) : c.bytes = fieldBytes (lineFields c) := rfl

theorem voice_bytes_eq (v : Voice) (t : Nat) : v.bytes t = fieldBytes (voiceFields v t) := by
  rw [Voice.bytes, optByte_eq]
  rfl

theorem curveBytes_eq (c : Vector CurvePoint 8) :
    curveBytes c = fieldBytes (c.toList.flatMap fun p => [(2, p.height), (2, p.speed)]) := by
  rw [curveBytes, fieldBytes, List.flatMap_assoc]
  rfl

/-! ### What the records show -/

theorem earliestWaiting_eq (tl : List Cue) :
    earliestWaiting tl = (((tl.filter (fun q => q.state == .waiting)).map (·.number)).head?).getD 0 := by
  rw [earliestWaiting, List.head?_map, List.head?_filter]
  cases tl.find? _ <;> rfl

theorem channelFlags_eq (s : State) (c : Fin 49) :
    channelFlags s c = if h : c.val < 32 then s.water.groups[c.val].flags.toNat else 0 := by
  unfold channelFlags jetOf fin?
  split_ifs <;> rfl

theorem reportedState_code (q : Cue) (rec : ChannelRec) (t : Nat) :
    (reportedState q rec t).code = if q.state = .live ∧ rec.completeAt t = true then 2 else q.state.code := by
  rw [reportedState]
  split_ifs <;> rfl

theorem ratedPowerUsed_eq (s : State) (g : Group) : ratedPowerUsed s g = if 0 < g.ratedPower then g.ratedPower else
    match g.pumpNode.bind (fun i => (s.node i).reportedPower) with
    | some p => if p = 0 then 2000 else min p 2000
    | none => 2000 := by
  unfold ratedPowerUsed
  cases g.pumpNode with
  | none => rfl
  | some i =>
    simp only [Option.bind_some, State.node]
    cases s.fieldLines.nodes[i].reportedPower with
    | none => rfl
    | some p => simp only [Nat.pos_iff_ne_zero, ite_not, min_comm]

theorem powerEstimate_eq (s : State) (g : Group) (v : Nat) :
    powerEstimate s g v = ratedPowerUsed s g * v ^ 3 / 1000000000 := by
  rw [powerEstimate, pow_succ, pow_two, mul_assoc, mul_assoc, mul_assoc]

theorem presentPowerSum_eq (s : State) : presentPowerSum s =
    ((s.water.groups.toList.filter (·.enabled)).map (fun g => powerEstimate s g g.claimed)).sum := by
  have groups : s.water.groups.toList = (List.finRange 32).map (fun k => s.water.groups[k]) := by
    refine List.ext_getElem (by simp) fun k _ _ => by simp
  rw [groups, List.filter_map, List.map_map]
  rfl

theorem valveByte_eq (g : Group) : g.valveByte = beBytes 1 (if g.valve = none then 255 else bitNat g.valveOpen) := by
  simp only [Group.valveByte, Option.isNone_iff_eq_none]
  split_ifs <;> rfl

theorem round_bytes_eq (r : RoundState) : r.bytes = fieldBytes (match r with
    | .idle => [(1, 0), (1, 255)]
    | .underWay i => [(1, 1), (1, i.val)]) := by cases r <;> rfl

theorem cueReferences_eq (s : State) (k : Fin 64) :
    cueReferences s k = (s.store.timelines[programme].filter (fun q => q.payload.segment? == some k)).length :=
  List.countP_eq_length_filter

theorem voiceReferences_eq (s : State) (k : Fin 64) :
    voiceReferences s k = ([s.play.v0, s.play.v1].filter (fun v => v.state != .idle && v.segment == some k)).length := by
  rw [← List.countP_eq_length_filter, List.countP_cons, List.countP_singleton, Nat.add_comm]
  rfl

theorem outputBytes_eq (s : State) (o : Option (Fin 64)) : outputBytes s o = fieldBytes (match o with
    | some o => [(1, s.lights.outputs[o].sense.code), (2, s.lights.outputs[o].committed)]
    | none => [(1, 255), (2, 0)]) := by cases o <;> rfl

theorem bitNat_safe (k : ClockState) : bitNat (k == .safe) = if k = .safe then 1 else 0 := by cases k <;> rfl

theorem loopStartNat_eq (k : Option Nat) : loopStartNat k = k.getD 4294967295 := by cases k <;> rfl

/-- The silence timer restarts where the request is taken, so that the whole limit is left (R158). -/
theorem silenceLeft_withRequest (r : Request) (s : State) : silenceLeft (withRequest r s) =
    if s.sup.settings.silenceLimit = 0 then 4294967295 else s.sup.settings.silenceLimit * 1000 := by
  have since : (withRequest r s).link.silenceSince = silenceRestarted s := rfl
  unfold silenceLeft
  rw [since, silenceRestarted]
  split_ifs
  · rfl
  · show _ - (s.now - s.now) = _
    rw [Nat.sub_self]
    rfl

section

variable {n : Nat} {s : State}

theorem ownReadChannel_out (h : 49 ≤ n) : ownReadChannel n s = refuse .outOfRange s := by
  rw [ownReadChannel, fin?_eq_none.2 h]

theorem ownReadGroup_out (h : 32 ≤ n) : ownReadGroup n s = refuse .outOfRange s := by
  rw [ownReadGroup, fin?_eq_none.2 h]

theorem ownReadNode_out (h : 40 ≤ n) : ownReadNode n s = refuse .outOfRange s := by
  rw [ownReadNode, fin?_eq_none.2 h]

theorem ownReadLine_out (h : 2 ≤ n) : ownReadLine n s = refuse .outOfRange s := by
  have unknown : line? n = none := by
    match n, h with
    | n + 2, _ => rfl
  rw [ownReadLine, unknown]

theorem ownReadHead_out (h : 16 ≤ n) : ownReadHead n s = refuse .outOfRange s := by
  rw [ownReadHead, fin?_eq_none.2 h]

theorem ownReadPlayback_out (h : 64 ≤ n) : ownReadPlayback n s = refuse .outOfRange s := by
  rw [ownReadPlayback, fin?_eq_none.2 h]

end

/-- Settles O9: each record as its row of fields, and the refusals by the index. -/
theorem recordReadsAnswerAndChangeNothing : Obligations.RecordReadsAnswerAndChangeNothing := by
  intro s hf
  dsimp only
  refine ⟨fun n c q low high found => exec_shows rfl hf (decide_eq_true (by omega)) ?_,
    fun c => exec_shows rfl hf (decide_eq_true (by omega)) ?_, fun n => exec_shows rfl hf (decide_eq_true (by omega)) ?_,
    fun n => exec_shows rfl hf (decide_eq_true (by omega)) ?_, fun l => ?_,
    fun n => exec_shows rfl hf (decide_eq_true (by omega)) ?_, fun k => exec_shows rfl hf (decide_eq_true (by omega)) ?_,
    exec_shows rfl hf rfl ?_, fun n high absent => ?_, fun n high => ⟨?_, ?_, ?_, ?_, ?_, ?_⟩⟩
  · have number : q.number = n := (Store.find_some found).2
    have kept : (withRequest (.readCue n) s).store.find n = some (c, q) := found
    show ownReadCue n _ = _
    rw [ownReadCue, if_neg (by omega), kept]
    simp only [Cue.bytes, payload_bytes_eq, reportedState_code, number, fieldBytes_append, fieldBytes_cons,
      fieldBytes_nil, List.append_assoc, List.append_nil]
    rfl
  · show ownReadChannel c.val _ = _
    rw [ownReadChannel, fin?_val]
    simp only [levels_bytes_eq, earliestWaiting_eq, channelFlags_eq, fieldBytes_append, fieldBytes_cons, fieldBytes_nil,
      List.append_assoc, List.append_nil]
    rfl
  · show ownReadGroup n.val _ = _
    rw [ownReadGroup, fin?_val]
    simp only [Group.configBytes, curveBytes_eq, optFinByte_eq, valveByte_eq, presentPowerSum_eq, powerEstimate_eq,
      ratedPowerUsed_eq, fieldBytes_append, fieldBytes_cons, fieldBytes_nil, List.append_assoc, List.append_nil, Option.map_map]
    rfl
  · show ownReadNode n.val _ = _
    rw [ownReadNode, fin?_val]
    simp only [optFinByte_eq, byte_eq_beBytes, fieldBytes_append, fieldBytes_cons, fieldBytes_nil, List.append_assoc,
      List.append_nil]
    rfl
  · refine ⟨absentShown s l, exec_shows rfl hf (by cases l <;> decide) ?_⟩
    have known : line? (lineCode l) = some l := by cases l <;> rfl
    show ownReadLine (lineCode l) _ = _
    rw [ownReadLine, known]
    simp only [lineSettings_bytes_eq, round_bytes_eq, byte_eq_beBytes, lineCount, List.countP_eq_length_filter,
      fieldBytes_append, fieldBytes_cons, fieldBytes_nil, List.append_assoc, List.append_nil]
    rfl
  · show ownReadHead n.val _ = _
    rw [ownReadHead, fin?_val]
    simp only [headBytes, levels_bytes_eq, outputBytes_eq, optByte_eq, fieldBytes_append, fieldBytes_cons, fieldBytes_nil,
      List.append_assoc, List.append_nil, List.map_cons, List.map_nil, List.flatMap_cons, List.flatMap_nil]
    have lights : (withRequest (.readHead n.val) s).lights = s.lights := rfl
    rw [lights]
    cases s.lights.heads[n].outputs <;> rfl
  · show ownReadPlayback k.val _ = _
    rw [ownReadPlayback, fin?_val]
    simp only [voice_bytes_eq, cueReferences_eq, voiceReferences_eq, loopStartNat_eq, fieldBytes_append,
      fieldBytes_cons, fieldBytes_nil, List.append_assoc, List.append_nil]
    rfl
  · show ownReadSupervision _ = _
    rw [ownReadSupervision]
    simp only [causeByte_eq, SupSettings.bytes, optByte_eq, inputsNat, levelActive_true, levelActive_false,
      silenceLeft_withRequest, bitNat_safe, fieldBytes_cons, fieldBytes_nil, List.append_assoc, List.append_nil]
    rfl
  · refine exec_refuses rfl hf (decide_eq_true (by omega)) ?_
    show ownReadCue n _ = _
    rw [ownReadCue]
    split_ifs with zero
    · rfl
    · have none : (withRequest (.readCue n) s).store.find n = none := absent.resolve_left zero
      rw [none]
  · exact fun out => exec_refuses rfl hf (decide_eq_true high) (ownReadChannel_out out)
  · exact fun out => exec_refuses rfl hf (decide_eq_true high) (ownReadGroup_out out)
  · exact fun out => exec_refuses rfl hf (decide_eq_true high) (ownReadNode_out out)
  · exact fun out => exec_refuses rfl hf (decide_eq_true high) (ownReadLine_out out)
  · exact fun out => exec_refuses rfl hf (decide_eq_true high) (ownReadHead_out out)
  · exact fun out => exec_refuses rfl hf (decide_eq_true high) (ownReadPlayback_out out)

end Sys2Proof.Machine
end

section

/-! # Rounds (R87, R88): which nodes a round passes, and the turn that it runs on to -/

namespace Sys2Proof.Machine

open Sys2Proof.Safety

/-! ### What a round makes of a node that it reaches -/

/-- The round begins the node's turn when it reaches it (R88, R101). -/
def TakesTurn (l : Line) (n : Node) : Prop :=
  (n.line = l ∧ n.state ≠ .absent) ∧ (n.rejoin = true ∨ n.state ≠ .lost ∨ n.countdown ≤ 1)

/-- The node as its turn begins (R88, R101). -/
def turnNode (n : Node) : Node :=
  if n.rejoin = true then rejoinedNode n else if n.state = .lost then retriedNode n else n

/-- The turn that the node has (R88, R101). -/
def turnOf (n : Node) : Turn :=
  if n.rejoin = true ∨ n.state = .lost then .join .identify else if n.state = .joining then .join n.stage else .set

/-- The node as the round passes it (R88). -/
def countedDown (l : Line) (n : Node) : Node :=
  if n.line = l ∧ n.state = .lost then { n with countdown := n.countdown - 1 } else n

theorem setNodeRec_self (i : Fin 40) (s : State) : setNodeRec i (s.node i) s = s := by
  have nodes : s.fieldLines.nodes.set i (s.node i) = s.fieldLines.nodes := Vector.set_getElem_self ..
  rw [setNodeRec, nodes]
  rfl

theorem writeNode_self (i : Fin 40) (s : State) : writeNode i (s.node i) s = s := (if_pos rfl).trans (setNodeRec_self i s)

theorem visit_takes {l : Line} {i : Fin 40} {s : State} (takes : TakesTurn l (s.node i)) :
    visit l i s = (beginTurn l i (turnOf (s.node i)) (writeNode i (turnNode (s.node i)) s), true) := by
  obtain ⟨⟨line, present⟩, due⟩ := takes
  unfold visit
  dsimp only
  rw [if_neg (by simp [present, line])]
  by_cases rejoin : (s.node i).rejoin = true
  · rw [if_pos rejoin, turnOf, if_pos (.inl rejoin), turnNode, if_pos rejoin]
  · rw [if_neg rejoin]
    have kept : (s.node i).state ≠ .lost → writeNode i (turnNode (s.node i)) s = s := fun notLost => by
      rw [turnNode, if_neg rejoin, if_neg notLost, writeNode_self]
    cases state : (s.node i).state with
    | absent => exact absurd state present
    | joining => simp [kept, state, turnOf, rejoin]
    | online => simp [kept, state, turnOf, rejoin]
    | suspect => simp [kept, state, turnOf, rejoin]
    | lost =>
      have last : (s.node i).countdown ≤ 1 := (due.resolve_left rejoin).resolve_left (fun notLost => notLost state)
      simp [last, state, turnOf, turnNode, rejoin]

theorem visit_passes {l : Line} {i : Fin 40} {s : State} (passes : ¬TakesTurn l (s.node i)) :
    visit l i s = (setNodeRec i (countedDown l (s.node i)) s, false) := by
  unfold visit
  dsimp only
  by_cases off : (s.node i).state = .absent ∨ (s.node i).line ≠ l
  · rw [if_pos off, countedDown, if_neg, setNodeRec_self]
    rintro ⟨line, state⟩
    rcases off with absent | elsewhere
    · rw [state] at absent
      cases absent
    · exact elsewhere line
  · rw [if_neg off]
    rw [not_or, not_not] at off
    obtain ⟨present, line⟩ := off
    have rejoin : ¬(s.node i).rejoin = true := fun rejoin => passes ⟨⟨line, present⟩, .inl rejoin⟩
    have lost : (s.node i).state = .lost := by_contra fun notLost => passes ⟨⟨line, present⟩, .inr (.inl notLost)⟩
    have many : ¬(s.node i).countdown ≤ 1 := fun few => passes ⟨⟨line, present⟩, .inr (.inr few)⟩
    have counts : (s.node i).line = l ∧ (s.node i).state = .lost := ⟨line, lost⟩
    rw [if_neg rejoin, countedDown, if_pos counts]
    simp only [lost, if_neg many]

/-! ### The run of a round -/

/-- The round passes these nodes. -/
def passAll (l : Line) : List (Fin 40) → State → State
  | [], s => s
  | i :: rest, s => passAll l rest (setNodeRec i (countedDown l (s.node i)) s)

theorem passAll_frame (l : Line) (is : List (Fin 40)) (s : State) : passAll l is s = { s with
    fieldLines := { s.fieldLines with nodes := (passAll l is s).fieldLines.nodes } } := by
  induction is generalizing s with
  | nil => rfl
  | cons i rest ih => exact ih _

theorem node_passAll {l : Line} {is : List (Fin 40)} (distinct : is.Nodup) (s : State) (j : Fin 40) :
    (passAll l is s).node j = if j ∈ is then countedDown l (s.node j) else s.node j := by
  induction is generalizing s with
  | nil => rfl
  | cons i rest ih =>
    obtain ⟨new, distinct⟩ := List.nodup_cons.1 distinct
    rw [passAll, ih distinct, State.node_setNodeRec]
    by_cases here : i = j
    · rw [← here, if_neg new, if_pos rfl, if_pos List.mem_cons_self]
    · simp [here, Ne.symm here]

theorem visitAll_cons_passes {l : Line} {i : Fin 40} {rest : List (Fin 40)} {s : State}
    (passes : ¬TakesTurn l (s.node i)) :
    visitAll l (i :: rest) s = visitAll l rest (setNodeRec i (countedDown l (s.node i)) s) := by
  rw [visitAll, visit_passes passes]

/-- Where no node takes a turn, the round passes all of them. -/
theorem visitAll_passes {l : Line} {is : List (Fin 40)} {s : State} (distinct : is.Nodup)
    (passes : ∀ j ∈ is, ¬TakesTurn l (s.node j)) : visitAll l is s = (passAll l is s, false) := by
  induction is generalizing s with
  | nil => rfl
  | cons i rest ih =>
    obtain ⟨new, distinct⟩ := List.nodup_cons.1 distinct
    rw [visitAll_cons_passes (passes i List.mem_cons_self)]
    refine ih distinct fun j hj => ?_
    have other : i ≠ j := fun h => new (h ▸ hj)
    rw [State.node_setNodeRec, if_neg other]
    exact passes j (List.mem_cons_of_mem _ hj)

/-- The round passes the nodes before the first that takes a turn, and begins that turn. -/
theorem visitAll_takes {l : Line} {before after : List (Fin 40)} {i : Fin 40} {s : State}
    (distinct : (before ++ i :: after).Nodup) (passes : ∀ j ∈ before, ¬TakesTurn l (s.node j))
    (takes : TakesTurn l (s.node i)) : visitAll l (before ++ i :: after) s =
      (beginTurn l i (turnOf (s.node i)) (writeNode i (turnNode (s.node i)) (passAll l before s)), true) := by
  induction before generalizing s with
  | nil =>
    rw [List.nil_append, visitAll, visit_takes takes]
    rfl
  | cons j rest ih =>
    obtain ⟨new, distinct⟩ := List.nodup_cons.1 distinct
    have other : i ≠ j := fun h => new (by simp [h])
    rw [List.cons_append, visitAll_cons_passes (passes j List.mem_cons_self)]
    have node : (setNodeRec j (countedDown l (s.node j)) s).node i = s.node i := by
      rw [State.node_setNodeRec, if_neg (Ne.symm other)]
    rw [ih distinct (fun k hk => ?_) (node ▸ takes), node, passAll]
    have later : j ≠ k := fun h => new (h ▸ List.mem_append_left _ hk)
    rw [State.node_setNodeRec, if_neg later]
    exact passes k (List.mem_cons_of_mem _ hk)

theorem mem_before_iff {before after : List (Fin 40)} {i j : Fin 40}
    (sorted : (before ++ i :: after).Pairwise (· < ·)) : j ∈ before ↔ j ∈ before ++ i :: after ∧ j < i := by
  obtain ⟨-, tail, below⟩ := List.pairwise_append.1 sorted
  obtain ⟨above, -⟩ := List.pairwise_cons.1 tail
  constructor
  · exact fun h => ⟨List.mem_append_left _ h, below j h i List.mem_cons_self⟩
  · rintro ⟨mem, less⟩
    rcases List.mem_append.1 mem with h | h
    · exact h
    · rcases List.mem_cons.1 h with rfl | h
      · exact absurd less (lt_irrefl _)
      · exact absurd less (above j h).asymm

/-- A round's run over all the nodes: it passes them all, or the ones below the first that takes a turn. -/
theorem visitAll_finRange (l : Line) (s : State) :
    ((∀ j, ¬TakesTurn l (s.node j)) ∧ visitAll l (List.finRange 40) s = (passAll l (List.finRange 40) s, false)) ∨
    ∃ (i : Fin 40) (before : List (Fin 40)), before.Nodup ∧ (∀ j, j ∈ before ↔ j < i) ∧
      (∀ j, j < i → ¬TakesTurn l (s.node j)) ∧ TakesTurn l (s.node i) ∧ visitAll l (List.finRange 40) s =
        (beginTurn l i (turnOf (s.node i)) (writeNode i (turnNode (s.node i)) (passAll l before s)), true) := by
  classical
  have distinct := List.nodup_finRange 40
  cases found : (List.finRange 40).find? (fun j => decide (TakesTurn l (s.node j))) with
  | none =>
    have passes : ∀ j, ¬TakesTurn l (s.node j) := fun j => by
      simpa using List.find?_eq_none.1 found j (List.mem_finRange j)
    exact .inl ⟨passes, visitAll_passes distinct fun j _ => passes j⟩
  | some i =>
    obtain ⟨takes, before, after, split, passes⟩ := List.find?_eq_some_iff_append.1 found
    have sorted : (before ++ i :: after).Pairwise (· < ·) := split ▸ List.pairwise_lt_finRange 40
    have below : ∀ j, j ∈ before ↔ j < i := fun j => by
      rw [mem_before_iff sorted, ← split]
      exact and_iff_right (List.mem_finRange j)
    have passes : ∀ j ∈ before, ¬TakesTurn l (s.node j) := fun j hj => by simpa using passes j hj
    have takes : TakesTurn l (s.node i) := of_decide_eq_true takes
    rw [split] at distinct ⊢
    exact .inr ⟨i, before, distinct.of_append_left, below, fun j hj => passes j ((below j).2 hj), takes,
      visitAll_takes distinct passes takes⟩

/-! ### The turn that begins (R110) -/

theorem addCause_setFieldLines (c : SafeCause) (f : FieldLines) (s : State) :
    addCause c (s.setFieldLines f) = (addCause c s).setFieldLines f := by
  rcases addCause_cases c s with ⟨present, eq⟩ | ⟨absent, safe, eq⟩ | ⟨absent, outside, eq⟩
  · rw [eq]
    exact addCause_present (s := s.setFieldLines f) present
  · rw [eq, addCause_joins (s := s.setFieldLines f) absent safe]
    rfl
  · rw [eq, addCause_enters (s := s.setFieldLines f) absent outside]
    rfl

/-- CRITICAL_LOST is worked out over the nodes alone: a line's record is written beside it. -/
theorem evalCritical_setLineRec (l : Line) (r : LineRec) (s : State) :
    evalCritical (setLineRec l r s) = setLineRec l r (evalCritical s) := by
  have condition : criticalLostGroup (setLineRec l r s) = criticalLostGroup s :=
    criticalLostGroup_congr ⟨fun i => by rw [State.node_setLineRec], fun n => ⟨rfl, rfl⟩⟩
  have lines : (evalCritical s).fieldLines = s.fieldLines := evalCritical_fieldLines s
  rw [evalCritical, condition, setLineRec, setLineRec, lines, evalCritical]
  cases (criticalLostGroup s).isSome with
  | true => exact addCause_setFieldLines ..
  | false => rfl

/-- A node that begins its turn leaves its state for JOINING or keeps it. -/
theorem writeNode_turnNode (i : Fin 40) (s : State) : writeNode i (turnNode (s.node i)) s =
    if (turnNode (s.node i)).state = (s.node i).state then setNodeRec i (turnNode (s.node i)) s
    else evalCritical (setNodeRec i (turnNode (s.node i)) s) := by
  rw [writeNode]
  split_ifs with same
  · rfl
  · have joins : (turnNode (s.node i)).state = .joining := by
      unfold turnNode at same ⊢
      split_ifs at same ⊢
      · rfl
      · rfl
      · exact absurd rfl same
    rw [joins]
    rfl

theorem beginTurn_turnNode (l : Line) (i : Fin 40) (k : Turn) (s : State) :
    beginTurn l i k (writeNode i (turnNode (s.node i)) s) =
      if (turnNode (s.node i)).state = (s.node i).state then beginTurn l i k (setNodeRec i (turnNode (s.node i)) s)
      else evalCritical (beginTurn l i k (setNodeRec i (turnNode (s.node i)) s)) := by
  rw [writeNode_turnNode]
  split_ifs
  · rfl
  · rw [beginTurn, beginTurn, evalCritical_setLineRec]
    simp only [State.line, evalCritical_fieldLines]

/-! ### A round that starts -/

@[simp] theorem line_passAll (l m : Line) (is : List (Fin 40)) (s : State) : (passAll l is s).line m = s.line m := by
  induction is generalizing s with
  | nil => rfl
  | cons i rest ih => rw [passAll, ih, State.line_setNodeRec]

@[simp] theorem node_beginRound (l : Line) (s : State) (i : Fin 40) : (beginRound l s).node i = s.node i :=
  State.node_setLineRec ..

/-- A round that starts has no turn and the line goes IDLE, or runs on to the turn of the lowest node that has one. -/
theorem startRound_cases (l : Line) (s : State) :
    ((∀ j, ¬TakesTurn l (s.node j)) ∧
      startRound l s = setRoundIdle l (passAll l (List.finRange 40) (beginRound l s))) ∨
    ∃ (i : Fin 40) (before : List (Fin 40)), before.Nodup ∧ (∀ j, j ∈ before ↔ j < i) ∧
      (∀ j, j < i → ¬TakesTurn l (s.node j)) ∧ TakesTurn l (s.node i) ∧
      let served := beginTurn l i (turnOf (s.node i))
        (setNodeRec i (turnNode (s.node i)) (passAll l before (beginRound l s)))
      startRound l s = if (turnNode (s.node i)).state = (s.node i).state then served else evalCritical served := by
  rcases visitAll_finRange l (beginRound l s) with ⟨passes, run⟩ | ⟨i, before, distinct, below, passes, takes, run⟩
  · simp only [node_beginRound] at passes
    exact .inl ⟨passes, by rw [startRound, run]⟩
  · simp only [node_beginRound] at passes takes run
    have node : (passAll l before (beginRound l s)).node i = s.node i := by
      have not_below : i ∉ before := fun mem => lt_irrefl i ((below i).1 mem)
      rw [node_passAll distinct, if_neg not_below, node_beginRound]
    refine .inr ⟨i, before, distinct, below, passes, takes, ?_⟩
    have begun := beginTurn_turnNode l i (turnOf (s.node i)) (passAll l before (beginRound l s))
    rw [node] at begun
    rw [startRound, run]
    exact begun

/-! ### The round timer (R87) -/

/-- The record of a line whose round timer expires while it is IDLE, before the round runs on (R84, R87, R88). -/
def expiredLine (r : LineRec) : LineRec := { r with timerPeriod := r.active.roundPeriod, overrun := false }

theorem roundTimerExpiry_idle {l : Line} {s : State} (idle : (s.line l).round = .idle) :
    roundTimerExpiry l s = startRound l (setLineRec l (expiredLine (s.line l)) s) := by
  unfold roundTimerExpiry
  dsimp only
  split
  · rfl
  · next way => cases idle.symm.trans way

theorem roundTimerExpiry_underWay {l : Line} {s : State} {i : Fin 40} (way : (s.line l).round = .underWay i) :
    roundTimerExpiry l s = { s with
      fieldLines := s.fieldLines.setLine l
        { s.line l with timerPeriod := (s.line l).active.roundPeriod, pendingStart := true, overrun := true }
      link := { s.link with pending := s.link.pending ||| Attention.roundOverrun.bit } } := by
  unfold roundTimerExpiry
  dsimp only
  split
  · next idle => cases idle.symm.trans way
  · rfl

/-- What a turn that begins in a starting round leaves: the line's record and every node's. -/
theorem served_records {l : Line} {i : Fin 40} {k : Turn} {before : List (Fin 40)} {s : State} (distinct : before.Nodup)
    (below : ∀ j, j ∈ before ↔ j < i) :
    let served := beginTurn l i k (setNodeRec i (turnNode (s.node i)) (passAll l before (beginRound l s)))
    served = { s with fieldLines := served.fieldLines } ∧
    served.line l = { s.line l with
      active := (s.line l).pending
      roundCount := ((s.line l).roundCount + 1) % 65536
      round := .underWay i
      exchange := some
        { index := i, turn := k, order := [], group := none, further := 0, discard := false, phase := .ready } } ∧
    (∀ m, m ≠ l → served.line m = s.line m) ∧
    ∀ j, served.node j = if i = j then turnNode (s.node i) else if j < i then countedDown l (s.node j) else s.node j := by
  intro served
  have frame : served = { s with fieldLines := served.fieldLines } := by
    simp only [served]
    rw [passAll_frame]
    rfl
  refine ⟨frame, ?_, fun m other => ?_, fun j => ?_⟩
  · simp [served, beginRound]
  · simp [served, beginRound, other]
  · have node : served.node j = if i = j then turnNode (s.node i) else (passAll l before (beginRound l s)).node j := by
      simp [served, beginTurn]
    rw [node, node_passAll distinct, node_beginRound]
    simp only [below]

/-- What a starting round that has no turn leaves. -/
theorem idle_records (l : Line) (s : State) :
    let left := setRoundIdle l (passAll l (List.finRange 40) (beginRound l s))
    left = { s with fieldLines := left.fieldLines } ∧
    left.line l = { s.line l with
      active := (s.line l).pending
      roundCount := ((s.line l).roundCount + 1) % 65536
      round := .idle
      exchange := none } ∧
    (∀ m, m ≠ l → left.line m = s.line m) ∧ ∀ j, left.node j = countedDown l (s.node j) := by
  intro left
  have frame : left = { s with fieldLines := left.fieldLines } := by
    simp only [left]
    rw [passAll_frame]
    rfl
  refine ⟨frame, ?_, fun m other => ?_, fun j => ?_⟩
  · simp [left, setRoundIdle, beginRound]
  · simp [left, setRoundIdle, beginRound, other]
  · have node : left.node j = (passAll l (List.finRange 40) (beginRound l s)).node j := by
      simp [left, setRoundIdle]
    rw [node, node_passAll (List.nodup_finRange 40), if_pos (List.mem_finRange j), node_beginRound]

/-- CRITICAL_LOST worked out anew, where the groups are as they were (R110, R111). -/
theorem evalCritical_lost {s : State} (lost : ∃ k : Fin 32, s.water.groups[k].critical = true ∧
    ∃ i : Fin 40, s.water.groups[k].pumpNode = some i ∧ (s.node i).state ≠ .online) :
    evalCritical s = addCause .criticalLost s := by
  have condition : (criticalLostGroup s).isSome = true := by
    simpa only [criticalLostGroup_isSome, groupCriticalLost_iff] using lost
  rw [evalCritical, condition]
  rfl

theorem evalCritical_calm {s : State} (calm : ¬∃ k : Fin 32, s.water.groups[k].critical = true ∧
    ∃ i : Fin 40, s.water.groups[k].pumpNode = some i ∧ (s.node i).state ≠ .online) :
    evalCritical s = { s with sup := { s.sup with causes := s.sup.causes &&& ~~~SafeCause.criticalLost.bit } } := by
  have condition : (criticalLostGroup s).isSome = false := by
    rw [← Bool.not_eq_true, criticalLostGroup_isSome]
    simpa only [groupCriticalLost_iff] using calm
  rw [evalCritical, condition]
  rfl

/-- Settles O35: the overrun, and the two ways of a round that starts. -/
theorem roundTimerStartsOrOverruns : Obligations.RoundTimerStartsOrOverruns := by
  intro l s
  refine ⟨fun i way => congrArg Host.Outcome.next (roundTimerExpiry_underWay way), fun idle => ⟨_, rfl, ?_⟩⟩
  rw [roundTimerExpiry_idle idle]
  have nodes (j) : (setLineRec l (expiredLine (s.line l)) s).node j = s.node j := State.node_setLineRec ..
  have line : (setLineRec l (expiredLine (s.line l)) s).line l = expiredLine (s.line l) := by simp
  have lines : ∀ m, m ≠ l → (setLineRec l (expiredLine (s.line l)) s).line m = s.line m := fun m other => by simp [other]
  rcases startRound_cases l (setLineRec l (expiredLine (s.line l)) s) with
    ⟨passes, left⟩ | ⟨i, before, distinct, below, passes, takes, left⟩
  · obtain ⟨frame, own, others, node⟩ := idle_records l (setLineRec l (expiredLine (s.line l)) s)
    simp only [nodes] at passes node
    rw [line] at own
    rw [left]
    generalize setRoundIdle l _ = t at *
    have round : (t.line l).round = .idle := congrArg LineRec.round own
    have exchange : (t.line l).exchange = none := congrArg LineRec.exchange own
    have never (i) : (t.line l).round ≠ .underWay i := fun way => by cases round.symm.trans way
    refine ⟨fun _ => frame, fun ⟨i, way, _⟩ => absurd way (never i), fun ⟨i, way, _⟩ => absurd way (never i), ?_,
      fun m other => (others m other).trans (lines m other), fun _ => exchange, fun j _ => passes j, fun j => ?_,
      fun i way => absurd way (never i)⟩
    · rw [round, exchange]
      exact own
    · rw [if_neg (never j), if_pos (.inl round)]
      exact node j
  · obtain ⟨frame, own, others, node⟩ := served_records (k := turnOf (s.node i))
      (s := setLineRec l (expiredLine (s.line l)) s) distinct below
    simp only [nodes] at passes node takes left own others frame
    rw [line] at own
    generalize beginTurn l i (turnOf (s.node i)) _ = w at *
    generalize startRound l _ = t at *
    have fieldLines : t.fieldLines = w.fieldLines := by
      rw [left]
      split_ifs
      · rfl
      · exact evalCritical_fieldLines w
    have lineIs (m) : t.line m = w.line m := congrArg (FieldLines.line · m) fieldLines
    have nodeIs (j) : t.node j = w.node j := congrArg (fun f => f.nodes[j]) fieldLines
    have served : ({ s with fieldLines := t.fieldLines } : State) = w := by
      rw [fieldLines, frame]
      rfl
    have round (j) : (t.line l).round = .underWay j ↔ j = i := by
      rw [lineIs, own, RoundState.underWay.injEq, eq_comm]
    have notIdle : (t.line l).round ≠ .idle := fun idle => by
      rw [lineIs, own] at idle
      cases idle
    have changed : (∃ j, (t.line l).round = .underWay j ∧ (t.node j).state ≠ (s.node j).state) ↔
        (turnNode (s.node i)).state ≠ (s.node i).state := by
      simp only [round, exists_eq_left, nodeIs, node, if_true]
    have groups : w.water = s.water := by
      rw [frame]
      rfl
    refine ⟨fun kept => ?_, fun moved lost => ?_, fun moved calm => ?_, ?_,
      fun m other => (lineIs m).trans ((others m other).trans (lines m other)), fun idle => absurd idle notIdle,
      fun j passed => passes j (passed i ((round i).2 rfl)), fun j => ?_, fun j way => ?_⟩
    · rw [changed, not_not] at kept
      exact (left.trans (if_pos kept)).trans served.symm
    · rw [served, left, if_neg (changed.1 moved)]
      refine evalCritical_lost ?_
      rw [groups]
      simpa only [nodeIs] using lost
    · have calm : ¬∃ k : Fin 32, w.water.groups[k].critical = true ∧
          ∃ i : Fin 40, w.water.groups[k].pumpNode = some i ∧ (w.node i).state ≠ .online := by
        rw [groups]
        simpa only [nodeIs] using calm
      refine (left.trans (if_neg (changed.1 moved))).trans ((evalCritical_calm calm).trans ?_)
      rw [← served]
    · rw [lineIs, own]
      rfl
    · rw [nodeIs, node]
      by_cases here : i = j
      · rw [if_pos here, if_pos ((round j).2 here.symm), here]
        rfl
      · have passed : (t.line l).round = .idle ∨ (∃ k, (t.line l).round = .underWay k ∧ j < k) ↔ j < i := by
          simp [notIdle, round]
        rw [if_neg here, if_neg (fun way => here ((round j).1 way).symm)]
        simp only [passed]
        rfl
    · obtain rfl := (round j).1 way
      refine ⟨takes, ?_⟩
      rw [lineIs, own]
      rfl

end Sys2Proof.Machine
end

section

/-! # A round that goes on (R88, R100), and the requests on the field lines (R84, R99 to R101) -/

namespace Sys2Proof.Machine

open Sys2Proof.Safety

/-! ### The nodes and lines that a round leaves alone -/

/-- A node off the line, or ABSENT, is left as it is when the round reaches its index. -/
theorem node_visit_off {l : Line} {i j : Fin 40} {s : State} (off : (s.node j).line ≠ l ∨ (s.node j).state = .absent) :
    (visit l i s).1.node j = s.node j := by
  by_cases here : j = i
  · subst here
    have passes : ¬TakesTurn l (s.node j) := fun ⟨⟨line, present⟩, _⟩ => off.elim (· line) present
    have kept : countedDown l (s.node j) = s.node j := if_neg fun ⟨line, lost⟩ =>
      off.elim (· line) fun absent => by cases absent.symm.trans lost
    rw [visit_passes passes, kept, setNodeRec_self]
  · exact node_visit here

theorem node_visitAll_off {l : Line} {is : List (Fin 40)} {j : Fin 40} {s : State}
    (off : (s.node j).line ≠ l ∨ (s.node j).state = .absent) : (visitAll l is s).1.node j = s.node j := by
  induction is generalizing s with
  | nil => rfl
  | cons i rest ih =>
    have first := node_visit_off (i := i) off
    unfold visitAll
    split
    · next e => rw [e] at first; exact first
    · next e =>
      rw [e] at first
      dsimp only at first
      rw [ih (by rwa [first]), first]

/-- A turn that begins is the ready exchange of a node that the round reached; where none begins, the line's record is as
it was. -/
theorem exchange_visitAll (l : Line) (is : List (Fin 40)) (s : State) :
    if (visitAll l is s).2 = true then
      ∀ y, ((visitAll l is s).1.line l).exchange = some y → y.index ∈ is ∧ y.phase = .ready ∧ y.order = []
    else (visitAll l is s).1.line l = s.line l := by
  induction is generalizing s with
  | nil => rfl
  | cons i rest ih =>
    by_cases takes : TakesTurn l (s.node i)
    · rw [visitAll, visit_takes takes, if_pos rfl]
      intro y hy
      simp only [line_beginTurn, if_true, Option.some.injEq] at hy
      subst hy
      exact ⟨List.mem_cons_self, rfl, rfl⟩
    · rw [visitAll_cons_passes takes]
      have later := ih (setNodeRec i (countedDown l (s.node i)) s)
      split_ifs at later ⊢
      · exact fun y hy => ⟨List.mem_cons_of_mem _ (later y hy).1, (later y hy).2⟩
      · rw [later, State.line_setNodeRec]

theorem mem_drop_finRange {i j : Fin 40} : j ∈ (List.finRange 40).drop (i.val + 1) ↔ i < j := by
  rw [List.mem_drop_iff_getElem]
  simp only [List.getElem_finRange, List.length_finRange, Fin.lt_def]
  constructor
  · rintro ⟨k, hk, rfl⟩
    simp
    omega
  · intro h
    exact ⟨j.val - (i.val + 1), by omega, Fin.ext (by simp; omega)⟩

/-! ### A round that goes on after an index (R88) -/

/-- What a round that goes on after an index, with no start pending, may leave: no node up to the index and none off the
line is touched, nor the other line, and the line's exchange is the ready turn of a later node. -/
structure RoundGoesOn (l : Line) (i : Fin 40) (s t : State) : Prop where
  atMost : SafeAtMost s t
  water : t.water = s.water
  lines : ∀ m, m ≠ l → t.line m = s.line m
  nodes : ∀ j, j ≤ i ∨ (s.node j).line ≠ l → t.node j = s.node j
  exchange : ∀ y, (t.line l).exchange = some y → i < y.index ∧ y.phase = .ready ∧ y.order = []

/-- The run of `continueRound` over the nodes after an index. -/
def runOn (l : Line) (i : Fin 40) (s : State) : State × Bool :=
  visitAll l ((List.finRange 40).drop (i.val + 1)) (setLineRec l { s.line l with exchange := none } s)

theorem continueRound_eq (l : Line) (i : Fin 40) (s : State) :
    continueRound l i s = if (runOn l i s).2 = true then (runOn l i s).1 else endRound l (runOn l i s).1 := by
  rw [continueRound, runOn]
  rcases visitAll l _ _ with ⟨t, _ | _⟩ <;> rfl

theorem line_runOn (l m : Line) (i : Fin 40) (s : State) (other : m ≠ l) : (runOn l i s).1.line m = s.line m := by
  rw [runOn, line_visitAll _ _ other, State.line_setLineRec, if_neg other]

theorem node_runOn {l : Line} {i j : Fin 40} {s : State} (h : j ≤ i ∨ (s.node j).line ≠ l ∨ (s.node j).state = .absent) :
    (runOn l i s).1.node j = s.node j := by
  have node : (setLineRec l { s.line l with exchange := none } s).node j = s.node j := State.node_setLineRec ..
  rcases h with below | off
  · rw [runOn, node_visitAll _ fun mem => absurd (mem_drop_finRange.1 mem) (not_lt.2 below), node]
  · rw [runOn, node_visitAll_off (by rwa [node]), node]

theorem water_runOn (l : Line) (i : Fin 40) (s : State) : (runOn l i s).1.water = s.water := water_visitAll ..

theorem roundGoesOn_continueRound {l : Line} {i : Fin 40} {s : State} (calm : (s.line l).pendingStart = false) :
    RoundGoesOn l i s (continueRound l i s) := by
  have run := exchange_visitAll l ((List.finRange 40).drop (i.val + 1)) (setLineRec l { s.line l with exchange := none } s)
  rw [← runOn, State.line_setLineRec, if_pos rfl] at run
  have reach := safeAtMost_fieldReach (reach_continueRound l i s)
  by_cases begun : (runOn l i s).2 = true
  · rw [if_pos begun] at run
    rw [continueRound_eq, if_pos begun] at reach ⊢
    refine ⟨reach, water_runOn l i s, fun m other => line_runOn l m i s other,
      fun j h => node_runOn (h.imp_right .inl), fun y hy => ?_⟩
    obtain ⟨mem, ready, fresh⟩ := run y hy
    exact ⟨mem_drop_finRange.1 mem, ready, fresh⟩
  · rw [if_neg begun] at run
    have idle : endRound l (runOn l i s).1 = setRoundIdle l (runOn l i s).1 := if_neg (by simp [run, calm])
    rw [continueRound_eq, if_neg begun, idle] at reach ⊢
    refine ⟨reach, water_runOn l i s, fun m other => ?_, fun j h => ?_, fun y hy => ?_⟩
    · rw [setRoundIdle, State.line_setLineRec, if_neg other, line_runOn l m i s other]
    · rw [setRoundIdle, State.node_setLineRec, node_runOn (h.imp_right .inl)]
    · simp [setRoundIdle] at hy

/-! ### A round that starts anew (R87) -/

theorem startRound_eq (l : Line) (s : State) : startRound l s =
    if (visitAll l (List.finRange 40) (beginRound l s)).2 = true then (visitAll l (List.finRange 40) (beginRound l s)).1
    else setRoundIdle l (visitAll l (List.finRange 40) (beginRound l s)).1 := by
  rw [startRound]
  rcases visitAll l _ _ with ⟨t, _ | _⟩ <;> rfl

theorem line_startRound {l m : Line} (s : State) (other : m ≠ l) : (startRound l s).line m = s.line m := by
  have run : (visitAll l (List.finRange 40) (beginRound l s)).1.line m = s.line m := by
    rw [line_visitAll _ _ other, beginRound, State.line_setLineRec, if_neg other]
  rw [startRound_eq]
  split_ifs
  · exact run
  · rw [setRoundIdle, State.line_setLineRec, if_neg other, run]

theorem node_startRound_absent {l : Line} {j : Fin 40} {s : State} (absent : (s.node j).state = .absent) :
    (startRound l s).node j = s.node j := by
  have run : (visitAll l (List.finRange 40) (beginRound l s)).1.node j = s.node j := by
    rw [node_visitAll_off (.inr (by rwa [node_beginRound])), node_beginRound]
  rw [startRound_eq]
  split_ifs
  · exact run
  · rw [setRoundIdle, State.node_setLineRec, run]

theorem water_startRound (l : Line) (s : State) : (startRound l s).water = s.water := by
  have run : (visitAll l (List.finRange 40) (beginRound l s)).1.water = s.water := water_visitAll ..
  rw [startRound_eq]
  split_ifs
  · exact run
  · exact run

/-- The end of a round, whether a start is pending or not: it leaves the other line alone, the groups, and a node that is
ABSENT. -/
theorem line_endRound {l m : Line} (s : State) (other : m ≠ l) : (endRound l s).line m = s.line m := by
  unfold endRound setRoundIdle
  split_ifs
  · rw [line_startRound _ other, State.line_setLineRec, if_neg other]
  · rw [State.line_setLineRec, if_neg other]

theorem node_endRound_absent {l : Line} {j : Fin 40} {s : State} (absent : (s.node j).state = .absent) :
    (endRound l s).node j = s.node j := by
  unfold endRound setRoundIdle
  split_ifs
  · rw [node_startRound_absent (by rwa [State.node_setLineRec]), State.node_setLineRec]
  · rw [State.node_setLineRec]

theorem water_endRound (l : Line) (s : State) : (endRound l s).water = s.water := by
  unfold endRound
  split_ifs
  · exact water_startRound ..
  · rfl

theorem line_continueRound {l m : Line} (i : Fin 40) (s : State) (other : m ≠ l) : (continueRound l i s).line m = s.line m := by
  rw [continueRound_eq]
  split_ifs
  · exact line_runOn l m i s other
  · rw [line_endRound _ other, line_runOn l m i s other]

theorem node_continueRound_absent {l : Line} {i j : Fin 40} {s : State} (absent : (s.node j).state = .absent) :
    (continueRound l i s).node j = s.node j := by
  have run : (runOn l i s).1.node j = s.node j := node_runOn (.inr (.inr absent))
  rw [continueRound_eq]
  split_ifs
  · exact run
  · rw [node_endRound_absent (by rwa [run]), run]

theorem water_continueRound (l : Line) (i : Fin 40) (s : State) : (continueRound l i s).water = s.water := by
  rw [continueRound_eq]
  split_ifs
  · exact water_runOn l i s
  · rw [water_endRound, water_runOn]

end Sys2Proof.Machine
end

section

/-! # The requests on the field lines (R84, R99 to R101) -/

namespace Sys2Proof.Machine

open Sys2Proof.Safety

/-- What a bounded run of the field line controller leaves of the rest of the part. -/
theorem safeAtMost_frame {s t : State} (h : SafeAtMost s t) : t = { s with
    clock := t.clock
    water := t.water
    fieldLines := t.fieldLines
    sup := t.sup
    lights := t.lights
    play := t.play
    link := t.link } := by
  obtain ⟨store, channels, now, resets, queue, -, -, -⟩ := h
  rw [← store, ← channels, ← now, ← resets, ← queue]

/-! ### The checks as they are stated -/

section

variable {s : State} {i : Fin 40} {l : Line}

/-- A fact about some node record is one about some index. -/
theorem exists_node_iff {P : Node → Prop} : (∃ n ∈ s.fieldLines.nodes.toList, P n) ↔ ∃ j : Fin 40, P (s.node j) := by
  constructor
  · rintro ⟨n, mem, holds⟩
    obtain ⟨k, hk, rfl⟩ := List.mem_iff_getElem.1 mem
    exact ⟨⟨k, by simpa using hk⟩, by simpa [State.node] using holds⟩
  · rintro ⟨j, holds⟩
    exact ⟨s.node j, by simp [State.node], holds⟩

theorem addressTaken_iff {address : Nat} : addressTaken s l address = true ↔
    ∃ j : Fin 40, (s.node j).state ≠ .absent ∧ (s.node j).line = l ∧ (s.node j).address = address := by
  rw [addressTaken, List.any_eq_true, exists_node_iff]
  simp only [Bool.and_eq_true, bne_iff_ne, beq_iff_eq, and_assoc]

theorem kindCount_eq (k : NodeKind) : kindCount s k =
    (s.fieldLines.nodes.toList.filter (fun n => n.state != .absent && n.kind == k)).length :=
  List.countP_eq_length_filter

theorem lineEmpty_iff : lineEmpty s l = true ↔ ∀ i : Fin 40, (s.node i).line = l → (s.node i).state = .absent := by
  have some_present : lineEmpty s l = false ↔ ∃ i : Fin 40, ¬((s.node i).line = l → (s.node i).state = .absent) := by
    rw [lineEmpty, List.all_eq_false, ← exists_node_iff (P := fun n => ¬(n.line = l → n.state = .absent))]
    simp only [Bool.not_eq_true, Bool.or_eq_false_iff, bne_eq_false_iff_eq, beq_eq_false_iff_ne, Classical.not_imp]
  rw [← not_iff_not, Bool.not_eq_true, some_present, not_forall]

theorem betweenAttempts_iff {x : Exchange} : x.betweenAttempts = true ↔ x.phase = .ready ∧ x.further ≠ 0 := by
  rw [Exchange.betweenAttempts, Bool.and_eq_true, beq_iff_eq, bne_iff_ne]

theorem offWire_iff {r : LineRec} : onWire r = false ↔ ∀ x, r.exchange = some x → x.phase = .ready ∧ x.further ≠ 0 := by
  unfold onWire
  split
  · next none => simp [none]
  · next x some => simp [some, betweenAttempts_iff]

theorem nodeBound_iff : nodeBound s i = true ↔ ∃ k : Fin 32, s.water.groups[k].pumpNode = some i ∨
    ∃ o, s.water.groups[k].valve = some { node := i, output := o } := by
  have named (v : Option ValveBinding) : v.map (·.node) = some i ↔ ∃ o, v = some { node := i, output := o } := by
    cases v with
    | none => simp
    | some v =>
      obtain ⟨node, output⟩ := v
      simp [eq_comm]
  simp only [nodeBound, List.any_eq_true, List.mem_finRange, true_and, Bool.or_eq_true, beq_iff_eq, named]

theorem lineSettingsInRange_iff {c : LineSettings} : lineSettingsInRange c = true ↔
    (c.prescale = 1 ∨ c.prescale = 8) ∧ c.divisor ≤ 4095 ∧ 10 ≤ c.roundPeriod ∧ c.roundPeriod ≤ 250 ∧ c.retryLimit ≤ 7 ∧
      1 ≤ c.lostLimit ∧ c.lostLimit ≤ 15 ∧ 1 ≤ c.replyWait ∧ c.replyWait ≤ 50 := by
  simp only [lineSettingsInRange, Bool.and_eq_true, Bool.or_eq_true, beq_iff_eq, decide_eq_true_eq, and_assoc]

theorem line?_lineCode (l : Line) : line? (lineCode l) = some l := by cases l <;> rfl

theorem nodeKind?_code (k : NodeKind) : nodeKind? k.code = some k := by cases k <;> rfl

theorem nodeKind?_isSome_iff {n : Nat} : (nodeKind? n).isSome = true ↔ n = 1 ∨ n = 2 := by
  match n with
  | 0 => decide
  | 1 => decide
  | 2 => decide
  | n + 3 => simp [nodeKind?]

theorem line?_isSome_iff {n : Nat} : (line? n).isSome = true ↔ n < 2 := by
  match n with
  | 0 => decide
  | 1 => decide
  | n + 2 => simp [line?]

/-! ### The owners in order -/

theorem ownSetNode_out {node line address kind : Nat}
    (out : ¬(node < 40 ∧ line < 2 ∧ 1 ≤ address ∧ address ≤ 20 ∧ (kind = 1 ∨ kind = 2))) :
    ownSetNode node line address kind s = refuse .outOfRange s := by
  unfold ownSetNode
  split
  · next i l k index onLine known =>
    refine if_pos ?_
    by_contra inside
    have index := fin?_eq_some.1 index
    exact out ⟨by omega, line?_isSome_iff.1 (by rw [onLine]; rfl), by omega, by omega,
      nodeKind?_isSome_iff.1 (by rw [known]; rfl)⟩
  · rfl

/-- The record of a node that SET NODE brings (R99). -/
def joiningNode (l : Line) (address : Nat) (k : NodeKind) : Node :=
  { Node.absentRecord with state := .joining, stage := .identify, line := l, address := address, kind := k }

theorem ownSetNode_checks {address : Nat} {k : NodeKind} (low : 1 ≤ address) (high : address ≤ 20) :
    ownSetNode i.val (lineCode l) address k.code s =
      if (s.node i).state ≠ .absent then refuse .inUse s
      else if addressTaken s l address then refuse .duplicate s
      else if kindLimit k ≤ kindCount s k then refuse .outOfRange s
      else done [] (writeNode i (joiningNode l address k) s) := by
  have inside : ¬(address < 1 ∨ 20 < address) := by omega
  simp only [ownSetNode, fin?_val, line?_lineCode, nodeKind?_code, if_neg inside]
  rfl

theorem ownDropNode_out {n : Nat} (out : 40 ≤ n) : ownDropNode n s = refuse .outOfRange s := by
  rw [ownDropNode, fin?_eq_none.2 out]

theorem ownRejoinNode_out {n : Nat} (out : 40 ≤ n) : ownRejoinNode n s = refuse .outOfRange s := by
  rw [ownRejoinNode, fin?_eq_none.2 out]

theorem ownDropNode_checks : ownDropNode i.val s =
    if (s.node i).state = .absent then refuse .noSuch s
    else if nodeBound s i then refuse .inUse s
    else done [] (dropNode i s) := by
  rw [ownDropNode, fin?_val]

theorem ownRejoinNode_checks : ownRejoinNode i.val s =
    if (s.node i).state = .absent then refuse .noSuch s
    else done [] (setNodeRec i { s.node i with rejoin := true } s) := by
  rw [ownRejoinNode, fin?_val]

theorem ownSetLine_out {n : Nat} {c : LineSettings} (out : 2 ≤ n ∨ lineSettingsInRange c = false) :
    ownSetLine n c s = refuse .outOfRange s := by
  unfold ownSetLine
  split
  · rfl
  · next l known =>
    have small : n < 2 := line?_isSome_iff.1 (by rw [known]; rfl)
    have range : lineSettingsInRange c = false := out.resolve_left (by omega)
    rw [range]
    rfl

theorem ownSetLine_in {c : LineSettings} (range : lineSettingsInRange c = true) : ownSetLine (lineCode l) c s =
    done [] (setLineRec l (if lineEmpty s l && !onWire (s.line l) then { s.line l with pending := c, active := c }
      else { s.line l with pending := c }) s) := by
  simp only [ownSetLine, line?_lineCode, range]
  rfl

/-! ### A node that comes or goes without a change of CRITICAL_LOST (R110) -/

/-- A node whose record is written, with no group's pump node ONLINE before or after for that reason, and with its cause
agreeing with the condition: only the record changes. -/
theorem writeNode_quiet {n : Node} (agrees : SafeCause.criticalLost.memberOf s.sup.causes = (criticalLostGroup s).isSome)
    (follows : n.state ≠ .lost ∧ n.state ≠ .online)
    (quiet : (s.node i).state ≠ .online ∨ nodeBound s i = false) : writeNode i n s = setNodeRec i n s := by
  have groups : followLost i n.state (setNodeRec i n s) = setNodeRec i n s := by
    unfold followLost
    split
    · next lost => exact absurd lost follows.1
    · next online => exact absurd online follows.2
    · rfl
  have same (k : Fin 32) : groupCriticalLost (setNodeRec i n s) s.water.groups[k] = groupCriticalLost s s.water.groups[k] := by
    rw [Bool.eq_iff_iff, groupCriticalLost_iff, groupCriticalLost_iff]
    refine and_congr_right fun _ => exists_congr fun j => and_congr_right fun pump => ?_
    rw [State.node_setNodeRec]
    split_ifs with here
    · subst here
      rcases quiet with offline | unbound
      · exact iff_of_true follows.2 offline
      · have bound : nodeBound s i = true := nodeBound_iff.2 ⟨k, .inl pump⟩
        cases unbound.symm.trans bound
    · rfl
  have condition : criticalLostGroup (setNodeRec i n s) = criticalLostGroup s := by
    simp only [criticalLostGroup, setNodeRec_water, same]
  rcases writeNode_cases i n s with ⟨-, written⟩ | ⟨-, written⟩
  · exact written
  · rw [written, groups]
    refine setCondition_agrees ?_
    rw [condition]
    exact agrees

/-- The order of a turn on a node that no group is bound to: it is worked out from the line, the node and the groups, and
nothing else of it is (R78, R89, R96 to R98). -/
theorem buildOrder_unbound {x : Exchange} (unbound : pumpGroup s x.index = none) : (buildOrder l x s).2 = { x with
    order := (buildOrder l x s).2.order
    group := if x.order = [] then none else x.group } := by
  unfold buildOrder
  split_ifs
  · split
    · unfold buildSet
      rw [unbound]
      split <;> rfl
    · unfold buildJoin
      split
      · rfl
      · rfl
      · split <;> rfl
  · rfl

theorem pumpGroup_none (unbound : nodeBound s i = false) : pumpGroup s i = none := by
  refine List.find?_eq_none.2 fun k _ bound => ?_
  have bound : nodeBound s i = true := nodeBound_iff.2 ⟨k, .inl (beq_iff_eq.1 bound)⟩
  cases unbound.symm.trans bound

/-- The link has no part in an order. -/
theorem buildOrder_setLink {x : Exchange} (y : Link) (unbound : pumpGroup s x.index = none) :
    (buildOrder l x (s.setLink y)).2 = (buildOrder l x s).2 := by
  have kept : pumpGroup (s.setLink y) x.index = none := unbound
  have node : (s.setLink y).node x.index = s.node x.index := rfl
  unfold buildOrder
  split_ifs
  · split
    · unfold buildSet
      rw [unbound, kept, node]
      cases (s.node x.index).kind <;> rfl
    · unfold buildJoin
      split
      · rfl
      · rfl
      · rw [node]
        cases (s.node x.index).kind <;> rfl
  · rfl

theorem sentOrder_attemptStart {x : Exchange} (serves : (s.line l).exchange = some x) (ready : x.phase = .ready) :
    ((attemptStart l s).line l).sentOrder = (buildOrder l x s).2.order := by
  simp [attemptStart, serves, ready]

/-- What a dropped node leaves (R100, R103), where no group is bound to it and CRITICAL_LOST agrees with its cause. -/
theorem dropNode_quiet (agrees : SafeCause.criticalLost.memberOf s.sup.causes = (criticalLostGroup s).isSome)
    (unbound : nodeBound s i = false) : writeNode i Node.absentRecord s = setNodeRec i Node.absentRecord s :=
  writeNode_quiet agrees ⟨nofun, nofun⟩ (.inr unbound)

end

/-- The round that goes on where a node is dropped between two attempts of its turn (R88, R100, log 15). -/
theorem continueRound_dropped {i : Fin 40} {s t : State}
    (left : t = continueRound (s.node i).line i (setNodeRec i Node.absentRecord s)) :
    t = { s with clock := t.clock, fieldLines := t.fieldLines, sup := t.sup, lights := t.lights, play := t.play, link := t.link } ∧
    t.link = { s.link with pending := t.link.pending } ∧ t.node i = Node.absentRecord ∧
    (∀ m : Line, m ≠ (s.node i).line → t.line m = s.line m) ∧
    ((s.line (s.node i).line).pendingStart = false →
      (∀ j : Fin 40, j < i ∨ (s.node j).line ≠ (s.node i).line → t.node j = s.node j) ∧
      ∀ y, (t.line (s.node i).line).exchange = some y → i < y.index ∧ y.phase = .ready ∧ y.order = []) := by
  subst left
  have reach := safeAtMost_fieldReach (reach_continueRound (s.node i).line i (setNodeRec i Node.absentRecord s))
  have here : (setNodeRec i Node.absentRecord s).node i = Node.absentRecord := by rw [State.node_setNodeRec, if_pos rfl]
  refine ⟨?_, reach.link, ?_, fun m other => ?_, fun calm => ?_⟩
  · have frame := safeAtMost_frame reach
    rwa [water_continueRound] at frame
  · rw [node_continueRound_absent (by rw [here]; rfl), here]
  · rw [line_continueRound i _ other, State.line_setNodeRec]
  · have goes := roundGoesOn_continueRound (i := i) (s := setNodeRec i Node.absentRecord s)
      ((congrArg _ (State.line_setNodeRec ..)).trans calm)
    refine ⟨fun j h => ?_, goes.exchange⟩
    have other : i ≠ j := by
      rintro rfl
      exact h.elim (lt_irrefl _) (· rfl)
    have node : (setNodeRec i Node.absentRecord s).node j = s.node j := by rw [State.node_setNodeRec, if_neg other]
    rw [goes.nodes j (by rw [node]; exact h.imp_left le_of_lt), node]

/-- Settles O36: the owners' checks in their order, and what each accepted request writes. -/
theorem fieldRequestsWriteTheirRecords : Obligations.FieldRequestsWriteTheirRecords := by
  intro s hf agrees
  dsimp only
  refine ⟨fun node line address kind a b c d out => ?_, fun i l k address low high => ?_, fun n out small => ⟨?_, ?_⟩,
    fun i => ⟨fun absent => ?_, fun present bound => ?_, fun present unbound => ?_⟩, fun i => ⟨fun absent => ?_, fun present => ?_⟩,
    fun n c hr => ⟨fun out => ?_, ?_⟩⟩
  · exact exec_refuses rfl hf (by simp [Request.wf, fits, a, b, c, d]) (ownSetNode_out out)
  · have hr : (Request.setNode i.val (lineCode l) address k.code).wf = true := by
      have line : lineCode l < 256 := by cases l <;> decide
      have kind : k.code < 256 := by cases k <;> decide
      simp [Request.wf, fits, line, kind]
      omega
    have owned : handle (.setNode i.val (lineCode l) address k.code)
        (withRequest (.setNode i.val (lineCode l) address k.code) s) = _ := ownSetNode_checks low high
    rw [exec_settled (i := .setNode i.val (lineCode l) address k.code) rfl hf hr, owned]
    simp only [apply_ite (settled _), settled_refuse, addressTaken_iff, kindCount_eq]
    refine congrArg Host.Outcome.next ?_
    by_cases present : (s.node i).state ≠ .absent
    · rw [if_pos present]
      exact if_pos present
    · have offline : (s.node i).state ≠ .online := fun online => by simp [online] at present
      have quiet := writeNode_quiet (s := withRequest (.setNode i.val (lineCode l) address k.code) s) (i := i)
        (n := joiningNode l address k) agrees ⟨nofun, nofun⟩ (.inl offline)
      rw [if_neg present, quiet]
      refine (if_neg present).trans (if_congr Iff.rfl rfl (if_congr ?_ rfl rfl))
      cases k <;> exact Iff.rfl
  · exact exec_refuses rfl hf (decide_eq_true small) (ownDropNode_out out)
  · exact exec_refuses rfl hf (decide_eq_true small) (ownRejoinNode_out out)
  · exact exec_refuses rfl hf (decide_eq_true (by omega)) (ownDropNode_checks.trans (if_pos absent))
  · have bound : nodeBound (withRequest (.dropNode i.val) s) i = true := nodeBound_iff.2 bound
    exact exec_refuses rfl hf (decide_eq_true (by omega)) (ownDropNode_checks.trans ((if_neg present).trans (if_pos bound)))
  · have off : nodeBound (withRequest (.dropNode i.val) s) i = false := by
      rw [← Bool.not_eq_true, nodeBound_iff]
      exact unbound
    have owned : handle (.dropNode i.val) (withRequest (.dropNode i.val) s) =
        done [] (dropNode i (withRequest (.dropNode i.val) s)) :=
      ownDropNode_checks.trans ((if_neg present).trans (if_neg (by simp [off])))
    have quiet := dropNode_quiet (s := withRequest (.dropNode i.val) s) agrees off
    have hr : (Request.dropNode i.val).wf = true := decide_eq_true (by omega)
    refine ⟨fun unserved => ?_, fun x serves index => ⟨fun busy => ?_, fun ready first u started => ?_, fun between => ?_⟩⟩
    · rw [dropNode_unserved (s := withRequest (.dropNode i.val) s) unserved, quiet] at owned
      exact exec_answers rfl hf hr owned rfl
    · have wire : x.betweenAttempts = false := by
        rw [← Bool.not_eq_true, betweenAttempts_iff]
        exact fun between => busy between.1
      have kept : builtExchange ((withRequest (.dropNode i.val) s).node i).line x (withRequest (.dropNode i.val) s) = x :=
        if_neg busy
      rw [dropNode_onWire (s := withRequest (.dropNode i.val) s) serves index wire, quiet, kept] at owned
      exact exec_answers rfl hf hr owned rfl
    · obtain rfl : attemptStart (s.node i).line s = u := Host.Outcome.next.inj started
      have wire : x.betweenAttempts = false := by
        rw [← Bool.not_eq_true, betweenAttempts_iff]
        exact fun between => between.2 first
      have free : pumpGroup s x.index = none := index ▸ pumpGroup_none (s := s) off
      have built : builtExchange ((withRequest (.dropNode i.val) s).node i).line x (withRequest (.dropNode i.val) s) = { x with
          order := ((attemptStart (s.node i).line s).line (s.node i).line).sentOrder
          group := if x.order = [] then none else x.group } := by
        rw [sentOrder_attemptStart serves ready, ← buildOrder_unbound free]
        exact (if_pos ready).trans (buildOrder_setLink _ free)
      rw [dropNode_onWire (s := withRequest (.dropNode i.val) s) serves index wire, quiet, built] at owned
      exact exec_answers rfl hf hr owned rfl
    · rw [dropNode_between (s := withRequest (.dropNode i.val) s) serves index (betweenAttempts_iff.2 between), quiet] at owned
      obtain ⟨frame, link, gone, lines, calm⟩ := continueRound_dropped (s := withRequest (.dropNode i.val) s) (i := i) rfl
      generalize continueRound _ i _ = t at owned frame link gone lines calm
      refine ⟨_, exec_settles rfl hf hr owned, ?_, ?_, gone, lines, calm⟩
      · rw [frame]
        rfl
      · rw [State.setLink_link, link]
        rfl
  · exact exec_refuses rfl hf (decide_eq_true (by omega)) (ownRejoinNode_checks.trans (if_pos absent))
  · exact exec_answers (r := .rejoinNode i.val) rfl hf (decide_eq_true (by omega)) (ownRejoinNode_checks.trans (if_neg present)) rfl
  · refine exec_refuses rfl hf hr (ownSetLine_out (out.imp_right fun range => ?_))
    rw [← Bool.not_eq_true, lineSettingsInRange_iff]
    exact range
  · rintro l rfl range
    have owned : handle (.setLine (lineCode l) c) (withRequest (.setLine (lineCode l) c) s) = _ :=
      ownSetLine_in (lineSettingsInRange_iff.2 range)
    have lines : (lineEmpty (withRequest (.setLine (lineCode l) c) s) l && !onWire ((withRequest (.setLine (lineCode l) c) s).line l)) = true ↔
        (∀ i : Fin 40, (s.node i).line = l → (s.node i).state = .absent) ∧
          ∀ x, (s.line l).exchange = some x → x.phase = .ready ∧ x.further ≠ 0 := by
      rw [Bool.and_eq_true, Bool.not_eq_true', lineEmpty_iff, offWire_iff]
      rfl
    simp only [lines] at owned
    refine ⟨fun now => ?_, fun later => ?_⟩
    · rw [if_pos now] at owned
      exact exec_answers rfl hf hr owned rfl
    · rw [if_neg later] at owned
      exact exec_answers rfl hf hr owned rfl

end Sys2Proof.Machine
end

section

/-! # The orders that an attempt sends, and the judgement of an answer (R78, R89 to R91) -/

namespace Sys2Proof.Machine

open Sys2Proof.Safety

/-! ### The orders (R78, R89, R96 to R98) -/

/-- The mask has the bits that the outputs' groups give (R78). -/
theorem getLsbD_valveMask (s : State) (i : Fin 40) (o : Fin 8) : (valveMask s i).getLsbD o.val = maskBit s i o := by
  have bits (k : Fin 8) : (BitVec.ofFnLE (maskBit s i)).getLsbD k.val = maskBit s i k := by
    simp
  have mask : valveMask s i = BitVec.ofFnLE (maskBit s i) := by
    rw [← ofNat_sum_bits (BitVec.ofFnLE (maskBit s i)), valveMask]
    have range : List.range 8 = (List.finRange 8).map (·.val) := rfl
    rw [range, List.map_map]
    refine congrArg (fun l => BitVec.ofNat 8 (List.sum l)) (List.map_congr_left fun k _ => ?_)
    rw [Function.comp_apply, bits]
    cases maskBit s i k <;> simp [bitNat]
  rw [mask, bits]

theorem maskBit_iff {s : State} {i : Fin 40} {o : Fin 8} : maskBit s i o = true ↔
    ∃ k : Fin 32, s.water.groups[k].valve = some { node := i, output := o } ∧ s.water.groups[k].valveOpen = true := by
  simp only [maskBit, List.any_eq_true, List.mem_finRange, true_and, Bool.and_eq_true, beq_iff_eq]

section

variable {l : Line} {x : Exchange} {s : State}

/-- ATTEMPT_START with an attempt ready: the order that is built begins on the line (R89, R90). -/
theorem attemptStart_ready (serves : (s.line l).exchange = some x) (ready : x.phase = .ready) :
    attemptStart l s =
      setLineRec l { (buildOrder l x s).1.line l with
        exchange := some { (buildOrder l x s).2 with phase := .listening }
        sentOrder := (buildOrder l x s).2.order
        sentBreak := (buildOrder l x s).2.turn == .join .identify } (buildOrder l x s).1 := by
  unfold attemptStart
  rw [serves]
  exact if_pos ready

theorem attemptStart_none (waits : ∀ x : Exchange, (s.line l).exchange = some x → x.phase ≠ .ready) :
    attemptStart l s = s := by
  unfold attemptStart
  split
  · next x serves => exact if_neg (waits x serves)
  · rfl

theorem buildOrder_resent (built : x.order ≠ []) : buildOrder l x s = (s, x) := if_neg built

theorem buildOrder_set (fresh : x.order = []) (turn : x.turn = .set) : buildOrder l x s = buildSet x.index x s := by
  rw [buildOrder, if_pos fresh, turn]

theorem buildOrder_join {stage : JoinStage} (fresh : x.order = []) (turn : x.turn = .join stage) :
    buildOrder l x s = buildJoin l x.index stage x s := by
  rw [buildOrder, if_pos fresh, turn]

theorem buildSet_valve (kind : (s.node x.index).kind = .valve) :
    buildSet x.index x s = (s, x.withOrder (s.node x.index) none (beBytes 1 (valveMask s x.index).toNat)) := by
  rw [buildSet, kind]

theorem buildSet_unbound (kind : (s.node x.index).kind = .pump) (unbound : pumpGroup s x.index = none) :
    buildSet x.index x s = (s, x.withOrder (s.node x.index) none (beBytes 2 0)) := by
  rw [buildSet, kind, unbound]

theorem buildSet_bound {n : Fin 32} (kind : (s.node x.index).kind = .pump) (bound : pumpGroup s x.index = some n) :
    buildSet x.index x s = (compute n s,
      x.withOrder ((compute n s).node x.index) (some n) (beBytes 2 (compute n s).water.groups[n].issued)) := by
  rw [buildSet, kind, bound]

theorem buildJoin_zero_valve (kind : (s.node x.index).kind = .valve) :
    buildJoin l x.index .zero x s = (s, x.withOrder (s.node x.index) none (beBytes 1 0)) := by
  rw [buildJoin, kind]

theorem buildJoin_zero_pump (kind : (s.node x.index).kind = .pump) : buildJoin l x.index .zero x s =
    (updatePumpGroup x.index (fun g => { g with issued := 0 }) s, x.withOrder (s.node x.index) none (beBytes 2 0)) := by
  rw [buildJoin, kind]

end

/-- Settles O28: the order of each turn, as it is built for the first attempt or as it stands. -/
theorem attemptsSendTheirOrders : Obligations.AttemptsSendTheirOrders := by
  refine fun l s => ⟨fun x serves ready => ?_, fun waits => congrArg Host.Outcome.next (attemptStart_none waits)⟩
  have started : exec (.attemptStart l) s = _ := congrArg Host.Outcome.next (attemptStart_ready serves ready)
  rw [started]
  dsimp only
  refine ⟨fun built => ?_, fun fresh turn kind => ?_, fun fresh turn kind unbound => ?_, fun fresh turn => ?_,
    fun fresh turn => ?_, fun fresh turn kind => ?_, fun fresh turn kind => ?_⟩
  · rw [buildOrder_resent built]
    rfl
  · refine ⟨valveMask s x.index, ?_, fun o => by rw [getLsbD_valveMask, maskBit_iff]⟩
    rw [buildOrder_set fresh turn, buildSet_valve kind, ← byte_eq_beBytes]
    simp only [Exchange.withOrder, turn]
    rfl
  · rw [buildOrder_set fresh turn, buildSet_unbound kind unbound]
    simp only [Exchange.withOrder, turn]
    rfl
  · rw [buildOrder_join fresh turn]
    simp only [buildJoin, Exchange.withOrder, turn]
    cases l <;> rfl
  · rw [buildOrder_join fresh turn]
    simp only [buildJoin, Exchange.withOrder, turn]
    rfl
  · rw [buildOrder_join fresh turn, buildJoin_zero_valve kind]
    simp only [Exchange.withOrder, turn]
    rfl
  · rw [buildOrder_join fresh turn, buildJoin_zero_pump kind]
    simp only [Exchange.withOrder, turn, updatePumpGroup]
    cases pumpGroup s x.index <;> rfl

/-! ### The judgement (R91) -/

/-- The answer's kind character agrees, where an IDENTIFY answer reports one (R91, R96). -/
def KindAgrees (x : Exchange) (n : Node) (chars : List RxChar) : Prop :=
  x.turn = .join .identify → rxData chars 2 = n.kind.code

open Classical in
/-- The tests of R91 in their order, as propositions. -/
theorem judge_eq (x : Exchange) (n : Node) (chars : List RxChar) : judge x n chars =
    if ¬∀ c ∈ chars, c.stopHigh = true then .garbled
    else if chars.length < declaredLength chars + 3 then .short
    else if declaredLength chars + 3 < chars.length then .overlong
    else if ¬(checkByteGood chars = true ∧ rxData chars 0 % 32 = n.address) then .garbled
    else if flagBit (rxData chars 0) 7 ≠ orderSequence x.order then .stale
    else if declaredLength chars < expectedLength x.turn n.kind then .short
    else if expectedLength x.turn n.kind < declaredLength chars then .overlong
    else if ¬KindAgrees x n chars then .mismatch
    else if flagBit (rxData chars 0) 5 = true then .declined
    else .clean := by
  have stops : chars.any (fun c => !c.stopHigh) = true ↔ ¬∀ c ∈ chars, c.stopHigh = true := by
    simp
  have few : chars.length < 3 ∨ chars.length < declaredLength chars + 3 ↔ chars.length < declaredLength chars + 3 := by
    omega
  have wrong : (!checkByteGood chars || rxData chars 0 % 32 != n.address) = true ↔
      ¬(checkByteGood chars = true ∧ rxData chars 0 % 32 = n.address) := by
    rw [Bool.or_eq_true, Bool.not_eq_true', bne_iff_ne, not_and_or, Bool.not_eq_true]
  have kind : (x.turn == .join .identify && rxData chars 2 != n.kind.code) = true ↔ ¬KindAgrees x n chars := by
    rw [Bool.and_eq_true, beq_iff_eq, bne_iff_ne, KindAgrees, Classical.not_imp]
  simp only [judge, judgeContent, stops, few, wrong, kind, bne_iff_ne]

/-- Settles O30: each judgement by the first test that gives it. -/
theorem answersAreJudgedInOrder : Obligations.AnswersAreJudgedInOrder := by
  intro x n chars whole good fresh want kindAgrees
  have expected : want = expectedLength x.turn n.kind := by
    simp only [want, expectedLength]
    cases x.turn with
    | set => cases n.kind <;> rfl
    | join stage => cases stage <;> cases n.kind <;> rfl
  have agrees : kindAgrees ↔ KindAgrees x n chars := Iff.rfl
  simp only [fresh, good, whole, expected, agrees]
  rw [judge_eq]
  split_ifs with stops few many wrong stale low high kind declined
  all_goals grind

end Sys2Proof.Machine
end

section

/-! # A pump node's SET turn (R66 to R74) -/

namespace Sys2Proof.Machine

open Sys2Proof.Safety

section

variable {s : State} {n : Fin 32} {g : Group}

/-! ### What a computation writes -/

theorem compute_eq (n : Fin 32) (s : State) : compute n s = { s with
    water := { s.water with groups := s.water.groups.set n (computedGroup s n) }
    link := { s.link with
      pending := if (computedGroup s n).flags.budget = true ∧ s.water.groups[n].flags.budget = false then
          s.link.pending ||| Attention.budgetHeld.bit
        else s.link.pending } } := by
  have holds : ((computedGroup s n).flags.budget && !s.water.groups[n].flags.budget) = true ↔
      (computedGroup s n).flags.budget = true ∧ s.water.groups[n].flags.budget = false := by
    rw [Bool.and_eq_true, Bool.not_eq_true']
  simp only [compute, holds]
  split_ifs <;> rfl

theorem inSafe_iff : s.inSafe = true ↔ s.clock.state = .safe := beq_iff_eq

/-! ### The capped height (R68) -/

/-- The value is in the list, and the least of it. -/
def IsLeastOf (a : Nat) (l : List Nat) : Prop := a ∈ l ∧ ∀ v ∈ l, a ≤ v

theorem isLeastOf_minOption {a : Nat} {l : List Nat} (least : IsLeastOf a l) (o : Option Nat) :
    IsLeastOf (minOption a o) (l ++ o.toList) := by
  obtain ⟨mem, le⟩ := least
  cases o with
  | none => simpa [minOption] using ⟨mem, le⟩
  | some b =>
    refine ⟨?_, fun v hv => ?_⟩
    · rcases min_choice a b with h | h <;> simp [minOption, h, mem]
    · rcases List.mem_append.1 hv with hv | hv
      · exact (minOption_le a _).trans (le v hv)
      · rw [List.mem_singleton.1 hv]
        exact minOption_some_le a b

theorem cappedHeight_of_safe (safe : s.inSafe = true) (demanded : Nat) : cappedHeight s g demanded = 0 := by
  simp [cappedHeight, safe]

/-- Out of SAFE an enabled group's capped height is the least of its terms. -/
theorem cappedHeight_least (out : ¬s.inSafe = true) (enabled : g.enabled = true) (demanded : Nat) :
    IsLeastOf (cappedHeight s g demanded)
      ([demanded, g.heightLimit] ++ (windTerm s g).toList ++ (levelTerm s g).toList) := by
  have least : cappedHeight s g demanded =
      minOption (minOption (min demanded g.heightLimit) (windTerm s g)) (levelTerm s g) := by
    simp [cappedHeight, out, enabled]
  have first : IsLeastOf (min demanded g.heightLimit) [demanded, g.heightLimit] := by
    refine ⟨?_, by simp⟩
    rcases min_choice demanded g.heightLimit with h | h <;> simp [h]
  rw [least]
  exact isLeastOf_minOption (isLeastOf_minOption first _) _

theorem termDecides_iff {limit demanded capped : Nat} {o : Option Nat} : termDecides limit demanded capped o = true ↔
    ∃ v, o = some v ∧ v < limit ∧ v < demanded ∧ v = capped := by
  cases o with
  | none => simp [termDecides]
  | some v =>
    simp only [termDecides, Bool.and_eq_true, decide_eq_true_eq, beq_iff_eq, Option.some.injEq, exists_eq_left', and_assoc]

theorem valveCommand_eq (g : Group) (capped : Nat) : valveCommand g capped =
    if g.valve = none then g.valveOpen else if 0 < capped then true else if g.delivered ≤ g.bypass then false
    else g.valveOpen := by
  simp only [valveCommand, Option.isNone_iff_eq_none]

/-! ### The target and the slew (R71, R72) -/

theorem valveConfirmed_iff {v : ValveBinding} : valveConfirmed s v = true ↔
    (s.node v.node).state = .online ∧ (s.node v.node).confirmedOpen.getLsbD v.output.val = true := by
  rw [valveConfirmed, Bool.and_eq_true, beq_iff_eq]
  rfl

theorem valveLimited_confirmed {raw : Nat} (confirmed : ∀ v, g.valve = some v → valveConfirmed s v = true) :
    valveLimited s g raw = raw := by
  unfold valveLimited
  split
  · rfl
  · next v valve => exact if_pos (confirmed v valve)

theorem valveLimited_unconfirmed {raw : Nat} {v : ValveBinding} (valve : g.valve = some v) (shut : ¬valveConfirmed s v = true) :
    valveLimited s g raw = min raw g.bypass := by
  rw [valveLimited, valve]
  exact if_neg shut

/-- The bounds that the slew keeps (R72). -/
theorem slewed_bounds (s : State) (g : Group) (target : Nat) :
    slewed s g target ≤ g.delivered + g.upStep ∧ (s.inSafe = true → slewed s g target ≤ g.delivered) ∧
    g.delivered - effectiveDownStep s g ≤ slewed s g target ∧
    slewed s g target ≤ max target (g.delivered - effectiveDownStep s g) := by
  unfold slewed
  dsimp only
  split_ifs with safe
  · refine ⟨?_, fun _ => ?_, ?_, ?_⟩ <;> omega
  · refine ⟨?_, fun inSafe => absurd inSafe safe, ?_, ?_⟩ <;> omega

/-! ### The budget (R73, R74) -/

theorem budgetHolds_iff {v : Nat} : budgetHolds s n v = true ↔
    s.water.budget ≠ 0 ∧ s.water.groups[n].claimed < v ∧ s.water.budget < powerSumAt s n v := by
  simp only [budgetHolds, Bool.and_eq_true, bne_iff_ne, decide_eq_true_eq, and_assoc]

theorem computedGroup_target (s : State) (n : Fin 32) : (computedGroup s n).target =
    valveLimited s s.water.groups[n] (curveSpeed s.water.groups[n].curve (computedGroup s n).capped) := rfl

/-- The speed that the slew gives, before the budget. -/
def freshSpeed (s : State) (n : Fin 32) : Nat := slewed s s.water.groups[n] (computedGroup s n).target

theorem computedGroup_issued (s : State) (n : Fin 32) : (computedGroup s n).issued =
    if budgetHolds s n (freshSpeed s n) = true then s.water.groups[n].claimed else freshSpeed s n := rfl

/-- The issued speed lies between the delivered speed or the slew's and the slew's. -/
theorem issued_bounds (s : State) (n : Fin 32) : (computedGroup s n).issued ≤ freshSpeed s n ∧
    (s.water.groups[n].delivered ≤ (computedGroup s n).issued ∨ (computedGroup s n).issued = freshSpeed s n) := by
  rw [computedGroup_issued]
  split_ifs with held
  · obtain ⟨-, rise, -⟩ := budgetHolds_iff.1 held
    exact ⟨rise.le, .inl (le_max_right _ _)⟩
  · exact ⟨le_rfl, .inr rfl⟩

theorem caps_iff : (!s.inSafe && g.enabled) = true ↔ ¬s.clock.state = .safe ∧ g.enabled = true := by
  rw [Bool.and_eq_true, Bool.not_eq_true', ← Bool.not_eq_true, inSafe_iff]

/-- The flags LIMIT, WIND and LEVEL (R68). -/
theorem limitFlag_iff : (computedGroup s n).flags.limit = true ↔
    ¬s.clock.state = .safe ∧ s.water.groups[n].enabled = true ∧
      s.water.groups[n].heightLimit < (computedGroup s n).demanded ∧
      s.water.groups[n].heightLimit = (computedGroup s n).capped := by
  show (!s.inSafe && _ && decide _ && _ == _) = true ↔ _
  rw [Bool.and_eq_true, Bool.and_eq_true, caps_iff, decide_eq_true_iff, beq_iff_eq, and_assoc, and_assoc]
  rfl

/-- A term decides the capped height out of SAFE, of an enabled group. -/
def TermFlag (s : State) (n : Fin 32) (term : Option Nat) : Prop :=
  ¬s.clock.state = .safe ∧ s.water.groups[n].enabled = true ∧
    ∃ v, term = some v ∧ v < s.water.groups[n].heightLimit ∧ v < (computedGroup s n).demanded ∧ v = (computedGroup s n).capped

theorem windFlag_iff : (computedGroup s n).flags.wind = true ↔ TermFlag s n (windTerm s s.water.groups[n]) := by
  show (!s.inSafe && _ && termDecides _ _ _ _) = true ↔ _
  rw [Bool.and_eq_true, caps_iff, termDecides_iff, and_assoc]
  rfl

theorem levelFlag_iff : (computedGroup s n).flags.level = true ↔ TermFlag s n (levelTerm s s.water.groups[n]) := by
  show (!s.inSafe && _ && termDecides _ _ _ _) = true ↔ _
  rw [Bool.and_eq_true, caps_iff, termDecides_iff, and_assoc]
  rfl

end

/-- Settles O27: the stages of the computation one by one, and the bounds that the slew and the budget keep. -/
theorem pumpTurnKeepsTheSpeedLaws : Obligations.PumpTurnKeepsTheSpeedLaws := by
  intro l x n s serves ready fresh turn kind bound
  have started : exec (.attemptStart l) s = _ := congrArg Host.Outcome.next (attemptStart_ready serves ready)
  rw [buildOrder_set fresh turn, buildSet_bound kind bound] at started
  have group : (compute n s).water.groups[n] = computedGroup s n := by
    rw [compute_eq]
    exact Vector.getElem_set_self ..
  rw [group] at started
  refine ⟨_, started, ?_⟩
  intro g h safe down order wind level terms raw confirmed v claimed rated estimate sum held decides
  have hIs : h = computedGroup s n := group
  clear_value h
  subst hIs
  have downIs : effectiveDownStep s g = down := if_congr inSafe_iff rfl rfl
  have sumIs (w : Nat) : powerSumAt s n w = sum w := by
    simp only [powerSumAt, otherPower, powerEstimate_eq, ratedPowerUsed_eq]
    rfl
  have freshIs : freshSpeed s n = v := by
    show slewed s g _ = v
    rw [slewed, downIs]
    exact if_congr inSafe_iff rfl rfl
  have heldIs : budgetHolds s n v = true ↔ held := by
    rw [budgetHolds_iff, sumIs]
    rfl
  obtain ⟨up, safeLe, downLe, targetLe⟩ := slewed_bounds s g (computedGroup s n).target
  rw [downIs] at downLe targetLe
  obtain ⟨issuedLe, issuedGe⟩ := issued_bounds s n
  refine ⟨?_, ?_, rfl, ?_, ?_, rfl, ?_, ?_, ?_, ?_, ?_, ?_, ?_, ?_, ?_, ?_, ?_, ?_, ?_, ?_, ?_, ?_, ?_⟩
  · rw [compute_eq]
    rfl
  · rw [compute_eq]
    rfl
  · rw [compute_eq]
    simp only [Exchange.withOrder, turn]
    rfl
  · rw [compute_eq]
    rfl
  · rintro (inSafe | disabled)
    · exact cappedHeight_of_safe (inSafe_iff.2 inSafe) _
    · exact computedGroup_capped_of_disabled disabled
  · exact fun out enabled => cappedHeight_least (fun inSafe => out (inSafe_iff.1 inSafe)) enabled _
  · by_cases shown : confirmed
    · rw [if_pos shown]
      exact valveLimited_confirmed fun v valve => valveConfirmed_iff.2 (shown v valve)
    · rw [if_neg shown]
      obtain ⟨v, valve, shut⟩ : ∃ v, g.valve = some v ∧ ¬valveConfirmed s v = true := by
        simpa only [confirmed, not_forall, exists_prop, ← valveConfirmed_iff] using shown
      exact valveLimited_unconfirmed valve shut
  · exact valveCommand_eq ..
  · rw [computedGroup_issued, freshIs]
    exact if_congr heldIs rfl rfl
  · exact inSafe_iff
  · exact limitFlag_iff
  · exact windFlag_iff
  · exact levelFlag_iff
  · exact decide_eq_true_iff
  · exact bne_iff_ne.trans (by rw [← freshIs]; rfl)
  · have budget : (computedGroup s n).flags.budget = budgetHolds s n (freshSpeed s n) := rfl
    rw [budget, freshIs]
    exact heldIs
  · exact issuedLe.trans up
  · exact fun inSafe => issuedLe.trans (safeLe (inSafe_iff.2 inSafe))
  · rcases issuedGe with delivered | issued
    · exact (Nat.sub_le _ _).trans delivered
    · rw [issued]
      exact downLe
  · intro v valve shut
    have unconfirmed : ¬valveConfirmed s v = true := fun shown => by
      obtain ⟨online, opened⟩ := valveConfirmed_iff.1 shown
      rcases shut with offline | closed
      · exact offline online
      · cases closed.symm.trans opened
    have limited : (computedGroup s n).target ≤ g.bypass := by
      rw [computedGroup_target, valveLimited_unconfirmed valve unconfirmed]
      exact min_le_right _ _
    exact issuedLe.trans (targetLe.trans (max_le_max_right _ limited))
  · intro rises
    have issued : (computedGroup s n).issued = if budgetHolds s n v = true then claimed g else v := by
      rw [computedGroup_issued, freshIs]
      rfl
    have free : ¬held := fun holds => by
      rw [issued, if_pos (heldIs.2 holds)] at rises
      exact lt_irrefl _ rises
    rw [issued, if_neg (mt heldIs.1 free)] at rises ⊢
    by_contra exceeds
    rw [not_or, not_le] at exceeds
    exact free ⟨exceeds.1, rises, exceeds.2⟩

end Sys2Proof.Machine
end

section

/-! # The end of a turn (R90, R93 to R98, R100) -/

namespace Sys2Proof.Machine

open Sys2Proof.Safety

/-! ### The groups that a turn's end writes (R77, R79) -/

/-- The water records with the group bound to a pump node rewritten. -/
def pumpWater (s : State) (i : Fin 40) (f : Group → Group) : Water :=
  match pumpGroup s i with
  | none => s.water
  | some k => { s.water with groups := s.water.groups.set k (f s.water.groups[k]) }

section

variable {i : Fin 40} {n : Node} {s : State} {f g : Group → Group}

theorem updatePumpGroup_eq (i : Fin 40) (f : Group → Group) (s : State) :
    updatePumpGroup i f s = s.setWater (pumpWater s i f) := by
  unfold updatePumpGroup pumpWater
  cases pumpGroup s i <;> rfl

theorem pumpWater_none (unbound : pumpGroup s i = none) : pumpWater s i f = s.water := by
  rw [pumpWater, unbound]

theorem pumpWater_some {k : Fin 32} (bound : pumpGroup s i = some k) :
    pumpWater s i f = { s.water with groups := s.water.groups.set k (f s.water.groups[k]) } := by
  rw [pumpWater, bound]

/-- Rewriting a group with its pump node kept leaves the node bound to the same group. -/
theorem pumpGroup_setWater (kept : ∀ g, (f g).pumpNode = g.pumpNode) :
    pumpGroup (s.setWater (pumpWater s i f)) i = pumpGroup s i := by
  have pump (k : Fin 32) : (pumpWater s i f).groups[k].pumpNode = s.water.groups[k].pumpNode := by
    unfold pumpWater
    split
    · rfl
    · next j _ =>
      by_cases here : j = k
      · subst here
        simp [kept]
      · have other : j.val ≠ k.val := fun same => here (Fin.ext same)
        simp [other]
  simp only [pumpGroup, State.setWater_water, pump]

theorem pumpWater_pumpWater (kept : ∀ g, (f g).pumpNode = g.pumpNode) :
    pumpWater (s.setWater (pumpWater s i f)) i g = pumpWater s i (g ∘ f) := by
  rw [pumpWater, pumpGroup_setWater kept]
  cases bound : pumpGroup s i with
  | none => simp only [pumpWater_none bound, State.setWater_water]
  | some k => simp [pumpWater_some bound, Vector.set_set]

theorem pumpWater_id : pumpWater s i id = s.water := by
  unfold pumpWater
  split
  · rfl
  · simp

/-- A node that becomes LOST sets its group's LOST flag, one that becomes ONLINE clears it, any other leaves it. -/
def lostMark : NodeState → Group → Group
  | .lost => Group.setLost true
  | .online => Group.setLost false
  | _ => id

theorem followLost_eq (i : Fin 40) (k : NodeState) (s : State) :
    followLost i k s = s.setWater (pumpWater s i (lostMark k)) := by
  cases k with
  | lost => exact updatePumpGroup_eq ..
  | online => exact updatePumpGroup_eq ..
  | absent | joining | suspect =>
    show s = s.setWater (pumpWater s i id)
    rw [pumpWater_id]
    rfl

theorem water_writeNode_leaves (leaves : n.state ≠ (s.node i).state) :
    (writeNode i n s).water = pumpWater s i (lostMark n.state) := by
  rcases writeNode_cases i n s with ⟨same, -⟩ | ⟨-, written⟩
  · exact absurd same leaves
  · rw [written, evalCritical_water, followLost_eq]
    rfl

theorem water_writeNode_stays (stays : n.state = (s.node i).state) : (writeNode i n s).water = s.water := by
  rw [writeNode_same stays]
  rfl

end

/-! ### From the outcome of a turn to the next (R88) -/

/-- What the outcome of a turn leaves: its node's record, the groups, and what becomes of CRITICAL_LOST. -/
structure TurnLeaves (i : Fin 40) (n : Node) (s u : State) : Prop where
  atMost : SafeAtMost s u
  lines : ∀ m, u.line m = s.line m
  nodes : ∀ j, u.node j = if i = j then n else s.node j

theorem turnLeaves_writeNode (i : Fin 40) (n : Node) (s : State) : TurnLeaves i n s (writeNode i n s) :=
  ⟨safeAtMost_writeNode i n s, fun m => line_writeNode i n s m, fun j => node_writeNode i j n s⟩

theorem TurnLeaves.raise {i : Fin 40} {n : Node} {s u : State} (h : TurnLeaves i n s u) (c : Attention) :
    TurnLeaves i n s (raise c u) :=
  ⟨h.atMost.trans (safeAtMost_raise c u), h.lines, h.nodes⟩

/-- Records of the water unit alone, written before or after. -/
theorem TurnLeaves.water {i : Fin 40} {n : Node} {s u : State} (h : TurnLeaves i n s u) (w : Water) :
    TurnLeaves i n s (u.setWater w) :=
  ⟨h.atMost.trans (safeAtMost_of_eq rfl), h.lines, h.nodes⟩

theorem TurnLeaves.after_water {i : Fin 40} {n : Node} {s u : State} {w : Water} (h : TurnLeaves i n (s.setWater w) u) :
    TurnLeaves i n s u :=
  ⟨(safeAtMost_of_eq rfl).trans h.atMost, h.lines, h.nodes⟩

theorem TurnLeaves.after_node {i : Fin 40} {n m : Node} {s u : State} (h : TurnLeaves i n (setNodeRec i m s) u) :
    TurnLeaves i n s u := by
  refine ⟨(safeAtMost_of_eq rfl).trans h.atMost, fun k => (h.lines k).trans (State.line_setNodeRec ..), fun j => ?_⟩
  rw [h.nodes, State.node_setNodeRec]
  split_ifs <;> rfl

/-- A turn that ends with no start pending: what it left, and a round that goes on after its index. -/
theorem turn_ends {l : Line} {i : Fin 40} {n : Node} {s u : State} (left : TurnLeaves i n s u)
    (calm : (s.line l).pendingStart = false) :
    let t := continueRound l i u
    t = { s with
      clock := t.clock, water := t.water, fieldLines := t.fieldLines, sup := t.sup, lights := t.lights, play := t.play,
      link := t.link } ∧
    t.link = { s.link with pending := t.link.pending } ∧ t.node i = n ∧
    (∀ j : Fin 40, j < i ∨ (s.node j).line ≠ l → j ≠ i → t.node j = s.node j) ∧
    (∀ m : Line, m ≠ l → t.line m = s.line m) ∧
    (∀ y, (t.line l).exchange = some y → i < y.index ∧ y.phase = .ready ∧ y.order = []) ∧
    t.water = u.water ∧ PendingKept u t := by
  intro t
  have goes : RoundGoesOn l i u t := roundGoesOn_continueRound ((congrArg _ (left.lines l)).trans calm)
  have reach := left.atMost.trans goes.atMost
  refine ⟨safeAtMost_frame reach, reach.link, ?_, fun j h other => ?_, fun m other => ?_, goes.exchange, goes.water,
    goes.atMost.kept⟩
  · rw [goes.nodes i (.inl le_rfl), left.nodes, if_pos rfl]
  · have node : u.node j = s.node j := by rw [left.nodes, if_neg (Ne.symm other)]
    rw [goes.nodes j (by rw [node]; exact h.imp_left le_of_lt), node]
  · rw [goes.lines m other, left.lines]

/-! ### The end of an attempt (R90, R91, R93) -/

section

variable {l : Line} {x : Exchange} {s : State} {judged : Node → Condition} {chars : List RxChar} {c : Condition}

theorem answerEnd_eq (serves : (s.line l).exchange = some x) (collects : x.phase = .collecting) (few : chars.length ≤ 259) :
    answerEnd l chars s = attemptEnd l x (fun n => judge x n chars) chars s := by
  have all : chars.take 259 = chars := List.take_of_length_le few
  unfold answerEnd
  rw [serves, all]
  exact if_pos collects

theorem replyWaitExpiry_eq (serves : (s.line l).exchange = some x) (listens : x.phase = .listening) :
    replyWaitExpiry l s = attemptEnd l x (fun _ => .silent) [] s := by
  unfold replyWaitExpiry
  rw [serves]
  exact if_pos listens

theorem answerBegin_eq (serves : (s.line l).exchange = some x) (listens : x.phase = .listening) :
    answerBegin l s = setLineRec l { s.line l with exchange := some { x with phase := .collecting } } s := by
  unfold answerBegin
  rw [serves]
  exact if_pos listens

theorem attemptEnd_discards (discard : x.discard = true) : attemptEnd l x judged chars s = continueRound l x.index s :=
  if_pos discard

/-- The judgement is the node's last condition. -/
def judgedState (i : Fin 40) (c : Condition) (s : State) : State := setNodeRec i { s.node i with condition := c } s

theorem attemptEnd_retries (keeps : x.discard = false) (judgement : judged (s.node x.index) = c) (failed : c.failed = true)
    (within : x.further < (s.line l).active.retryLimit) : attemptEnd l x judged chars s =
      setLineRec l { s.line l with exchange := some { x with further := x.further + 1, phase := .ready } }
        (judgedState x.index c s) := by
  have again : (c.failed && x.further < ((judgedState x.index c s).line l).active.retryLimit) = true := by
    rw [judgedState, State.line_setNodeRec, failed]
    exact decide_eq_true within
  unfold attemptEnd
  rw [if_neg (by simp [keeps]), judgement]
  refine (if_pos again).trans ?_
  rw [judgedState, State.line_setNodeRec]

theorem attemptEnd_ends (keeps : x.discard = false) (judgement : judged (s.node x.index) = c)
    (over_ : c.failed = false ∨ (s.line l).active.retryLimit ≤ x.further) : attemptEnd l x judged chars s =
      continueRound l x.index (turnOutcome l x c chars (judgedState x.index c s)) := by
  have last : ¬(c.failed && x.further < ((judgedState x.index c s).line l).active.retryLimit) = true := by
    rw [judgedState, State.line_setNodeRec, Bool.and_eq_true, decide_eq_true_eq]
    rintro ⟨failed, within⟩
    rcases over_ with passed | spent
    · cases passed.symm.trans failed
    · exact absurd within (not_lt.2 spent)
  unfold attemptEnd
  rw [if_neg (by simp [keeps]), judgement]
  exact if_neg last

end

/-! ### What the outcomes leave (R93 to R98) -/

theorem pumpWater_groups (s : State) (i : Fin 40) (f : Group → Group) (k : Fin 32) :
    (pumpWater s i f).groups[k] = if pumpGroup s i = some k then f s.water.groups[k] else s.water.groups[k] := by
  cases bound : pumpGroup s i with
  | none => rw [pumpWater_none bound, if_neg nofun]
  | some j =>
    rw [pumpWater_some bound]
    by_cases here : j = k
    · subst here
      simp
    · have other : j.val ≠ k.val := fun same => here (Fin.ext same)
      simp [here, other]

theorem pumpWater_rest (s : State) (i : Fin 40) (f : Group → Group) :
    (pumpWater s i f).windClasses = s.water.windClasses ∧ (pumpWater s i f).budget = s.water.budget := by
  unfold pumpWater
  split <;> exact ⟨rfl, rfl⟩

/-- The group is as it was but for its LOST flag. -/
def LostOnly (h g : Group) : Prop := h = { g with flags := { g.flags with lost := h.flags.lost } }

theorem lostOnly_writeNode (i : Fin 40) (n : Node) (s : State) (k : Fin 32) :
    LostOnly (writeNode i n s).water.groups[k] s.water.groups[k] := by
  have mark (st : NodeState) (g : Group) : LostOnly (lostMark st g) g := by cases st <;> rfl
  by_cases stays : n.state = (s.node i).state
  · rw [water_writeNode_stays stays]
    rfl
  · rw [water_writeNode_leaves stays, pumpWater_groups]
    split_ifs
    · exact mark _ _
    · rfl

theorem lostOnly_pumpNode {h g : Group} (only : LostOnly h g) : h.pumpNode = g.pumpNode := by
  rw [only]

theorem writeNode_waterRest (i : Fin 40) (n : Node) (s : State) :
    (writeNode i n s).water.windClasses = s.water.windClasses ∧ (writeNode i n s).water.budget = s.water.budget := by
  by_cases stays : n.state = (s.node i).state
  · rw [water_writeNode_stays stays]
    exact ⟨rfl, rfl⟩
  · rw [water_writeNode_leaves stays]
    exact pumpWater_rest ..

/-- What a SET answer judged CLEAN or DECLINED records in the node (R95, R166). -/
theorem recordAnswer_eq (n : Node) (clean : Bool) (chars : List RxChar) : recordAnswer n clean chars = { n with
    actualSpeed := if n.kind = .pump then rxData chars 2 * 256 + rxData chars 3 else n.actualSpeed
    confirmedOpen := if clean = true ∧ n.kind = .valve then BitVec.ofNat 8 (rxData chars 2) else n.confirmedOpen
    faultCode := if flagBit (rxData chars 0) 6 then BitVec.ofNat 8 (rxData chars (if n.kind = .pump then 4 else 3)) else 0 } := by
  unfold recordAnswer
  cases kind : n.kind with
  | pump => simp
  | valve => cases clean <;> simp

/-- The result of a SET turn reaches the group that the speed was computed for, where it is still bound to the node. -/
theorem handResult_frame (x : Exchange) (f : Group → Group) (s : State) :
    handResult x f s = s.setWater (handResult x f s).water := by
  unfold handResult
  split
  · rfl
  · split_ifs <;> rfl

theorem groups_handResult (x : Exchange) (f : Group → Group) (s : State) (k : Fin 32) :
    (handResult x f s).water.groups[k] =
      if x.group = some k ∧ s.water.groups[k].pumpNode = some x.index then f s.water.groups[k] else s.water.groups[k] := by
  unfold handResult
  split
  · next none => rw [if_neg (by simp [none])]
  · next j some =>
    by_cases here : j = k
    · subst here
      simp only [some, true_and]
      split_ifs
      · rw [updateGroup, setGroupRec_groups, if_pos rfl]
      · rfl
    · have other : x.group ≠ Option.some k := fun same => here (Option.some.inj (some.symm.trans same))
      have passed : ¬(x.group = Option.some k ∧ s.water.groups[k].pumpNode = Option.some x.index) := fun both => other both.1
      rw [if_neg passed]
      split_ifs
      · rw [updateGroup, setGroupRec_groups, if_neg here]
      · rfl

theorem handResult_waterRest (x : Exchange) (f : Group → Group) (s : State) :
    (handResult x f s).water.windClasses = s.water.windClasses ∧ (handResult x f s).water.budget = s.water.budget := by
  unfold handResult
  split
  · exact ⟨rfl, rfl⟩
  · split_ifs <;> exact ⟨rfl, rfl⟩

/-! ### SET turns (R93 to R95) -/

/-- A node's record written after its judgement: what else it leaves. -/
theorem judged_writeNode (i : Fin 40) (c : Condition) (n : Node) (s : State) :
    let u := writeNode i n (judgedState i c s)
    TurnLeaves i n s u ∧ (∀ k : Fin 32, LostOnly u.water.groups[k] s.water.groups[k]) ∧
      u.water.windClasses = s.water.windClasses ∧ u.water.budget = s.water.budget :=
  ⟨(turnLeaves_writeNode i n (judgedState i c s)).after_node, lostOnly_writeNode i n (judgedState i c s),
    writeNode_waterRest i n (judgedState i c s)⟩

theorem node_judgedState (i : Fin 40) (c : Condition) (s : State) :
    (judgedState i c s).node i = { s.node i with condition := c } := by
  rw [judgedState, State.node_setNodeRec, if_pos rfl]

theorem turnOutcome_set {l : Line} {x : Exchange} {c : Condition} {chars : List RxChar} {s : State} (turn : x.turn = .set) :
    turnOutcome l x c chars s = setOutcome l x c chars s := by
  rw [turnOutcome, turn]

theorem turnOutcome_join {l : Line} {x : Exchange} {stage : JoinStage} {c : Condition} {chars : List RxChar} {s : State}
    (turn : x.turn = .join stage) : turnOutcome l x c chars s = joinOutcome x stage c chars s := by
  rw [turnOutcome, turn]

/-- The judgement of an answer that counts. -/
def answerCondition (clean : Bool) : Condition := if clean then .clean else .declined

/-- The node after a SET answer that is CLEAN, or DECLINED. -/
def answeredNode (clean : Bool) (n : Node) (chars : List RxChar) : Node :=
  { recordAnswer { n with condition := answerCondition clean } clean chars with
    failedRounds := 0
    state := .online
    sequence := if clean then !n.sequence else n.sequence }

/-- The group after a SET answer that is CLEAN, or DECLINED. -/
def answeredGroup (clean : Bool) : Group → Group := if clean then Group.deliver else Group.setDeclined true

theorem lostOnly_answered {h g : Group} (clean : Bool) (only : LostOnly h g) : answeredGroup clean h = { g with
    delivered := if clean then g.issued else g.delivered
    flags := { g.flags with declined := !clean, lost := (answeredGroup clean h).flags.lost } } := by
  rw [only]
  cases clean <;> rfl

theorem setOutcome_answered (l : Line) (x : Exchange) (clean : Bool) (chars : List RxChar) (s : State) :
    setOutcome l x (answerCondition clean) chars (judgedState x.index (answerCondition clean) s) =
      handResult x (answeredGroup clean) (writeNode x.index (answeredNode clean (s.node x.index) chars)
        (judgedState x.index (answerCondition clean) s)) := by
  have node := node_judgedState x.index (answerCondition clean) s
  cases clean with
  | true =>
    show handResult x _ (writeNode x.index { recordAnswer ((judgedState x.index _ s).node x.index) true chars with
      failedRounds := 0, state := .online, sequence := !((judgedState x.index _ s).node x.index).sequence } _) = _
    rw [node]
    rfl
  | false =>
    show handResult x _ (writeNode x.index { recordAnswer ((judgedState x.index _ s).node x.index) false chars with
      failedRounds := 0, state := .online } _) = _
    rw [node, answeredNode, recordAnswer_eq]
    rfl

/-- Settles O31: the answer that begins, and the answered node and group of a turn that ends. -/
theorem setAnswersEndTheTurn : Obligations.SetAnswersEndTheTurn := by
  intro l x s serves
  refine ⟨fun listens => congrArg Host.Outcome.next (answerBegin_eq serves listens), ?_⟩
  intro chars few collects keeps turn calm n clean answered
  obtain ⟨b, judgement, isClean⟩ : ∃ b : Bool, judge x n chars = answerCondition b ∧ (clean ↔ b = true) := by
    rcases answered with yes | no
    · exact ⟨true, yes, iff_of_true yes rfl⟩
    · exact ⟨false, no, iff_of_false (fun yes => by cases no.symm.trans yes) nofun⟩
  have passes : (answerCondition b).failed = false := by cases b <;> rfl
  have ended : exec (.answerEnd l chars) s = .next (continueRound l x.index _) := congrArg Host.Outcome.next
    ((answerEnd_eq serves collects few).trans (attemptEnd_ends keeps judgement (.inl passes)))
  rw [turnOutcome_set turn, setOutcome_answered] at ended
  refine ⟨_, ended, ?_⟩
  obtain ⟨written, lost, winds, budget⟩ := judged_writeNode x.index (answerCondition b) (answeredNode b n chars) s
  generalize writeNode x.index _ (judgedState x.index (answerCondition b) s) = u at *
  have left := written.water (handResult x (answeredGroup b) u).water
  rw [← handResult_frame] at left
  obtain ⟨frame, link, node, nodes, lines, exchange, water, -⟩ := turn_ends left calm
  obtain ⟨windsKept, budgetKept⟩ := handResult_waterRest x (answeredGroup b) u
  refine ⟨frame, link, node.trans ?_, nodes, lines, exchange, ?_, ?_, fun k => ?_⟩
  · rw [answeredNode, recordAnswer_eq, answerCondition]
    simp only [isClean]
  · rw [water, windsKept, winds]
  · rw [water, budgetKept, budget]
  · have groups : (continueRound l x.index (handResult x (answeredGroup b) u)).water.groups[k] = _ :=
      (congrArg (fun w => w.groups[k]) water).trans (groups_handResult x (answeredGroup b) u k)
    rw [lostOnly_pumpNode (lost k)] at groups
    intro g lostNow served
    by_cases serves : served
    · rw [if_pos serves] at groups ⊢
      rw [groups, lostOnly_answered b (lost k), ← groups]
      simp only [isClean]
      cases b <;> rfl
    · rw [if_neg serves] at groups ⊢
      rw [groups, lost k, ← groups]

end Sys2Proof.Machine
end

section

/-! # Join turns, failed attempts, and a start that is pending (R87, R93, R94, R96 to R98, R100) -/

namespace Sys2Proof.Machine

open Sys2Proof.Safety

/-! ### A node that is lost (R94, R98) -/

section

variable {i : Fin 40} {n : Node} {s : State}

theorem memberOf_raise_self (c : Attention) (s : State) : c.memberOf (raise c s).link.pending = true := by
  rw [memberOf_raise]
  simp

/-- A node that becomes LOST: its record, its group's LOST flag, and NODE_LOST. -/
theorem loseNode_leaves (present : (s.node i).state ≠ .lost) :
    TurnLeaves i { n with state := .lost, countdown := 16 } s (loseNode i n s) ∧
    (loseNode i n s).water = pumpWater s i (Group.setLost true) ∧
    Attention.nodeLost.memberOf (loseNode i n s).link.pending = true := by
  refine ⟨(turnLeaves_writeNode i { n with state := .lost, countdown := 16 } s).raise .nodeLost, ?_, memberOf_raise_self ..⟩
  exact water_writeNode_leaves (n := { n with state := .lost, countdown := Config.rejoinRounds }) (Ne.symm present)

end

/-! ### The outcomes of a join turn (R96 to R98) -/

section

variable {i : Fin 40} {c : Condition} {chars : List RxChar} {s : State}

/-- A join stage that succeeds before the last leaves its node JOINING at the next. -/
theorem joinCleaned_next {stage : JoinStage} {n : Node} (joins : n.state = (s.node i).state) (n' : Node)
    (next : joinCleaned i stage n chars s = writeNode i n' s) (kept : n'.state = n.state) :
    TurnLeaves i n' s (joinCleaned i stage n chars s) ∧ (joinCleaned i stage n chars s).water = s.water := by
  rw [next]
  exact ⟨turnLeaves_writeNode i n' s, water_writeNode_stays (kept.trans joins)⟩

/-- The node that a CLEAN answer to the ZERO stage brings ONLINE (R98). -/
def joinedNode (n : Node) (chars : List RxChar) : Node :=
  { recordAnswer { n with sequence := !n.sequence } true chars with
    failedRounds := 0
    state := .online
    stage := .identify
    confirmedOpen := if n.kind = .valve then 0 else n.confirmedOpen }

theorem joinCleaned_zero_pump {n : Node} (kind : n.kind = .pump) : joinCleaned i .zero n chars s =
    raise .nodeJoined (writeNode i (joinedNode n chars) (updatePumpGroup i Group.comeToRest s)) := by
  have node : joinedNode n chars = { recordAnswer { n with sequence := !n.sequence } true chars with
      failedRounds := 0, state := .online, stage := .identify } := by
    simp [joinedNode, recordAnswer_eq, kind]
  rw [node, joinCleaned, kind]

theorem joinCleaned_zero_valve {n : Node} (kind : n.kind = .valve) : joinCleaned i .zero n chars s =
    raise .nodeJoined (writeNode i (joinedNode n chars) s) := by
  rw [joinedNode, joinCleaned, kind]
  rfl

end

/-- The node after a join stage answered CLEAN (R96 to R98). -/
def cleanedNode (stage : JoinStage) (n : Node) (chars : List RxChar) : Node :=
  match stage with
  | .identify => { n with
      sequence := !n.sequence, reportedPower := some (rxData chars 3 * 256 + rxData chars 4), stage := .configure }
  | .configure => { n with sequence := !n.sequence, stage := .zero }
  | .zero => joinedNode n chars

/-- The node after a join stage that failed (R98). -/
def failedNode (n : Node) : Node := { n with state := .lost, stage := .identify, countdown := 16 }

/-- What a join turn that ends with a condition leaves of the group bound to its pump node (R65, R79). -/
def joinGroup (c : Condition) (stage : JoinStage) (g : Group) : Group :=
  if c = .clean then
    (if stage = .zero then { g with delivered := 0, flags := { g.flags with declined := false, lost := false } } else g)
  else { g with flags := { g.flags with
    lost := true, declined := if c = .declined ∧ stage = .zero then true else g.flags.declined } }

section

variable {i : Fin 40} {n : Node} {chars : List RxChar} {s : State}

theorem joinFailed_leaves (present : (s.node i).state ≠ .lost) :
    TurnLeaves i (failedNode n) s (joinFailed i n s) ∧
    (joinFailed i n s).water = pumpWater s i (Group.setLost true) ∧
    Attention.nodeLost.memberOf (joinFailed i n s).link.pending = true :=
  loseNode_leaves (n := { n with stage := .identify }) present

theorem setLost_comeToRest : Group.setLost false ∘ Group.comeToRest = joinGroup .clean .zero := rfl

theorem setLost_setDeclined : Group.setLost true ∘ Group.setDeclined true = joinGroup .declined .zero := rfl

/-- Where the group of a pump node is rewritten before the node joins or is lost, the node's mark follows. -/
theorem water_after_updatePumpGroup {u : State} {f g : Group → Group} (kept : ∀ g, (f g).pumpNode = g.pumpNode)
    (written : u.water = pumpWater (updatePumpGroup i f s) i g) : u.water = pumpWater s i (g ∘ f) := by
  rw [written, updatePumpGroup_eq, pumpWater_pumpWater kept]

theorem TurnLeaves.after_updatePumpGroup {u : State} {f : Group → Group} (h : TurnLeaves i n (updatePumpGroup i f s) u) :
    TurnLeaves i n s u := by
  rw [updatePumpGroup_eq] at h
  exact h.after_water

theorem joinCleaned_leaves (stage : JoinStage) (joins : (s.node i).state = .joining) (same : n.state = (s.node i).state)
    (pumps : ∀ k, pumpGroup s i = some k → n.kind = .pump) :
    let u := joinCleaned i stage n chars s
    TurnLeaves i (cleanedNode stage n chars) s u ∧ u.water = pumpWater s i (joinGroup .clean stage) ∧
      (stage = .zero → Attention.nodeJoined.memberOf u.link.pending = true) := by
  intro u
  cases stage with
  | identify =>
    obtain ⟨left, water⟩ := joinCleaned_next (i := i) (chars := chars) (stage := .identify) same
      (cleanedNode .identify n chars) rfl rfl
    exact ⟨left, water.trans pumpWater_id.symm, nofun⟩
  | configure =>
    obtain ⟨left, water⟩ := joinCleaned_next (i := i) (chars := chars) (stage := .configure) same
      (cleanedNode .configure n chars) rfl rfl
    exact ⟨left, water.trans pumpWater_id.symm, nofun⟩
  | zero =>
    have leaves (v : State) (node : v.node i = s.node i) : (joinedNode n chars).state ≠ (v.node i).state := by
      rw [node, joins]
      exact nofun
    cases kind : n.kind with
    | pump =>
      have water := water_writeNode_leaves (leaves _ (node_updatePumpGroup i i Group.comeToRest s))
      have result : u = _ := joinCleaned_zero_pump kind
      refine result ▸ ⟨((turnLeaves_writeNode ..).raise _).after_updatePumpGroup, ?_, fun _ => memberOf_raise_self ..⟩
      exact (water_after_updatePumpGroup (f := Group.comeToRest) (fun _ => rfl) water).trans (congrArg _ setLost_comeToRest)
    | valve =>
      have result : u = _ := joinCleaned_zero_valve kind
      have unbound : pumpGroup s i = none := by
        cases bound : pumpGroup s i with
        | none => rfl
        | some k => cases kind.symm.trans (pumps k bound)
      refine result ▸ ⟨(turnLeaves_writeNode ..).raise _, ?_, fun _ => memberOf_raise_self ..⟩
      calc (raise .nodeJoined (writeNode i (joinedNode n chars) s)).water
          = pumpWater s i _ := water_writeNode_leaves (leaves s rfl)
        _ = s.water := pumpWater_none unbound
        _ = _ := (pumpWater_none unbound).symm

/-- The node whose answer to a join stage was DECLINED, before it is lost: a ZERO answer is recorded (R95). -/
def declinedNode (stage : JoinStage) (n : Node) (chars : List RxChar) : Node :=
  if stage = .zero then recordAnswer n false chars else n

theorem joinDeclined_leaves (stage : JoinStage) (present : (s.node i).state ≠ .lost) :
    let u := joinDeclined i stage n chars s
    TurnLeaves i (failedNode (declinedNode stage n chars)) s u ∧
      u.water = pumpWater s i (joinGroup .declined stage) ∧ Attention.nodeLost.memberOf u.link.pending = true := by
  intro u
  cases stage with
  | identify => exact joinFailed_leaves present
  | configure => exact joinFailed_leaves present
  | zero =>
    have node := node_updatePumpGroup i i (Group.setDeclined true) s
    obtain ⟨left, water, lost⟩ := joinFailed_leaves (n := recordAnswer n false chars)
      ((congrArg Node.state node).trans_ne present)
    have groups := water_after_updatePumpGroup (f := Group.setDeclined true) (fun _ => rfl) water
    exact ⟨left.after_updatePumpGroup, groups.trans (congrArg _ setLost_setDeclined), lost⟩

end

/-- The node after a join turn that ended with an answer judged CLEAN, MISMATCH or DECLINED. -/
def answeredJoinNode (c : Condition) (stage : JoinStage) (n : Node) (chars : List RxChar) : Node :=
  match c with
  | .clean => cleanedNode stage n chars
  | .declined => failedNode (declinedNode stage n chars)
  | _ => failedNode n

theorem joinOutcome_leaves {x : Exchange} {stage : JoinStage} {c : Condition} {chars : List RxChar} {s : State}
    (joins : (s.node x.index).state = .joining) (pumps : ∀ k, pumpGroup s x.index = some k → (s.node x.index).kind = .pump)
    (answered : c ∈ [.clean, .mismatch, .declined]) :
    let u := joinOutcome x stage c chars s
    TurnLeaves x.index (answeredJoinNode c stage (s.node x.index) chars) s u ∧
      u.water = pumpWater s x.index (joinGroup c stage) ∧
      (c = .clean → stage = .zero → Attention.nodeJoined.memberOf u.link.pending = true) ∧
      (c ≠ .clean → Attention.nodeLost.memberOf u.link.pending = true) := by
  intro u
  have present : (s.node x.index).state ≠ .lost := by
    rw [joins]
    exact nofun
  simp only [List.mem_cons, List.not_mem_nil, or_false] at answered
  rcases answered with rfl | rfl | rfl
  · obtain ⟨left, water, joined⟩ := joinCleaned_leaves (chars := chars) stage joins rfl pumps
    exact ⟨left, water, fun _ => joined, fun other => absurd rfl other⟩
  · obtain ⟨left, water, lost⟩ := joinFailed_leaves (n := s.node x.index) present
    exact ⟨left, water, nofun, fun _ => lost⟩
  · obtain ⟨left, water, lost⟩ := joinDeclined_leaves (chars := chars) (n := s.node x.index) stage present
    exact ⟨left, water, nofun, fun _ => lost⟩

/-- What a join turn that ends with an answer writes into its node, field by field. -/
theorem answeredJoinNode_eq {c : Condition} (stage : JoinStage) (n : Node) (chars : List RxChar) :
    let recorded : Node := { n with
      condition := c
      sequence := if c = .clean then !n.sequence else n.sequence
      actualSpeed := if stage = .zero ∧ n.kind = .pump then rxData chars 2 * 256 + rxData chars 3 else n.actualSpeed
      faultCode := if stage ≠ .zero then n.faultCode
        else if flagBit (rxData chars 0) 6 then BitVec.ofNat 8 (rxData chars (if n.kind = .pump then 4 else 3)) else 0 }
    c ∈ [.clean, .mismatch, .declined] → answeredJoinNode c stage { n with condition := c } chars = (match c, stage with
      | .clean, .identify => { recorded with
          stage := .configure, reportedPower := some (rxData chars 3 * 256 + rxData chars 4) }
      | .clean, .configure => { recorded with stage := .zero }
      | .clean, .zero => { recorded with
          state := .online, stage := .identify, failedRounds := 0
          confirmedOpen := if n.kind = .valve then 0 else n.confirmedOpen }
      | .declined, _ => { recorded with state := .lost, stage := .identify, countdown := 16 }
      | _, _ => failedNode { n with condition := c }) := by
  intro recorded answered
  simp only [List.mem_cons, List.not_mem_nil, or_false] at answered
  rcases answered with rfl | rfl | rfl
  · cases stage with
    | identify => simp [answeredJoinNode, cleanedNode, recorded]
    | configure => simp [answeredJoinNode, cleanedNode, recorded]
    | zero => cases kind : n.kind <;> simp [answeredJoinNode, cleanedNode, joinedNode, recordAnswer_eq, recorded, kind]
  · rfl
  · cases stage with
    | identify => simp [answeredJoinNode, failedNode, declinedNode, recorded]
    | configure => simp [answeredJoinNode, failedNode, declinedNode, recorded]
    | zero => simp [answeredJoinNode, failedNode, declinedNode, recordAnswer_eq, recorded]

/-- Settles O32: the outcome of each stage, and the round that goes on. -/
theorem joinAnswersEndTheTurn : Obligations.JoinAnswersEndTheTurn := by
  intro l x stage chars s serves collects keeps turn calm few n c joins pumps answered recorded
  have passes : c.failed = false := by
    simp only [List.mem_cons, List.not_mem_nil, or_false] at answered
    rcases answered with is | is | is <;> rw [is] <;> rfl
  have ended : exec (.answerEnd l chars) s = .next (continueRound l x.index _) := congrArg Host.Outcome.next
    ((answerEnd_eq serves collects few).trans (attemptEnd_ends keeps rfl (.inl passes)))
  rw [turnOutcome_join turn] at ended
  refine ⟨_, ended, ?_⟩
  have node := node_judgedState x.index c s
  obtain ⟨left, water, joined, lost⟩ := joinOutcome_leaves (chars := chars) (stage := stage) (c := c) (x := x)
    (s := judgedState x.index c s) (by rw [node]; exact joins) (by rw [node]; exact pumps) answered
  have kept := left.after_node
  obtain ⟨frame, link, nodeNow, nodes, lines, exchange, waterNow, pending⟩ := turn_ends kept calm
  refine ⟨frame, link, nodeNow.trans ?_, nodes, lines, exchange, ?_, ?_, ?_⟩
  · rw [node]
    exact answeredJoinNode_eq stage n chars answered
  · exact waterNow.trans water
  · exact fun isClean isZero => memberOf_of_kept pending (joined isClean isZero)
  · exact fun other => memberOf_of_kept pending (lost other)

end Sys2Proof.Machine
end

section

/-! # Failed attempts (R90, R93, R94, R98, R100) -/

namespace Sys2Proof.Machine

open Sys2Proof.Safety

/-! ### The turns that end with a failed attempt -/

/-- The node of a SET turn that ends with a failed attempt (R94). -/
def missedNode (n : Node) : Node := { n with failedRounds := n.failedRounds + 1 }

theorem water_writeNode_suspect (i : Fin 40) (n : Node) (s : State) :
    (writeNode i { n with state := .suspect } s).water = s.water := by
  by_cases stays : NodeState.suspect = (s.node i).state
  · exact water_writeNode_stays stays
  · exact (water_writeNode_leaves stays).trans pumpWater_id

section

variable {l : Line} {x : Exchange} {c : Condition} {chars : List RxChar} {s : State}

theorem setOutcome_failed (failed : c.failed = true) : setOutcome l x c chars s =
    if (s.line l).active.lostLimit ≤ (s.node x.index).failedRounds + 1 then
      loseNode x.index (missedNode (s.node x.index)) s
    else writeNode x.index { missedNode (s.node x.index) with state := .suspect } s := by
  cases c with
  | none | mismatch | declined | clean => cases failed
  | silent | garbled | short | overlong | stale => rfl

theorem joinOutcome_failed (stage : JoinStage) (failed : c.failed = true) :
    joinOutcome x stage c chars s = joinFailed x.index (s.node x.index) s := by
  cases c with
  | none | mismatch | declined | clean => cases failed
  | silent | garbled | short | overlong | stale => rfl

/-- A SET turn whose failed rounds stay below the lost limit leaves the node SUSPECT. -/
theorem turnOutcome_suspect (turn : x.turn = .set) (failed : c.failed = true)
    (below : (s.node x.index).failedRounds + 1 < (s.line l).active.lostLimit) :
    TurnLeaves x.index { missedNode (s.node x.index) with state := .suspect } s (turnOutcome l x c chars s) ∧
    (turnOutcome l x c chars s).water = s.water := by
  rw [turnOutcome_set turn, setOutcome_failed failed, if_neg (not_le.2 below)]
  exact ⟨turnLeaves_writeNode .., water_writeNode_suspect ..⟩

/-- The node of a turn that loses it: a SET turn has counted the failed round, a join is back at IDENTIFY (R94, R98). -/
def lostNode (turn : Turn) (n : Node) : Node :=
  if turn = .set then { missedNode n with state := .lost, countdown := 16 } else failedNode n

theorem turnOutcome_lost (failed : c.failed = true) (present : (s.node x.index).state ≠ .lost)
    (lost : x.turn ≠ .set ∨ (s.line l).active.lostLimit ≤ (s.node x.index).failedRounds + 1) :
    TurnLeaves x.index (lostNode x.turn (s.node x.index)) s (turnOutcome l x c chars s) ∧
    (turnOutcome l x c chars s).water = pumpWater s x.index (Group.setLost true) ∧
    Attention.nodeLost.memberOf (turnOutcome l x c chars s).link.pending = true := by
  cases turn : x.turn with
  | set =>
    rw [turnOutcome_set turn, setOutcome_failed failed, if_pos (lost.resolve_left (not_not.2 turn))]
    exact loseNode_leaves present
  | join stage =>
    rw [turnOutcome_join turn, joinOutcome_failed stage failed]
    exact joinFailed_leaves present

/-! ### The events that end an attempt -/

/-- The event ends the attempt of the exchange with a condition that has failed. -/
theorem exec_failed {i : Instr} (serves : (s.line l).exchange = some x)
    (event : (i = .replyWaitExpiry l ∧ x.phase = .listening ∧ c = .silent) ∨
      (∃ chars, i = .answerEnd l chars ∧ chars.length ≤ 259 ∧ x.phase = .collecting ∧ c = judge x (s.node x.index) chars ∧
        c ∈ [.garbled, .short, .overlong, .stale])) :
    c.failed = true ∧ ∃ judged chars, judged (s.node x.index) = c ∧
      exec i s = .next (attemptEnd l x judged chars s) := by
  rcases event with ⟨rfl, listens, rfl⟩ | ⟨chars, rfl, few, collects, rfl, failed⟩
  · exact ⟨rfl, _, _, rfl, congrArg Host.Outcome.next (replyWaitExpiry_eq serves listens)⟩
  · refine ⟨?_, _, _, rfl, congrArg Host.Outcome.next (answerEnd_eq serves collects few)⟩
    simp only [List.mem_cons, List.not_mem_nil, or_false] at failed
    rcases failed with is | is | is | is <;> rw [is] <;> rfl

theorem answerEnd_discards (serves : (s.line l).exchange = some x) (collects : x.phase = .collecting)
    (discard : x.discard = true) : answerEnd l chars s = continueRound l x.index s := by
  unfold answerEnd
  rw [serves]
  exact (if_pos collects).trans (attemptEnd_discards discard)

theorem exec_discards {i : Instr} (serves : (s.line l).exchange = some x) (discard : x.discard = true)
    (event : (i = .replyWaitExpiry l ∧ x.phase = .listening) ∨ (∃ chars, i = .answerEnd l chars ∧ x.phase = .collecting)) :
    exec i s = .next (continueRound l x.index s) := by
  rcases event with ⟨rfl, listens⟩ | ⟨chars, rfl, collects⟩
  · exact congrArg Host.Outcome.next ((replyWaitExpiry_eq serves listens).trans (attemptEnd_discards discard))
  · exact congrArg Host.Outcome.next (answerEnd_discards serves collects discard)

end

/-- Settles O33: the attempt made again, the turn that fails, and the exchange discarded. -/
theorem failedAttemptsRetryThenFail : Obligations.FailedAttemptsRetryThenFail := by
  intro l x s serves n active
  refine ⟨fun i c keeps event => ?_, fun i discard calm event => ?_⟩
  · obtain ⟨failed, judged, chars, judgement, run⟩ := exec_failed serves event
    refine ⟨fun within => ?_, ?_⟩
    · rw [run, attemptEnd_retries keeps judgement failed within]
      cases l <;> rfl
    · intro spent calm present becomesLost
      rw [attemptEnd_ends keeps judgement (.inr spent)] at run
      refine ⟨_, run, ?_⟩
      have node := node_judgedState x.index c s
      have line : (judgedState x.index c s).line l = s.line l := State.line_setNodeRec ..
      by_cases lost : becomesLost
      · obtain ⟨left, water, raised⟩ := turnOutcome_lost (l := l) (x := x) (c := c) (chars := chars)
          (s := judgedState x.index c s) failed (by rw [node]; exact present) (by rw [node, line]; exact lost)
        rw [node] at left
        obtain ⟨frame, link, nodeNow, nodes, lines, exchange, waterNow, pending⟩ := turn_ends left.after_node calm
        refine ⟨frame, link, nodes, lines, exchange, fun set below => ?_, fun set _ => ?_, fun join => ?_, fun kept => ?_,
          fun _ => ⟨memberOf_of_kept pending raised, waterNow.trans water⟩⟩
        · exact absurd lost (not_or.2 ⟨not_not.2 set, not_le.2 below⟩)
        · exact nodeNow.trans (if_pos set)
        · exact nodeNow.trans (if_neg join)
        · exact absurd lost kept
      · obtain ⟨set, below⟩ := not_or.1 lost
        obtain ⟨left, water⟩ := turnOutcome_suspect (l := l) (x := x) (c := c) (chars := chars)
          (s := judgedState x.index c s) (not_not.1 set) failed (by rw [node, line]; exact not_le.1 below)
        rw [node] at left
        obtain ⟨frame, link, nodeNow, nodes, lines, exchange, waterNow, -⟩ := turn_ends left.after_node calm
        exact ⟨frame, link, nodes, lines, exchange, fun _ _ => nodeNow, fun _ reached => absurd reached below,
          fun join => absurd join set, fun _ => waterNow.trans water, fun now => absurd now lost⟩
  · refine ⟨_, exec_discards serves discard event, ?_⟩
    have goes : RoundGoesOn l x.index s (continueRound l x.index s) := roundGoesOn_continueRound calm
    have frame := safeAtMost_frame goes.atMost
    rw [goes.water] at frame
    exact ⟨frame, goes.atMost.link, goes.nodes, goes.lines, goes.exchange⟩

end Sys2Proof.Machine
end

section

/-! # A start that is pending (R87, R88)

What ends a turn reads neither the pending start nor the round timer of its line: marks of these two are carried from the
line's record before the event to its record after it, and decide only what becomes of the line at the end of the round. -/

namespace Sys2Proof.Machine

open Sys2Proof.Safety

/-! ### The outcome of a turn beside the line's record -/

theorem setLineRec_setLineRec (l : Line) (q r : LineRec) (s : State) : setLineRec l q (setLineRec l r s) = setLineRec l q s := by
  cases l <;> rfl

theorem setLineRec_line (l : Line) (s : State) : setLineRec l (s.line l) s = s := by
  cases l <;> rfl

section

variable {l : Line} {r : LineRec} {i : Fin 40} {n : Node} {x : Exchange} {chars : List RxChar} {s : State}

theorem setNodeRec_setLineRec : setNodeRec i n (setLineRec l r s) = setLineRec l r (setNodeRec i n s) := by
  cases l <;> rfl

theorem updatePumpGroup_setLineRec (f : Group → Group) :
    updatePumpGroup i f (setLineRec l r s) = setLineRec l r (updatePumpGroup i f s) := by
  rw [updatePumpGroup_eq, updatePumpGroup_eq]
  rfl

theorem followLost_setLineRec (k : NodeState) : followLost i k (setLineRec l r s) = setLineRec l r (followLost i k s) := by
  rw [followLost_eq, followLost_eq]
  rfl

theorem writeNode_setLineRec : writeNode i n (setLineRec l r s) = setLineRec l r (writeNode i n s) := by
  unfold writeNode
  simp only [State.node_setLineRec, setNodeRec_setLineRec, followLost_setLineRec, evalCritical_setLineRec]
  split_ifs <;> rfl

theorem handResult_setLineRec (f : Group → Group) : handResult x f (setLineRec l r s) = setLineRec l r (handResult x f s) := by
  unfold handResult
  cases x.group with
  | none => rfl
  | some k =>
    exact (apply_ite (setLineRec l r) (s.water.groups[k].pumpNode = some x.index) (updateGroup k f s) s).symm

theorem loseNode_setLineRec : loseNode i n (setLineRec l r s) = setLineRec l r (loseNode i n s) :=
  congrArg (raise .nodeLost) writeNode_setLineRec

theorem joinCleaned_setLineRec (stage : JoinStage) :
    joinCleaned i stage n chars (setLineRec l r s) = setLineRec l r (joinCleaned i stage n chars s) := by
  cases stage with
  | identify => exact writeNode_setLineRec
  | configure => exact writeNode_setLineRec
  | zero =>
    cases kind : n.kind with
    | pump =>
      rw [joinCleaned_zero_pump kind, joinCleaned_zero_pump kind, updatePumpGroup_setLineRec, writeNode_setLineRec]
      rfl
    | valve =>
      rw [joinCleaned_zero_valve kind, joinCleaned_zero_valve kind, writeNode_setLineRec]
      rfl

theorem joinDeclined_setLineRec (stage : JoinStage) :
    joinDeclined i stage n chars (setLineRec l r s) = setLineRec l r (joinDeclined i stage n chars s) := by
  cases stage with
  | identify => exact loseNode_setLineRec
  | configure => exact loseNode_setLineRec
  | zero => exact (congrArg _ (updatePumpGroup_setLineRec _)).trans loseNode_setLineRec

theorem joinOutcome_setLineRec (stage : JoinStage) (c : Condition) :
    joinOutcome x stage c chars (setLineRec l r s) = setLineRec l r (joinOutcome x stage c chars s) := by
  unfold joinOutcome
  simp only [State.node_setLineRec]
  split
  · exact joinCleaned_setLineRec stage
  · exact joinDeclined_setLineRec stage
  · exact loseNode_setLineRec

theorem setOutcome_setLineRec (c : Condition) (settings : r.active = (s.line l).active) :
    setOutcome l x c chars (setLineRec l r s) = setLineRec l r (setOutcome l x c chars s) := by
  unfold setOutcome
  simp only [State.node_setLineRec, State.line_setLineRec, if_true, settings]
  split
  · rw [writeNode_setLineRec, handResult_setLineRec]
  · rw [writeNode_setLineRec, handResult_setLineRec]
  · split_ifs
    · exact loseNode_setLineRec
    · exact writeNode_setLineRec

theorem turnOutcome_setLineRec (c : Condition) (settings : r.active = (s.line l).active) :
    turnOutcome l x c chars (setLineRec l r s) = setLineRec l r (turnOutcome l x c chars s) := by
  cases turn : x.turn with
  | set => rw [turnOutcome_set turn, turnOutcome_set turn, setOutcome_setLineRec c settings]
  | join stage => rw [turnOutcome_join turn, turnOutcome_join turn, joinOutcome_setLineRec]

theorem line_turnOutcome (c : Condition) : (turnOutcome l x c chars s).line l = s.line l := by
  have beside := turnOutcome_setLineRec (chars := chars) (x := x) (r := s.line l) c rfl
  rw [setLineRec_line] at beside
  rw [beside, State.line_setLineRec, if_pos rfl]

end

/-! ### The marks of a line -/

/-- The line's record with its pending start, its overrun and the period of its timer written. -/
def marked (p o : Bool) (period : Nat) (r : LineRec) : LineRec :=
  { r with pendingStart := p, overrun := o, timerPeriod := period }

def markLine (l : Line) (p o : Bool) (period : Nat) (s : State) : State := setLineRec l (marked p o period (s.line l)) s

section

variable {l : Line} {p o : Bool} {period : Nat} {i : Fin 40} {s : State}

theorem line_markLine : (markLine l p o period s).line l = marked p o period (s.line l) := by
  simp [markLine]

theorem markLine_own {r : LineRec} (own : s.line l = marked p o period r) : markLine l p o period s = s := by
  have kept : marked p o period (s.line l) = s.line l := by rw [own]; rfl
  rw [markLine, kept, setLineRec_line]

theorem node_markLine : (markLine l p o period s).node i = s.node i := State.node_setLineRec ..

/-- Marks written over the marks. -/
theorem updateLine_marks {q v : Bool} {k : Nat} (g : LineRec → LineRec)
    (written : g (marked p o period (s.line l)) = marked q v k (s.line l)) :
    setLineRec l (g ((markLine l p o period s).line l)) (markLine l p o period s) = markLine l q v k s := by
  rw [line_markLine, written, markLine, setLineRec_setLineRec, markLine]

/-- What writes a line's record beside the marks carries them. -/
theorem updateLine_markLine (g : LineRec → LineRec) (beside : ∀ r, g (marked p o period r) = marked p o period (g r)) :
    setLineRec l (g ((markLine l p o period s).line l)) (markLine l p o period s) =
      markLine l p o period (setLineRec l (g (s.line l)) s) := by
  rw [line_markLine, beside, markLine, markLine, setLineRec_setLineRec, setLineRec_setLineRec, State.line_setLineRec, if_pos rfl]

theorem setNodeRec_markLine (n : Node) :
    setNodeRec i n (markLine l p o period s) = markLine l p o period (setNodeRec i n s) := by
  rw [markLine, setNodeRec_setLineRec, markLine, State.line_setNodeRec]

theorem beginTurn_markLine (k : Turn) :
    beginTurn l i k (markLine l p o period s) = markLine l p o period (beginTurn l i k s) :=
  updateLine_markLine (fun r => { r with
    round := .underWay i
    exchange := some { index := i, turn := k, order := [], group := none, further := 0, discard := false, phase := .ready } })
    fun _ => rfl

theorem writeNode_markLine (n : Node) : writeNode i n (markLine l p o period s) = markLine l p o period (writeNode i n s) := by
  rw [markLine, writeNode_setLineRec, markLine, line_writeNode]

theorem turnOutcome_markLine (x : Exchange) (c : Condition) (chars : List RxChar) :
    turnOutcome l x c chars (markLine l p o period s) = markLine l p o period (turnOutcome l x c chars s) := by
  have beside := turnOutcome_setLineRec (chars := chars) (x := x) (r := marked p o period (s.line l)) c rfl
  exact beside.trans (by rw [markLine, line_turnOutcome])

/-! ### Rounds with a mark -/

theorem visit_markLine :
    visit l i (markLine l p o period s) = (markLine l p o period (visit l i s).1, (visit l i s).2) := by
  by_cases takes : TakesTurn l (s.node i)
  · rw [visit_takes (by rwa [node_markLine]), visit_takes takes, node_markLine, writeNode_markLine, beginTurn_markLine]
  · rw [visit_passes (by rwa [node_markLine]), visit_passes takes, node_markLine, setNodeRec_markLine]

theorem visitAll_markLine (is : List (Fin 40)) :
    visitAll l is (markLine l p o period s) = (markLine l p o period (visitAll l is s).1, (visitAll l is s).2) := by
  induction is generalizing s with
  | nil => rfl
  | cons i rest ih =>
    rw [visitAll, visitAll, visit_markLine]
    rcases visit l i s with ⟨t, _ | _⟩
    · exact ih
    · rfl

theorem runOn_markLine :
    runOn l i (markLine l p o period s) = (markLine l p o period (runOn l i s).1, (runOn l i s).2) := by
  have cleared := updateLine_markLine (l := l) (p := p) (o := o) (period := period) (s := s)
    (fun r => { r with exchange := none }) fun _ => rfl
  exact (congrArg _ cleared).trans (visitAll_markLine _)

theorem setRoundIdle_markLine : setRoundIdle l (markLine l p o period s) = markLine l p o period (setRoundIdle l s) :=
  updateLine_markLine (fun r => { r with round := .idle, exchange := none }) fun _ => rfl

theorem beginRound_markLine : beginRound l (markLine l p o period s) = markLine l p o period (beginRound l s) :=
  updateLine_markLine (fun r => { r with
    active := r.pending, roundCount := (r.roundCount + 1) % 65536, round := .underWay 0 }) fun _ => rfl

theorem startRound_markLine : startRound l (markLine l p o period s) = markLine l p o period (startRound l s) := by
  rw [startRound_eq, startRound_eq, beginRound_markLine, visitAll_markLine, setRoundIdle_markLine]
  dsimp only
  split_ifs <;> rfl

/-- A round that starts takes no account of where the last one stood. -/
theorem startRound_setRoundIdle :
    startRound l (setRoundIdle l s) = startRound l (setLineRec l { s.line l with exchange := none } s) := by
  have begun : beginRound l (setRoundIdle l s) = beginRound l (setLineRec l { s.line l with exchange := none } s) := by
    simp only [beginRound, setRoundIdle, setLineRec_setLineRec, State.line_setLineRec, if_true]
  rw [startRound, startRound, begun]

/-- What is left of a round that goes on with no start pending: the turn that it runs on to, or the IDLE line. -/
def roundLeft (l : Line) (i : Fin 40) (s : State) : State :=
  if (runOn l i s).2 = true then (runOn l i s).1 else setRoundIdle l (runOn l i s).1

/-- The round is under way exactly where it has run on to a turn. -/
theorem round_visitAll {is : List (Fin 40)} (begun : (visitAll l is s).2 = true) :
    ((visitAll l is s).1.line l).round ≠ .idle := by
  induction is generalizing s with
  | nil => cases begun
  | cons j rest ih =>
    by_cases takes : TakesTurn l (s.node j)
    · rw [visitAll, visit_takes takes, line_beginTurn, if_pos rfl]
      exact nofun
    · rw [visitAll_cons_passes takes] at begun ⊢
      exact ih begun

theorem round_roundLeft : ((roundLeft l i s).line l).round = .idle ↔ (runOn l i s).2 = false := by
  unfold roundLeft
  by_cases begun : (runOn l i s).2 = true
  · rw [if_pos begun, begun]
    exact iff_of_false (round_visitAll begun) nofun
  · rw [if_neg begun, setRoundIdle, State.line_setLineRec, if_pos rfl]
    exact iff_of_true rfl (Bool.eq_false_of_not_eq_true begun)

theorem continueRound_calm :
    continueRound l i (markLine l false o period s) = markLine l false o period (roundLeft l i s) := by
  rw [continueRound_eq, runOn_markLine, roundLeft]
  dsimp only
  split_ifs
  · rfl
  · rw [endRound, line_markLine]
    exact (if_neg nofun).trans setRoundIdle_markLine

/-- With a start pending, it stays so where a turn begins; where the round has ended, the next starts. -/
theorem continueRound_pending : continueRound l i (markLine l true o period s) =
    if ((roundLeft l i s).line l).round = .idle then markLine l false o period (startRound l (roundLeft l i s))
    else markLine l true o period (roundLeft l i s) := by
  simp only [round_roundLeft]
  rw [continueRound_eq, runOn_markLine, roundLeft]
  cases begun : (runOn l i s).2 with
  | true => rfl
  | false =>
    have ended : endRound l (markLine l true o period (runOn l i s).1) =
        startRound l (markLine l false o period (setLineRec l { (runOn l i s).1.line l with exchange := none } (runOn l i s).1)) := by
      rw [endRound, line_markLine]
      refine (if_pos rfl).trans (congrArg _ ?_)
      rw [markLine, markLine, setLineRec_setLineRec, setLineRec_setLineRec, State.line_setLineRec, if_pos rfl]
      rfl
    exact ended.trans (startRound_markLine.trans (congrArg _ startRound_setRoundIdle.symm))

end

/-! ### The events that end a turn -/

/-- The event meets the line's record alike whatever its marks: it leaves the line in its round, or the round goes on. -/
def EndsUnmarked (l : Line) (e : State → State) (s : State) : Prop :=
  (∃ v, (v.line l).round = (s.line l).round ∧ ∀ p o k, e (markLine l p o k s) = markLine l p o k v) ∨
  ∃ i v, ∀ p o k, e (markLine l p o k s) = continueRound l i (markLine l p o k v)

section

variable {l : Line} {x : Exchange} {s : State}

theorem judgedState_markLine (i : Fin 40) (c : Condition) (p o : Bool) (k : Nat) :
    judgedState i c (markLine l p o k s) = markLine l p o k (judgedState i c s) := by
  rw [judgedState, node_markLine, setNodeRec_markLine, judgedState]

theorem endsUnmarked_attemptEnd (x : Exchange) (judged : Node → Condition) (chars : List RxChar) (s : State) :
    EndsUnmarked l (attemptEnd l x judged chars) s := by
  cases discard : x.discard with
  | true => exact .inr ⟨x.index, s, fun p o k => attemptEnd_discards discard⟩
  | false =>
    let c := judged (s.node x.index)
    have judgement (p o k) : judged ((markLine l p o k s).node x.index) = c := by rw [node_markLine]
    have settings (p o k) : ((markLine l p o k s).line l).active = (s.line l).active := by rw [line_markLine]; rfl
    by_cases retries : c.failed = true ∧ x.further < (s.line l).active.retryLimit
    · let again (r : LineRec) : LineRec := { r with exchange := some { x with further := x.further + 1, phase := .ready } }
      refine .inl ⟨setLineRec l (again (s.line l)) (judgedState x.index c s), ?_, fun p o k => ?_⟩
      · rw [State.line_setLineRec, if_pos rfl]
      · rw [attemptEnd_retries discard (judgement p o k) retries.1 ((settings p o k).symm ▸ retries.2), judgedState_markLine,
          line_markLine]
        simp only [markLine, setLineRec_setLineRec, State.line_setLineRec, if_true]
        rfl
    · refine .inr ⟨x.index, turnOutcome l x c chars (judgedState x.index c s), fun p o k => ?_⟩
      have spent : c.failed = false ∨ (s.line l).active.retryLimit ≤ x.further := by
        rwa [not_and_or, Bool.not_eq_true, not_lt] at retries
      rw [attemptEnd_ends discard (judgement p o k) ((settings p o k).symm ▸ spent), judgedState_markLine,
        turnOutcome_markLine]

theorem endsUnmarked_id (s : State) : EndsUnmarked l id s := .inl ⟨s, rfl, fun _ _ _ => rfl⟩

/-- The events that end a turn, at any exchange of the line. -/
theorem endsUnmarked_of_exchange {e : State → State} {phase : AttemptPhase} {judged : Exchange → Node → Condition}
    {chars : List RxChar}
    (event : ∀ s, e s = match (s.line l).exchange with
      | some x => if x.phase = phase then attemptEnd l x (judged x) chars s else s
      | none => s) (s : State) : EndsUnmarked l e s := by
  have exchange (p o k) : ((markLine l p o k s).line l).exchange = (s.line l).exchange := by rw [line_markLine]; rfl
  have meets (f : State → State) (same : ∀ p o k, e (markLine l p o k s) = f (markLine l p o k s))
      (ends : EndsUnmarked l f s) : EndsUnmarked l e s := by simpa only [EndsUnmarked, same] using ends
  cases serves : (s.line l).exchange with
  | none => exact meets id (fun p o k => by rw [event, exchange, serves]; rfl) (endsUnmarked_id s)
  | some x =>
    by_cases due : x.phase = phase
    · exact meets _ (fun p o k => by rw [event, exchange, serves]; exact if_pos due)
        (endsUnmarked_attemptEnd x (judged x) chars s)
    · exact meets id (fun p o k => by rw [event, exchange, serves]; exact if_neg due) (endsUnmarked_id s)

theorem endsUnmarked_event {i : Instr} (event : i = .replyWaitExpiry l ∨ ∃ chars, i = .answerEnd l chars) (s : State) :
    ∃ e : State → State, (∀ t, exec i t = .next (e t)) ∧ EndsUnmarked l e s := by
  rcases event with rfl | ⟨chars, rfl⟩
  · exact ⟨_, fun _ => rfl, endsUnmarked_of_exchange (fun _ => rfl) s⟩
  · exact ⟨_, fun _ => rfl, endsUnmarked_of_exchange (judged := fun x n => judge x n (chars.take 259)) (fun _ => rfl) s⟩

/-- What the event leaves where no start is pending, and what where one is. -/
theorem endsUnmarked_pending {e : State → State} {o : Bool} {k : Nat} (ends : EndsUnmarked l e s)
    (underWay : (s.line l).round ≠ .idle) : ∃ w, e (markLine l false o k s) = markLine l false o k w ∧
      e (markLine l true o k s) =
        if (w.line l).round = .idle then markLine l false o k (startRound l w) else markLine l true o k w := by
  rcases ends with ⟨v, round, marks⟩ | ⟨i, v, goes⟩
  · exact ⟨v, marks .., (marks ..).trans (if_neg (round ▸ underWay)).symm⟩
  · exact ⟨roundLeft l i v, (goes ..).trans continueRound_calm, (goes ..).trans continueRound_pending⟩

end

/-- The timer expiry on the IDLE line starts the round with the timer reloaded and the overrun flag clear. -/
theorem roundTimerExpiry_markLine {l : Line} {p o : Bool} {k : Nat} {w : State} (idle : (w.line l).round = .idle) :
    roundTimerExpiry l (markLine l p o k w) = markLine l p false (w.line l).active.roundPeriod (startRound l w) := by
  have round : ((markLine l p o k w).line l).round = .idle := by
    rw [line_markLine]
    exact idle
  have expired : setLineRec l (expiredLine ((markLine l p o k w).line l)) (markLine l p o k w) =
      markLine l p false (w.line l).active.roundPeriod w := updateLine_marks expiredLine (by rfl)
  rw [roundTimerExpiry_idle round, expired, startRound_markLine]

/-- Settles O34: the marks carried through the event, and through the round that starts. -/
theorem pendingStartBeginsTheNextRound : Obligations.PendingStartBeginsTheNextRound := by
  intro l i s t event pending ⟨j, way⟩ calm
  obtain ⟨e, run, ends⟩ := endsUnmarked_event event s
  have underWay : (s.line l).round ≠ .idle := by
    rw [way]
    exact nofun
  obtain ⟨w, left, leftPending⟩ := endsUnmarked_pending (o := (s.line l).overrun) (k := (s.line l).timerPeriod) ends underWay
  have own : marked true (s.line l).overrun (s.line l).timerPeriod (s.line l) = s.line l := by rw [marked, ← pending]
  rw [markLine_own own.symm] at leftPending
  obtain rfl : markLine l false (s.line l).overrun (s.line l).timerPeriod w = t :=
    left.symm.trans (Host.Outcome.next.inj ((run _).symm.trans calm))
  have round : ((markLine l false (s.line l).overrun (s.line l).timerPeriod w).line l).round = (w.line l).round := by
    rw [line_markLine]
    rfl
  rw [run, leftPending, round]
  refine ⟨fun goesOn => congrArg Host.Outcome.next ?_, fun idle => ⟨_, rfl, congrArg Host.Outcome.next ?_⟩⟩
  · exact (if_neg goesOn).trans (updateLine_marks (fun r => { r with pendingStart := true }) (by rfl)).symm
  · rw [if_pos idle, roundTimerExpiry_markLine idle]
    exact (updateLine_marks (fun r => { r with
      timerPeriod := (s.line l).timerPeriod, overrun := (s.line l).overrun }) (by rfl)).symm

end Sys2Proof.Machine
end
